-- ==== Sys2Proof/Word.lean ====
section
/-! DEFINITION. The word types of the UJ480 (00_scope, "Words and order"). -/

namespace Sys2Proof

/-- A word of the store and of the port bus: 32 bits. -/
abbrev Word := BitVec 32

/-- A halfword: the unit of the profile ROM (R201). -/
abbrev Half := BitVec 16

/-- A byte of the store. -/
abbrev Byte := BitVec 8

end Sys2Proof
end

