-- ==== Sys2Proof/Syntax.lean ====
section
/-! DEFINITION. The commands of the UJ480: one constructor of `Instr` for each row of
spec/opcode_table.json, with the operands the row's rule gives it. -/

namespace Sys2Proof

/-- The two physical controller ports. Which of them is the office port is a field of the profile (R201). -/
inductive PortId where
  | first
  | second
  deriving DecidableEq, Repr

/-- The size of an access (00_scope, "External connections"). -/
inductive Size where
  | byte
  | half
  | word
  deriving DecidableEq, Repr

/-- The two books whose records a port can latch (R72). -/
inductive LatchBook where
  | accounts
  | lots
  deriving DecidableEq, Repr

/-- The two books that have an owner word (R78). -/
inductive OwnedBook where
  | quayside
  | desk
  deriving DecidableEq, Repr

/-- The slot parameter words of books 5 and 6 (R75). Desk slots 0 and 1 are the rostrums, 2 is the desk. -/
inductive ParamWord where
  | boat (scale : Fin 8)
  | species (scale : Fin 8)
  | grade (scale : Fin 8)
  | holder (gate : Fin 4)
  | requestBoat (bay : Fin 6)
  | requestKg (bay : Fin 6)
  | deliveredKg (bay : Fin 6)
  | desk (slot : Fin 3) (index : Fin 4)
  deriving DecidableEq, Repr

/-- The times within a long step of the engine that a tail write can tell apart: in FORMAT before step 7,
between steps 7 and 8, and after step 8 (R33); in a close, when its count of lots withdrawn stands at a
number, from the start of the scan or the entry before on (R186, R189). -/
inductive RunPoint where
  | before7
  | before8
  | before9
  | withdrawn (lots : Nat)
  deriving DecidableEq, Repr

/-- What runs the FORMAT or the close that a tail write falls within: the posting in hand, an ENGINE_FORMAT
or an ENGINE_RESUME that a port writes just before, the release of JOURNAL_WAIT, or the end of start-up,
where a close that stopped runs again (R22, R31, R45, R189, R192). -/
inductive RunWork where
  | inHand
  | engineFormat (port : PortId)
  | engineResume (port : PortId)
  | journalRelease
  | startUp
  deriving DecidableEq, Repr

/-- A FORMAT or a close that a tail write falls within: what runs it, the time of the write, and the tail
writes that follow within it, in their order (log 49). -/
structure EngineRun where
  work  : RunWork
  point : RunPoint
  later : List (RunPoint × PortId × Word)
  deriving DecidableEq, Repr

/-- What a reset, or the end of main power, falls within (R48, log 8): the work in hand, the start-up that a
power-up just before it runs, what a port's word write taken just before it sets going, a FORMAT or a close
with its tail writes, a second tick, or a step of the Ice Unit. -/
inductive CutWork where
  | inHand
  | powerUp
  | write (port : PortId) (addr : BitVec 24) (data : Word)
  | tailWithin (port : PortId) (data : Word) (run : EngineRun)
  | tick
  | heldTrigger (bay : Fin 6)
  | writeBack (bay : Fin 6)
  deriving DecidableEq, Repr

/-- A cut: the work it falls within, and how many of that work's store writes still land (R48, log 8). -/
structure Cut where
  work   : CutWork
  writes : Nat
  deriving DecidableEq, Repr

/-- A reset: what it falls within, and whether its start-up ends before the next command comes (log 2). -/
structure ResetEvent where
  cut  : Cut
  ends : Bool
  deriving DecidableEq, Repr

/-- A tail write: its word, and the FORMAT or the close it falls within, when it falls within one (R33, R42,
R189, log 49). -/
structure TailEvent where
  word   : Word
  within : Option EngineRun
  deriving DecidableEq, Repr

/-- The commands. A port row carries the physical port and, where the row leaves it open, the word
written; a row with a fixed word (STEP, QUAY_RESTART and the like) carries the port alone. -/
inductive Instr where
  /-- POWER_UP (R174). -/
  | powerUp
  /-- RESET (R202), with the work it falls within (R48). -/
  | reset (event : ResetEvent)
  /-- SECOND_TICK (R169). -/
  | secondTick
  /-- STALL_TIMEOUT (R162): the tick at which bay `bay` reaches DISPENSE_LIMIT. -/
  | stallTimeout (bay : Fin 6)
  /-- CRYSTAL_STOP (R172): the crystal stops with the prescaler at `count`. -/
  | crystalStop (count : BitVec 15)
  /-- PORT_READ (R58). -/
  | portRead (port : PortId) (addr : BitVec 24) (size : Size)
  /-- DESCRIPTOR_FETCH_DONE (R63): the fetch of the descriptor of book `book` ends. -/
  | descriptorFetchDone (book : BitVec 6)
  /-- GUARDED_READ_RESUME (R71). -/
  | guardedReadResume (port : PortId)
  /-- LATCHING_READ (R72): a word read at offset 64 × `index`. -/
  | latchingRead (port : PortId) (book : LatchBook) (index : BitVec 12)
  /-- CLOCK_DATE_READ (R74). -/
  | clockDateRead (port : PortId)
  /-- CLOCK_TIME_READ (R74). -/
  | clockTimeRead (port : PortId)
  /-- PORT_WRITE (R58). -/
  | portWrite (port : PortId) (addr : BitVec 24) (size : Size) (data : Word)
  /-- DESCRIPTOR_WORD_WRITE (R65): word `second` (0 or 1) of the descriptor of book 7 + `slot`. -/
  | descriptorWordWrite (port : PortId) (slot : Fin 57) (second : Fin 2) (data : Word)
  /-- INVALIDATE_ALL (R66). -/
  | invalidateAll (port : PortId)
  /-- STEP (R24). -/
  | step (port : PortId)
  /-- ENGINE_RESUME (R22). -/
  | engineResume (port : PortId)
  /-- ENGINE_FORMAT (R22). -/
  | engineFormat (port : PortId)
  /-- COMMAND_ZERO (R196). -/
  | commandZero (port : PortId)
  /-- HALL_MODE_TRADING (R195). -/
  | hallModeTrading (port : PortId)
  /-- HALL_MODE_SETUP (R195). -/
  | hallModeSetup (port : PortId)
  /-- NOTICE_FLAGS_CLEAR (R198). -/
  | noticeFlagsClear (port : PortId) (data : Word)
  /-- NOTICE_ENABLE_WRITE (R199). -/
  | noticeEnableWrite (port : PortId) (data : Word)
  /-- CLOCK_HOLD_ON (R170): CLOCK_CONTROL is written with `data` and hold on. -/
  | clockHoldOn (port : PortId) (data : Word)
  /-- CLOCK_HOLD_OFF (R170): CLOCK_CONTROL is written with `data` and hold off. -/
  | clockHoldOff (port : PortId) (data : Word)
  /-- CLEAR_FAIL (R173): CLOCK_CONTROL is written with `data` and the clear-fail request. -/
  | clearFail (port : PortId) (data : Word)
  /-- CLEAR_MATCHED (R173): CLOCK_CONTROL is written with `data`, whose bits 7–4 are the clear requests. -/
  | clearMatched (port : PortId) (data : Word)
  /-- CLOCK_DATE_WRITE (R171). -/
  | clockDateWrite (port : PortId) (data : Word)
  /-- CLOCK_TIME_WRITE (R171). -/
  | clockTimeWrite (port : PortId) (data : Word)
  /-- TARIFF_BAND_WRITE (R152). -/
  | tariffBandWrite (port : PortId) (data : Word)
  /-- SCHEDULE_WRITE (R176). -/
  | scheduleWrite (port : PortId) (entry : Fin 4) (data : Word)
  /-- DECLARE_MODE_WRITE (R125). -/
  | declareModeWrite (port : PortId) (data : Word)
  /-- STEP_MODE_WRITE (R23). -/
  | stepModeWrite (port : PortId) (data : Word)
  /-- TAIL_WRITE (R42), with the FORMAT or the close it falls within, if any (R33, R189). -/
  | tailWrite (port : PortId) (data : TailEvent)
  /-- JOURNAL_WAIT_RELEASE (R45). -/
  | journalWaitRelease
  /-- OWNER_WRITE (R78). -/
  | ownerWrite (port : PortId) (book : OwnedBook) (data : Word)
  /-- FAULT_RECORD_CLEAR (R61). -/
  | faultRecordClear (port : PortId)
  /-- QUAY_INDICATION_CLEAR (R200). -/
  | quayIndicationClear (port : PortId) (data : Word)
  /-- QUAY_RESTART (R197). -/
  | quayRestart (port : PortId)
  /-- SLOT_PARAMETER_WRITE (R75). -/
  | slotParameterWrite (port : PortId) (param : ParamWord) (data : Word)
  /-- ROSTRUM_TRIGGER (R112): `data` is the kind code written. -/
  | rostrumTrigger (port : PortId) (rostrum : Fin 2) (data : Word)
  /-- DESK_TRIGGER (R76): `data` is the kind code written. -/
  | deskTrigger (port : PortId) (data : Word)
  /-- COMMIT (R93). -/
  | commit (port : PortId) (scale : Fin 8) (data : Word)
  /-- SAMPLE (R83). -/
  | sample (port : PortId) (scale : Fin 8) (data : Word)
  /-- TEST (R88). -/
  | test (port : PortId) (scale : Fin 8) (data : Word)
  /-- RAW (R127). -/
  | raw (port : PortId) (reader : Fin 12) (data : Word)
  /-- BAY_REQUEST (R156). -/
  | bayRequest (port : PortId) (bay : Fin 6) (data : Word)
  /-- BAY_DONE (R159). -/
  | bayDone (port : PortId) (bay : Fin 6) (data : Word)
  /-- BAY_HELD_TRIGGER (R155). -/
  | bayHeldTrigger (bay : Fin 6)
  /-- BAY_RECORD_WRITE_BACK (R155). -/
  | bayRecordWriteBack (bay : Fin 6)
  /-- INTERNAL_ADMISSION (R11). -/
  | internalAdmission
  /-- OPEN_ACCOUNT (R26). -/
  | openAccount
  /-- SET_CREDIT (R27). -/
  | setCredit
  /-- FREEZE (R28). -/
  | freeze
  /-- THAW (R28). -/
  | thaw
  /-- CLOSE_ACCOUNT (R29). -/
  | closeAccount
  /-- TRANSFER (R30). -/
  | transfer
  /-- FORMAT (R32). -/
  | format
  /-- LAND (R100). -/
  | land
  /-- SELL (R117). -/
  | sell
  /-- WITHDRAW (R118). -/
  | withdraw
  /-- LEND (R141). -/
  | lend
  /-- RETURN (R143). -/
  | returnCrate
  /-- REGISTER_CRATE (R144). -/
  | registerCrate
  /-- RETIRE_CRATE (R145). -/
  | retireCrate
  /-- WRITE_OFF (R146). -/
  | writeOff
  /-- ICE_HOLD (R158). -/
  | iceHold
  /-- ICE_SETTLE (R160). -/
  | iceSettle
  /-- BAY_RELEASE (R164). -/
  | bayRelease
  /-- DAY_CLOSE (R183). -/
  | dayClose
  /-- CRYSTAL_RUNS_AGAIN (R172). -/
  | crystalRunsAgain
  /-- MAIN_POWER_OFF (R169). `cut` is the work it falls within (R48). -/
  | mainPowerOff (cut : Cut)
  /-- BACKUP_SUPPLY_LOST (R174). -/
  | backupSupplyLost
  /-- UNKNOWN_KIND (R17). -/
  | unknownKind
  deriving DecidableEq, Repr

end Sys2Proof
end

