-- ==== Sys2Proof/Config.lean ====
section
/-! DEFINITION. What an implementation or a board fixes and the manual leaves open. -/

namespace Sys2Proof.Config

/-- FREE VALUE (log 12): whether the first physical port counts as the office port while no valid
profile is held (R201 gives the office port select only with a valid profile). -/
opaque officeIsFirst : Bool

end Sys2Proof.Config
end

