-- ==== Sys2Proof/Machine/State.lean ====
section
/-! DEFINITION. The state of the UJ480 as plain data: every register, latch, queue, flag and copy
that the manual names, the store, and the queue of commands; the reasons a step can stop; and the
state right after reset. -/

namespace Sys2Proof.Machine

/-! ## The store -/

/-- The battery-backed store (R52, R79): its bytes, the byte addresses whose parity bit fails
(00_scope, "Store port"), and the model's write fuse (log 8). An address that `cells` does not list
holds zero (log 5). -/
structure Memory where
  /-- The bytes that are not zero, addresses strictly rising. -/
  cells : List Host.Cell
  /-- The byte addresses whose parity bit fails, strictly rising. -/
  bad   : List Nat
  /-- How many more writes land before a reset cuts the work in hand; none outside such a cut. -/
  fuse  : Option Nat
  deriving DecidableEq, Repr

/-- The canonical form of the store: addresses strictly rising, and no entry equal to what an
unlisted address holds. -/
abbrev Memory.wf (m : Memory) : Prop :=
  m.cells.Pairwise (fun c d => c.1 < d.1) ∧ (∀ c ∈ m.cells, c.2 ≠ 0#8) ∧
    m.bad.Pairwise (fun a b => a < b)

/-- A block inside the internal requester of the Store Arbiter (R79). -/
inductive Block where
  | engine
  | cache
  | ice
  | loader
  deriving DecidableEq, Repr

/-- A requester at the store port's grant pointer (R79). -/
inductive Requester where
  | office
  | quay
  | internal
  deriving DecidableEq, Repr

/-- The Store Arbiter's two grant pointers (R79). -/
structure Arbiter where
  port  : Requester
  inner : Block
  deriving DecidableEq, Repr

/-! ## Names -/

/-- Which controller a port serves (R55). -/
inductive Side where
  | office
  | quay
  deriving DecidableEq, Repr

/-- The part state (R201), and main power off (R169). -/
inductive PartState where
  | unpowered
  | starting
  | noProfile
  | running
  deriving DecidableEq, Repr

/-- The hall mode (R195). -/
inductive HallMode where
  | setup
  | trading
  deriving DecidableEq, Repr

/-- The tariff band (R152). -/
inductive Band where
  | a
  | b
  deriving DecidableEq, Repr

/-- The declare mode (R125). -/
inductive DeclareMode where
  | fast
  | sure
  deriving DecidableEq, Repr

/-- The states of the Posting Engine (R13). -/
inductive EngineState where
  | idle
  | applying
  | journalWait
  | paused
  | halted
  | closingDay
  | formatting
  deriving DecidableEq, Repr

/-- The posting kinds (chapter 11, "Codes"), with the journal-only kind DAY_CLOSED. -/
inductive PostKind where
  | openAccount
  | setCredit
  | freeze
  | thaw
  | closeAccount
  | transfer
  | format
  | registerCrate
  | retireCrate
  | writeOff
  | bayRelease
  | dayClose
  | sell
  | withdraw
  | land
  | iceHold
  | iceSettle
  | lend
  | returnCrate
  | dayClosed
  deriving DecidableEq, Repr

/-- The refusal reasons (chapter 11, "Codes"). -/
inductive Reason where
  | hallSetup
  | hallTrading
  | noAccount
  | wrongKind
  | frozen
  | credit
  | range
  | notEmpty
  | notSettled
  | duplicate
  | crateHolder
  | badTag
  | netNegative
  | lotsFull
  | noLot
  | lotState
  | crateState
  | bayBusy
  | notDispensing
  | notStalled
  | dayMismatch
  | badValue
  | unknownKind
  | storeError
  deriving DecidableEq, Repr

/-- The fault reasons of an access (R55, R58). -/
inductive FaultReason where
  | noProfile
  | noBook
  | limit
  | rights
  | writeLock
  | misaligned
  | partialWrite
  | readOnly
  | badValue
  | setupOnly
  | clockRunning
  | notFitted
  | slotBusy
  | notQuiet
  | notFormatted
  | storeParity
  deriving DecidableEq, Repr

/-- The sources of postings (R12). Gates are numbered from reader 8. -/
inductive Source where
  | scale (n : Fin 8)
  | gate (g : Fin 4)
  | bay (b : Fin 6)
  | rostrum (r : Fin 2)
  | desk
  | schedule
  deriving DecidableEq, Repr

/-- The records a guard can claim (R16). -/
inductive RecordId where
  | account (n : Nat)
  | lot (slot : Nat)
  | crate (k : Nat)
  | bay (b : Nat)
  | engine
  deriving DecidableEq, Repr

/-! ## Times, postings, entries -/

/-- A time stamp: seconds since 2000-01-01 00:00:00, and the UNSURE mark (R175). -/
structure Stamp where
  count  : Word
  unsure : Bool
  deriving DecidableEq, Repr

/-- A calendar date of hall time (R168). -/
structure Date where
  year  : Nat
  month : Nat
  day   : Nat
  deriving DecidableEq, Repr

/-- A time of day of hall time (R168). -/
structure TimeOfDay where
  hour   : Nat
  minute : Nat
  second : Nat
  deriving DecidableEq, Repr

/-- The four captured parameter words (R8). -/
structure Params where
  w0 : Word
  w1 : Word
  w2 : Word
  w3 : Word
  deriving DecidableEq, Repr

/-- A posting (R8). The kind is the code as written, so that an unknown one can be journaled (R12). -/
structure Posting where
  kind   : Word
  source : Source
  params : Params
  tray   : List Word
  stamp  : Stamp
  deriving DecidableEq, Repr

/-- The fields of an account image (R38). -/
structure AccountImage where
  kind   : BitVec 3
  state  : BitVec 2
  credit : Word
  day    : Word
  balance : Word
  holds  : Word
  crates : BitVec 13
  floor  : BitVec 12
  landed : Word
  sales  : Word
  ice    : Word
  deriving DecidableEq, Repr

/-- A bay record (R149): the eight words of chapter 11 by their fields. -/
structure BayRecord where
  state     : BitVec 3
  unsure    : Bool
  boat      : Word
  requested : Word
  rate      : Word
  heldCost  : Word
  delivered : Word
  start     : Word
  elapsed   : Word
  deriving DecidableEq, Repr

/-- The engine record (R7): the four words of chapter 11 by their fields, without the check. -/
structure EngineRecord where
  head    : Word
  nextLot : Word
  day     : Word
  dayState : Byte
  formatState : Byte
  deriving DecidableEq, Repr

/-- An after-image (R37 to R40), other than the engine record image that ends every list. A crate
group carries `none` for a deposit to KEEP, and an identity when the posting sets one. -/
inductive Image where
  | account (n : BitVec 8) (fields : AccountImage)
  | lot (slot : BitVec 11) (mask : BitVec 16) (words : List Word)
  | crates (numbers : List (BitVec 12)) (state : BitVec 3) (holder : BitVec 8)
      (deposit : Option (BitVec 16)) (identity : Option (BitVec 24))
  | bay (n : BitVec 8) (fields : BayRecord)
  | engine (dayState : Byte) (head : Word) (nextLot : Word) (day : Word)
  deriving DecidableEq, Repr

/-- A journal entry (R35) without its state, its sequence and its engine record image; the outcome
is APPLIED when no reason stands in it. -/
structure JournalEntry where
  kind   : Word
  source : Source
  reason : Option Reason
  stamp  : Stamp
  params : Params
  tray   : List Word
  images : List Image
  deriving DecidableEq, Repr

/-- A posting's entry that is due (R44): the entry as decided, the next lot number its engine record
image carries, the value its report returns, and whether a store error halts the engine after it. -/
structure Due where
  posting : Posting
  entry   : JournalEntry
  nextLot : Word
  value   : Option Word
  halts   : Bool
  deriving DecidableEq, Repr

/-- A day close in progress (R184 to R190): its source and stamp, the day D it closes, the lots
withdrawn and the sold total so far, the resumed mark, and whether its end is reported (R191). -/
structure CloseWork where
  source  : Source
  stamp   : Stamp
  day     : Word
  lots    : Nat
  sold    : Nat
  resumed : Bool
  reports : Bool
  deriving DecidableEq, Repr

/-- The entry of a close that is due: the withdrawal of the lot in a slot, the DAY_CLOSED entry of
phase D, or the refused DAY_CLOSED entry of a struck step (R186, R188, R190). -/
inductive CloseDue where
  | withdrawal (slot : Nat) (entry : JournalEntry)
  | finish
  | struck
  deriving DecidableEq, Repr

/-- The Posting Engine's work in hand: a posting taken (R15 phase 1), a posting's entry due, or a
close with an entry due. -/
inductive Work where
  | none
  | taken (p : Posting)
  | due (d : Due)
  | close (c : CloseWork) (due : CloseDue)
  deriving DecidableEq, Repr

/-- Why the engine is HALTED: a posting (R21), a struck redo (R50) or a halted close (R190). -/
inductive HaltCause where
  | posting
  | redo
  | close (c : CloseWork)
  deriving DecidableEq, Repr

/-! ## STATUS groups -/

/-- The STATUS outcomes (chapter 11, "Codes"). -/
inductive SlotOutcome where
  | idle
  | taken
  | busy
  | applied
  | refused
  | go
  | held
  | settled
  | added
  | ignored
  | duplicate
  | trayFull
  deriving DecidableEq, Repr

/-- A STATUS group (R77, R102, R129, R163): fields that a kind of slot has not stay absent. -/
structure Status where
  outcome : SlotOutcome
  reason  : Option Reason
  seq     : Option Word
  value   : Option Word
  overMark : Bool
  crate   : BitVec 12
  deriving DecidableEq, Repr

/-- STATUS after reset (R77, R102, R129, R163); a reader shows crate number 0 (log 48). -/
def Status.reset : Status := ⟨.idle, none, none, none, false, 0⟩

/-! ## Paths -/

/-- An access (R52): port address, size, and the data of a write. -/
structure Access where
  addr  : BitVec 24
  size  : Size
  write : Option Word
  deriving DecidableEq, Repr

/-- What an outstanding access waits for: the end of start-up (R59), a descriptor fetch (R63), the
guard (R71), or the intake of a held bay trigger (R155). -/
inductive Wait where
  | free
  | unchecked (a : Access)
  | fetch (a : Access)
  | guard (a : Access)
  | bay (b : Fin 6)
  deriving DecidableEq, Repr

/-- The last answer on the port's bus (R55): none yet, DONE with a read's data, DONE of a write, FAULT. -/
inductive Answer where
  | none
  | data (w : Word)
  | done
  | fault (r : FaultReason)
  deriving DecidableEq, Repr

/-- A valid record snapshot (R72). -/
structure Snapshot where
  book  : LatchBook
  index : Nat
  words : List Word
  deriving DecidableEq, Repr

/-- One Store Path: the access in progress, the snapshot latch, the clock latch, and the last answer. -/
structure Path where
  wait     : Wait
  snapshot : Option Snapshot
  clock    : Option TimeOfDay
  answer   : Answer
  deriving DecidableEq, Repr

/-- A Store Path after reset (R59). -/
def Path.reset : Path := ⟨.free, none, none, .none⟩

/-- The configuration copies of the Store Paths (R70, R78). -/
structure PathCopies where
  quaysideOwner : Side
  deskOwner     : Side
  substitute    : Word
  deriving DecidableEq, Repr

/-- A descriptor as the cache decodes it: its fields and the verdict (R54, R62). -/
structure Descriptor where
  valid : Bool
  base  : BitVec 14
  limit : Word
  owner : Side
  other : BitVec 2
  lock  : Bool
  deriving DecidableEq, Repr

/-- A Descriptor Cache entry (R62). -/
inductive CacheEntry where
  | free
  | fetching (book : BitVec 6) (again : Bool)
  | held (book : BitVec 6) (d : Descriptor)
  deriving DecidableEq, Repr

/-- The Descriptor Cache (R62). -/
structure Cache where
  entries : Vector CacheEntry 16
  victim  : Fin 16
  deriving DecidableEq, Repr

/-- The access a LATCHED fault record holds (R60). -/
structure FaultInfo where
  port   : Side
  addr   : BitVec 24
  write  : Bool
  size   : Size
  reason : FaultReason
  stamp  : Stamp
  deriving DecidableEq, Repr

/-- The fault record: EMPTY when it holds no access (R60). -/
structure FaultRecord where
  latched : Option FaultInfo
  second  : Bool
  deriving DecidableEq, Repr

/-- A scale slot's shadows (R75, R81). -/
structure ScaleShadow where
  boat    : Word
  species : Word
  grade   : Word
  deriving DecidableEq, Repr

/-- A bay slot's shadows (R75, R154). -/
structure BayShadow where
  boat      : Word
  kg        : Word
  delivered : Word
  deriving DecidableEq, Repr

/-- The shadows of the slots of books 5 and 6 (R75). -/
structure Shadows where
  scale  : Vector ScaleShadow 8
  holder : Vector Word 4
  bay    : Vector BayShadow 6
  desk   : Vector Params 3
  deriving DecidableEq, Repr

/-! ## Posting Engine -/

/-- The Posting Engine (R7, R8, R11, R13, R16, R23): queue, state, work in hand, halt cause, guard
set, engine record copy, tail copy, step mode, fee rate and crate-type copies, the hall mode it
holds (R195), and the internal admission pointer. -/
structure Engine where
  state      : EngineState
  queue      : List Posting
  work       : Work
  halt       : Option HaltCause
  guard      : List RecordId
  copy       : EngineRecord
  tail       : Word
  stepMode   : Bool
  feeRate    : Word
  crateTypes : Vector Word 16
  mode       : HallMode
  pointer    : Fin 11
  deriving DecidableEq, Repr

/-! ## Weigh Unit, Tag Unit, Ice Unit -/

/-- The state of a scale channel (R80). -/
inductive ScaleState where
  | empty
  | unsettled
  | settled
  deriving DecidableEq, Repr

/-- The commit state of a scale channel, with the captured load of a PENDING one (R80). -/
inductive CommitState where
  | opened
  | pending (load : Half)
  | committed
  deriving DecidableEq, Repr

/-- A scale channel (R80). -/
structure ScaleChannel where
  state     : ScaleState
  reference : Nat
  run       : Nat
  block     : Nat
  misses    : Nat
  weight    : Nat
  load      : Half
  commit    : CommitState
  tray      : List Word
  testMiss  : Bool
  status    : Status
  deriving DecidableEq, Repr

/-- A scale channel after reset (R80). -/
def ScaleChannel.reset : ScaleChannel :=
  ⟨.empty, 0, 0, 0, 0, 0, 0, .opened, [], false, Status.reset⟩

/-- The settle parameters' copies (R82). -/
structure SettleCopies where
  band   : Word
  count  : Word
  window : Word
  brk    : Word
  empty  : Word
  deriving DecidableEq, Repr

/-- The Weigh Unit (R80, R82). -/
structure Weigh where
  scales : Vector ScaleChannel 8
  settle : SettleCopies
  deriving DecidableEq, Repr

/-- A reader channel (R123): the history stands newest last. -/
structure ReaderChannel where
  history : List Word
  last    : Option Word
  zeroRun : Nat
  held    : Bool
  pending : Option Posting
  status  : Status
  deriving DecidableEq, Repr

/-- A reader channel after reset (R123). -/
def ReaderChannel.reset : ReaderChannel := ⟨[], none, 0, false, none, Status.reset⟩

/-- The Tag Unit (R123, R125). Direction bit g is set for an OUTBOUND gate 8 + g. -/
structure Tags where
  readers    : Vector ReaderChannel 12
  mode       : DeclareMode
  clearCount : Word
  direction  : BitVec 4
  deriving DecidableEq, Repr

/-- A bay trigger held while the bay record is guarded (R155), with the shadows it was checked with
(R75) and the word written. -/
structure HeldTrigger where
  port   : PortId
  isDone : Bool
  shadow : BayShadow
  data   : Word
  deriving DecidableEq, Repr

/-- The bay record of a bay without an issue (R32). -/
def BayRecord.zero : BayRecord := ⟨0, false, 0, 0, 0, 0, 0, 0, 0⟩

/-- A bay channel (R148). `held` lists the held triggers in their order of arrival (log 26);
`writeDue` marks a change not yet written to the store record (R155); `outOfService` is R202 step 7. -/
structure BayChannel where
  copy         : BayRecord
  pending      : Option Posting
  held         : List HeldTrigger
  status       : Status
  writeDue     : Bool
  outOfService : Bool
  deriving DecidableEq, Repr

/-- A bay channel after reset, before the bay fix-ups (R148). -/
def BayChannel.reset : BayChannel := ⟨BayRecord.zero, none, [], Status.reset, false, false⟩

/-- The Ice Unit (R148, R152, R153). -/
structure Ice where
  bays    : Vector BayChannel 6
  band    : Band
  tariffA : Word
  tariffB : Word
  limit   : Word
  deriving DecidableEq, Repr

/-! ## Hall Clock and Notice Logic -/

/-- The day-close request (R180), with the posting a request is. -/
inductive CloseRequest where
  | none
  | waiting (p : Posting)
  | admitted (p : Posting)
  deriving DecidableEq, Repr

/-- The Hall Clock (R168), with the crystal as the monitor sees it (R172) and whether the backup
supply has failed since main power went (R174). -/
structure HallClock where
  date       : Date
  time       : TimeOfDay
  prescaler  : Nat
  hold       : Bool
  fail       : Bool
  crystal    : Bool
  backupLost : Bool
  schedule   : Vector Word 4
  matched    : Vector Bool 4
  previous   : Vector Bool 4
  request    : CloseRequest
  deriving DecidableEq, Repr

/-- The Notice Logic (R198 to R200), flags in the bit places of chapter 11. -/
structure Notices where
  flags      : BitVec 10
  enable     : BitVec 10
  quayFlags  : BitVec 26
  quayEnable : BitVec 26
  deriving DecidableEq, Repr

/-! ## Profile -/

/-- The fourteen halfwords of the profile ROM (R201). -/
structure Profile where
  storeSize : Half
  bases     : Vector Half 7
  scales    : Half
  gates     : Half
  bays      : Half
  sets      : Half
  select    : Half
  checkSum  : Half
  deriving DecidableEq, Repr

/-! ## The machine -/

/-- The UJ480 and the board it stands on. -/
structure State where
  /-- The part state, or main power off (R201, R169). -/
  part    : PartState
  /-- What the profile ROM answers; none when it does not (R201). -/
  rom     : Option Profile
  /-- The valid profile held since start-up (R201). -/
  profile : Option Profile
  store   : Memory
  arbiter : Arbiter
  /-- The path of the first physical port. -/
  first   : Path
  /-- The path of the second physical port. -/
  second  : Path
  copies  : PathCopies
  cache   : Cache
  fault   : FaultRecord
  shadows : Shadows
  engine  : Engine
  /-- The STATUS of rostrum slots 0 and 1 and of the desk slot (R77). -/
  desk    : Vector Status 3
  weigh   : Weigh
  tags    : Tags
  ice     : Ice
  clock   : HallClock
  notices : Notices
  /-- The commands waiting, first in first out: the model's own. -/
  pending : List Instr
  deriving DecidableEq, Repr

/-- The reasons the machine itself stops: none. Every bus fault, refusal and halt of the manual is a
state the part goes on from. -/
inductive Fault where
  deriving DecidableEq, Repr

/-- The reasons a command has no meaning. -/
inductive Refusal where
  /-- Answered by an arm of `exec` whose command has no meaning yet; safe. No arm answers it now. -/
  | notModelled (mnemonic : String)
  deriving DecidableEq, Repr

/-! ## Reset -/

/-- The zero parameter words. -/
def Params.zero : Params := ⟨0, 0, 0, 0⟩

/-- The default configuration copies of the Store Paths (R203). -/
def PathCopies.default : PathCopies := ⟨.quay, .office, 0xFFFFFFFF⟩

/-- The shadows after reset (R75). -/
def Shadows.reset : Shadows :=
  ⟨Vector.replicate 8 ⟨0, 0, 0⟩, Vector.replicate 4 0, Vector.replicate 6 ⟨0, 0, 0⟩,
    Vector.replicate 3 Params.zero⟩

/-- The Posting Engine after reset (R8, R11, R13, R195); its copies at the defaults of R203 and its
engine record copy at zero until start-up loads them (log 7). -/
def Engine.reset : Engine :=
  { state := .idle, queue := [], work := .none, halt := none, guard := [],
    copy := ⟨0, 0, 0, 0, 0⟩, tail := 0, stepMode := false, feeRate := 30,
    crateTypes := Vector.replicate 16 0, mode := .setup, pointer := 0 }

/-- The Weigh Unit after reset (R80, R203). -/
def Weigh.reset : Weigh := ⟨Vector.replicate 8 ScaleChannel.reset, ⟨20, 8, 16, 4, 500⟩⟩

/-- The Tag Unit after reset (R123, R203). -/
def Tags.reset : Tags := ⟨Vector.replicate 12 ReaderChannel.reset, .sure, 5, 0⟩

/-- The Ice Unit after reset (R148, R152, R203). -/
def Ice.reset : Ice := ⟨Vector.replicate 6 BayChannel.reset, .a, 9, 12, 600⟩

/-- The Hall Clock after a loss of its backup supply (R168, R174). -/
def HallClock.lost : HallClock :=
  { date := ⟨2000, 1, 1⟩, time := ⟨0, 0, 0⟩, prescaler := 16384, hold := false, fail := true,
    crystal := true, backupLost := false, schedule := Vector.replicate 4 0,
    matched := Vector.replicate 4 false, previous := Vector.replicate 4 false, request := .none }

/-- The profile ROM of a fully fitted board with 1 MiB of store (log 4). -/
def Profile.board : Profile :=
  { storeSize := 1, bases := #v[0, 4, 20, 148, 212, 276, 278], scales := 8, gates := 4, bays := 6,
    sets := 3, select := 0, checkSum := 960 }

/-- The machine right after reset: STARTING, every volatile field at the value its chapter gives. -/
def State.reset : State :=
  { part := .starting
    rom := some Profile.board
    profile := none
    store := ⟨[], [], none⟩
    arbiter := ⟨.office, .engine⟩
    first := Path.reset
    second := Path.reset
    copies := PathCopies.default
    cache := ⟨Vector.replicate 16 .free, 0⟩
    fault := ⟨none, false⟩
    shadows := Shadows.reset
    engine := Engine.reset
    desk := Vector.replicate 3 Status.reset
    weigh := Weigh.reset
    tags := Tags.reset
    ice := Ice.reset
    clock := HallClock.lost
    notices := ⟨0, 0, 0, 0⟩
    pending := [] }

end Sys2Proof.Machine
end

