-- ==== Sys2Proof/Machine/Ops.lean ====
section
/-! DEFINITION. The named operations over the store, the arbiter and the records: bytes, words and
parity (R52, R58, R79), book addresses (R53), and the record layouts of chapter 11. -/

namespace Sys2Proof.Machine

/-! ## Bytes and words of the store -/

/-- The byte that a list of cells holds at an address. -/
def lookup (a : Nat) : List Host.Cell → Byte
  | [] => 0
  | c :: cs => if c.1 = a then c.2 else lookup a cs

/-- The byte at a store address. -/
def Memory.byte (m : Memory) (a : Nat) : Byte := lookup a m.cells

/-- The cells of consecutive bytes from address `a`; zero bytes are not listed. -/
def cellsFrom (a : Nat) : List Byte → List Host.Cell
  | [] => []
  | b :: bs => if b = 0#8 then cellsFrom (a + 1) bs else (a, b) :: cellsFrom (a + 1) bs

/-- Put `new` in place of the `len` bytes from `a`, their parity made good. -/
def Memory.replace (m : Memory) (a len : Nat) (new : List Host.Cell) : Memory :=
  { cells := m.cells.filter (fun c => decide (c.1 < a)) ++
      (new ++ m.cells.filter (fun c => decide (a + len ≤ c.1)))
    bad := m.bad.filter (fun x => decide (x < a) || decide (a + len ≤ x))
    fuse := m.fuse }

/-- A store write, unless a reset has cut the writes off (log 8). -/
def Memory.splice (m : Memory) (a len : Nat) (new : List Host.Cell) : Memory :=
  match m.fuse with
  | none => m.replace a len new
  | some 0 => m
  | some (n + 1) => { m.replace a len new with fuse := some n }

/-- Write consecutive bytes. -/
def Memory.putBytes (m : Memory) (a : Nat) (bs : List Byte) : Memory :=
  m.splice a bs.length (cellsFrom a bs)

/-- The bytes of a word, little-endian (00_scope, "Words and order"). -/
def wordBytes (w : Word) : List Byte :=
  [w.extractLsb' 0 8, w.extractLsb' 8 8, w.extractLsb' 16 8, w.extractLsb' 24 8]

/-- Write a whole word. -/
def Memory.putWord (m : Memory) (a : Nat) (w : Word) : Memory := m.putBytes a (wordBytes w)

/-- Write words in order. -/
def Memory.putAll (m : Memory) : List (Nat × Word) → Memory
  | [] => m
  | w :: ws => (m.putWord w.1 w.2).putAll ws

/-- Zero the `len` bytes from `a`. -/
def Memory.clear (m : Memory) (a len : Nat) : Memory := m.splice a len []

/-- The word at a store address, little-endian. -/
def Memory.word (m : Memory) (a : Nat) : Word :=
  m.byte (a + 3) ++ m.byte (a + 2) ++ m.byte (a + 1) ++ m.byte a

/-- The `n` words from a store address. -/
def Memory.words (m : Memory) (a : Nat) : Nat → List Word
  | 0 => []
  | n + 1 => m.word a :: m.words (a + 4) n

/-- Whether the parity bit of any of the `len` bytes from `a` fails (R21, R58). -/
def Memory.failing (m : Memory) (a len : Nat) : Bool :=
  m.bad.any fun x => decide (a ≤ x) && decide (x < a + len)

/-- Consecutive words from address `a`, as writes. -/
def wordsAt (a : Nat) : List Word → List (Nat × Word)
  | [] => []
  | w :: ws => (a, w) :: wordsAt (a + 4) ws

/-! ## The Store Arbiter -/

/-- Who a grant of the store port goes to (R79). -/
inductive Grantee where
  | path (side : Side)
  | inner (block : Block)
  deriving DecidableEq, Repr

/-- The block after this one in the internal order (R79). -/
def Block.next : Block → Block
  | .engine => .cache
  | .cache => .ice
  | .ice => .loader
  | .loader => .engine

/-- The pointers after a grant: each moves past the requester granted (R79). -/
def Arbiter.grant (g : Arbiter) : Grantee → Arbiter
  | .path .office => { g with port := .quay }
  | .path .quay => { g with port := .internal }
  | .inner b => { port := .office, inner := b.next }

/-- The position after this one in the order of the port requesters (R79). -/
def Requester.next : Requester → Requester
  | .office => .quay
  | .quay => .internal
  | .internal => .office

/-- The first requesting block at or after the internal pointer (R79). -/
def Arbiter.chooseBlock (g : Arbiter) (asks : Block → Bool) : Option Block :=
  [g.inner, g.inner.next, g.inner.next.next, g.inner.next.next.next].find? asks

/-- What a position of the port pointer grants, when it requests (R79). -/
def Arbiter.offer (g : Arbiter) (asks : Grantee → Bool) : Requester → Option Grantee
  | .office => if asks (.path .office) then some (.path .office) else none
  | .quay => if asks (.path .quay) then some (.path .quay) else none
  | .internal => (g.chooseBlock fun b => asks (.inner b)).map .inner

/-- The grant of a free store port: the first requester at or after the pointer (R79). -/
def Arbiter.choose (g : Arbiter) (asks : Grantee → Bool) : Option Grantee :=
  [g.port, g.port.next, g.port.next.next].findSome? (g.offer asks)

/-- Store reads by one requester move the pointers and nothing else: however many words it reads while no
other requests, the pointers end past it. -/
def State.granted (s : State) (who : Grantee) : State := { s with arbiter := s.arbiter.grant who }

/-- Store words written in order by one requester while no other requests; no word is no request. -/
def State.write (s : State) (who : Grantee) (ws : List (Nat × Word)) : State :=
  { s with
    store := s.store.putAll ws
    arbiter := if ws.isEmpty then s.arbiter else s.arbiter.grant who }

/-- A store word that a requester asks to write. -/
abbrev Request := Grantee × Nat × Word

/-- The next `n` grants to requests that stand together: each goes to the requester that the arbiter
chooses, which writes the first of its words (R79). -/
def State.serveNext : Nat → List Request → State → State
  | 0, _, s => s
  | n + 1, rs, s =>
    match s.arbiter.choose fun g => rs.any fun r => r.1 == g with
    | none => s
    | some who =>
      match rs.find? fun r => r.1 == who with
      | none => s
      | some r => State.serveNext n (rs.eraseP fun r => r.1 == who) (s.write who [r.2])

/-- Requests that stand together, served word by word until none is left (R79). Each requester's words
stand in the order in which it makes them. -/
def State.serve (s : State) (rs : List Request) : State := State.serveNext rs.length rs s

/-- Words as the requests of one requester. -/
def requests (who : Grantee) (ws : List (Nat × Word)) : List Request := ws.map fun w => (who, w)

/-! ## Books -/

/-- The limits of the special books (R53). -/
def bookLimit (b : Fin 7) : Nat :=
  match b.val with
  | 0 => 4096
  | 1 => 16384
  | 2 => 131072
  | 3 => 65536
  | 4 => 65536
  | 5 => 2048
  | _ => 256

/-- The first store byte of a special book: its base is in KiB (R52). -/
def Profile.base (p : Profile) (b : Fin 7) : Nat := (p.bases.get b).toNat * 1024

/-- The first store byte of a special book, by the held profile. -/
def State.base (s : State) (b : Fin 7) : Nat :=
  match s.profile with
  | none => 0
  | some p => p.base b

/-- The store size of the held profile in bytes (R201). -/
def State.storeBytes (s : State) : Nat :=
  match s.profile with
  | none => 0
  | some p => p.storeSize.toNat * 1048576

/-- The store address of an offset of the CONTROL book. -/
def State.controlAddr (s : State) (off : Nat) : Nat := s.base 0 + off

/-- The engine record lies at 0x80 of the CONTROL book. -/
def State.engineAddr (s : State) : Nat := s.base 0 + 0x80

/-- The account record of account n lies at book 1 offset 64n. -/
def State.accountAddr (s : State) (n : Nat) : Nat := s.base 1 + 64 * n

/-- The lot record of a slot lies at book 2 offset 64 × slot. -/
def State.lotAddr (s : State) (slot : Nat) : Nat := s.base 2 + 64 * slot

/-- The crate record of crate k lies at book 3 offset 16k. -/
def State.crateAddr (s : State) (k : Nat) : Nat := s.base 3 + 16 * k

/-- The journal entry of a slot lies at book 4 offset 256 × slot. -/
def State.entryAddr (s : State) (slot : Nat) : Nat := s.base 4 + 256 * slot

/-- Bay slot b lies at QUAYSIDE offset 0x500 + 64b, its bay record first. -/
def State.bayAddr (s : State) (b : Nat) : Nat := s.base 5 + 0x500 + 64 * b

/-! ## Packed fields -/

/-- The low `len` bits from bit `lo` of a word. -/
def field (w : Word) (lo len : Nat) : BitVec len := w.extractLsb' lo len

/-- A one-bit field. -/
def flagBit (b : Bool) : BitVec 1 := BitVec.ofBool b

/-- Crate numbers packed twelve bits each, the first in the lowest bits (chapter 11). -/
def packCrates : List (BitVec 12) → Nat
  | [] => 0
  | k :: ks => k.toNat + 4096 * packCrates ks

/-- The first `n` crate numbers of a packed value. -/
def unpackCrates : Nat → Nat → List (BitVec 12)
  | 0, _ => []
  | n + 1, v => BitVec.ofNat 12 v :: unpackCrates n (v / 4096)

/-- A value as `n` words, the lowest first. -/
def natWords : Nat → Nat → List Word
  | 0, _ => []
  | n + 1, v => BitVec.ofNat 32 v :: natWords n (v / 4294967296)

/-- The value of words, the lowest first. -/
def wordsNat : List Word → Nat
  | [] => 0
  | w :: ws => w.toNat + 4294967296 * wordsNat ws

/-! ## Account records -/

/-- Account kinds (chapter 11). -/
abbrev kindUnused : BitVec 3 := 0
abbrev kindBoat : BitVec 3 := 1
abbrev kindBuyer : BitVec 3 := 2
abbrev kindHall : BitVec 3 := 3
abbrev kindPool : BitVec 3 := 4
abbrev kindCash : BitVec 3 := 5

/-- Account states (chapter 11). -/
abbrev accountOpen : BitVec 2 := 1
abbrev accountFrozen : BitVec 2 := 2
abbrev accountClosed : BitVec 2 := 3

/-- The fields of an account record that an image carries (R38), from its sixteen words. -/
def accountOf (m : Memory) (a : Nat) : AccountImage :=
  { kind := field (m.word a) 0 3
    state := field (m.word a) 8 2
    day := m.word (a + 0x04)
    balance := m.word (a + 0x08)
    credit := m.word (a + 0x0C)
    holds := m.word (a + 0x10)
    crates := field (m.word (a + 0x18)) 0 13
    floor := field (m.word (a + 0x1C)) 0 12
    landed := m.word (a + 0x20)
    sales := m.word (a + 0x24)
    ice := m.word (a + 0x28) }

/-- The account record of account n as the store holds it (R1). -/
def State.account (s : State) (n : Nat) : AccountImage := accountOf s.store (s.accountAddr n)

/-- The kind and state word of an account record. -/
def AccountImage.headWord (i : AccountImage) : Word := 0#22 ++ i.state ++ 0#5 ++ i.kind

/-- The writes of an account image: every field but the day-open balance, and the last sequence (R38). -/
def AccountImage.writes (i : AccountImage) (a : Nat) (seq : Word) : List (Nat × Word) :=
  [(a, i.headWord), (a + 0x04, i.day), (a + 0x08, i.balance), (a + 0x0C, i.credit),
    (a + 0x10, i.holds), (a + 0x18, i.crates.setWidth 32), (a + 0x1C, i.floor.setWidth 32),
    (a + 0x20, i.landed), (a + 0x24, i.sales), (a + 0x28, i.ice), (a + 0x2C, seq)]

/-- An account in use: OPEN or FROZEN (R27, R28, R30). -/
def AccountImage.inUse (i : AccountImage) : Bool :=
  i.kind != kindUnused && (i.state == accountOpen || i.state == accountFrozen)

/-! ## Lot records -/

/-- Lot states and withdraw reasons (chapter 11). -/
abbrev lotFree : BitVec 2 := 0
abbrev lotOnFloor : BitVec 2 := 1
abbrev lotSold : BitVec 2 := 2
abbrev lotWithdrawn : BitVec 2 := 3
abbrev withdrawnByDesk : BitVec 2 := 1
abbrev withdrawnByClose : BitVec 2 := 2

/-- A lot record (R106) by the fields of chapter 11, with all sixteen places of its crate list. -/
structure LotRecord where
  number : Word
  state  : BitVec 2
  reason : BitVec 2
  grade  : BitVec 3
  scale  : BitVec 3
  count  : BitVec 5
  landUnsure : Bool
  species : BitVec 8
  boat   : BitVec 8
  gross  : BitVec 19
  saleUnsure : Bool
  buyer  : BitVec 8
  net    : BitVec 19
  price  : BitVec 17
  tare   : BitVec 15
  value  : Word
  fee    : Word
  landing : Word
  sale   : Word
  places : List (BitVec 12)
  deriving DecidableEq, Repr

/-- The words of a lot record. -/
def LotRecord.words (l : LotRecord) : List Word :=
  [l.number,
    l.boat ++ l.species ++ flagBit l.landUnsure ++ l.count ++ l.scale ++ l.grade ++ l.reason ++ l.state,
    l.buyer ++ 0#4 ++ flagBit l.saleUnsure ++ l.gross,
    0#13 ++ l.net,
    l.tare ++ l.price,
    l.value, l.fee, l.landing, l.sale, 0] ++ natWords 6 (packCrates l.places)

/-- The lot record of sixteen words. -/
def lotOfWords (ws : List Word) : LotRecord :=
  let w (i : Nat) : Word := ws.getD i 0
  { number := w 0
    state := field (w 1) 0 2
    reason := field (w 1) 2 2
    grade := field (w 1) 4 3
    scale := field (w 1) 7 3
    count := field (w 1) 10 5
    landUnsure := (w 1).getLsbD 15
    species := field (w 1) 16 8
    boat := field (w 1) 24 8
    gross := field (w 2) 0 19
    saleUnsure := (w 2).getLsbD 19
    buyer := field (w 2) 24 8
    net := field (w 3) 0 19
    price := field (w 4) 0 17
    tare := field (w 4) 17 15
    value := w 5
    fee := w 6
    landing := w 7
    sale := w 8
    places := unpackCrates 16 (wordsNat (ws.drop 10)) }

/-- The lot record in a lot slot as the store holds it (R105). -/
def State.lot (s : State) (slot : Nat) : LotRecord := lotOfWords (s.store.words (s.lotAddr slot) 16)

/-- The crate list of a lot: the first crate count places (R106). -/
def LotRecord.crates (l : LotRecord) : List (BitVec 12) := l.places.take l.count.toNat

/-- The lot slot of a lot number (R105). -/
def lotSlot (number : Word) : Nat := number.toNat % 2048

/-! ## Crate records -/

/-- Crate states (chapter 11). -/
abbrev crateRetired : BitVec 3 := 0
abbrev crateInHall : BitVec 3 := 1
abbrev crateLent : BitVec 3 := 2
abbrev crateOnLot : BitVec 3 := 3
abbrev crateSold : BitVec 3 := 4
abbrev crateLost : BitVec 3 := 5

/-- A crate record (R135) by the fields of chapter 11. -/
structure CrateRecord where
  serial  : BitVec 20
  type    : BitVec 4
  state   : BitVec 3
  holder  : BitVec 8
  deposit : Word
  seq     : Word
  deriving DecidableEq, Repr

/-- The crate record at a store address. -/
def crateOf (m : Memory) (a : Nat) : CrateRecord :=
  { serial := field (m.word a) 0 20
    type := field (m.word a) 20 4
    state := field (m.word (a + 4)) 0 3
    holder := field (m.word (a + 4)) 8 8
    deposit := m.word (a + 8)
    seq := m.word (a + 12) }

/-- The crate record of crate k as the store holds it (R135). -/
def State.crate (s : State) (k : Nat) : CrateRecord := crateOf s.store (s.crateAddr k)

/-- Out of the hall with a holder and a deposit (R136), other than under a lot. -/
def CrateRecord.lentOrSold (c : CrateRecord) : Bool := c.state == crateLent || c.state == crateSold

/-- The crate number of a tag code (chapter 11). -/
def tagCrate (code : Word) : BitVec 12 := field code 20 12

/-- The serial of a tag code (chapter 11). -/
def tagSerial (code : Word) : BitVec 20 := field code 0 20

/-- A code matches the crate table when its crate is not RETIRED and carries its serial (R122). -/
def tagMatches (code : Word) (c : CrateRecord) : Bool :=
  c.state != crateRetired && c.serial == tagSerial code

/-! ## Bay records -/

/-- Bay states (chapter 11). -/
abbrev bayIdle : BitVec 3 := 0
abbrev bayHoldPending : BitVec 3 := 1
abbrev bayDispensing : BitVec 3 := 2
abbrev baySettlePending : BitVec 3 := 3
abbrev bayStalled : BitVec 3 := 4

/-- The state word of a bay record. -/
def BayRecord.headWord (r : BayRecord) : Word := 0#23 ++ flagBit r.unsure ++ 0#5 ++ r.state

/-- The eight words of a bay record. -/
def BayRecord.words (r : BayRecord) : List Word :=
  [r.headWord, r.boat, r.requested, r.rate, r.heldCost, r.delivered, r.start, r.elapsed]

/-- The bay record of eight words. -/
def bayOfWords (ws : List Word) : BayRecord :=
  let w (i : Nat) : Word := ws.getD i 0
  { state := field (w 0) 0 3
    unsure := (w 0).getLsbD 8
    boat := w 1
    requested := w 2
    rate := w 3
    heldCost := w 4
    delivered := w 5
    start := w 6
    elapsed := w 7 }

/-- The bay record of bay b as the store holds it (R149). -/
def State.bayRecord (s : State) (b : Nat) : BayRecord := bayOfWords (s.store.words (s.bayAddr b) 8)

/-- The writes of a bay record by the Ice Unit: the other words first, the state word last (R149). -/
def BayRecord.writesStateLast (r : BayRecord) (a : Nat) : List (Nat × Word) :=
  wordsAt (a + 4) r.words.tail ++ [(a, r.headWord)]

/-! ## The engine record -/

/-- Day states and format states (chapter 11). -/
abbrev dayOpen : Byte := 0
abbrev dayClosing : Byte := 1
abbrev unformatted : Byte := 0
abbrev formatting : Byte := 1
abbrev formatted : Byte := 2

/-- The check of the engine record (R205). -/
def engineCheck (low : Half) : Half := low ^^^ 0xA55A#16

/-- The state and check word of the engine record (R205). -/
def EngineRecord.stateWord (r : EngineRecord) : Word :=
  engineCheck (r.formatState ++ r.dayState) ++ (r.formatState ++ r.dayState)

/-- The engine record as the store holds it (R7). -/
def State.engineRecord (s : State) : EngineRecord :=
  let a := s.engineAddr
  { head := s.store.word a
    nextLot := s.store.word (a + 4)
    day := s.store.word (a + 8)
    dayState := field (s.store.word (a + 12)) 0 8
    formatState := field (s.store.word (a + 12)) 8 8 }

/-- Whether start-up takes the engine record as good (R205, R202 step 3). -/
def State.engineRecordGood (s : State) : Bool :=
  let w := s.store.word (s.engineAddr + 12)
  let r := s.engineRecord
  !s.store.failing s.engineAddr 16 && field w 16 16 == engineCheck (field w 0 16) &&
    (r.dayState == dayOpen || r.dayState == dayClosing) &&
    (r.formatState == unformatted || r.formatState == formatting || r.formatState == formatted)

/-- The words that a write of the engine record writes, in the order of R205: only those whose
fields change, the head last. -/
def engineWrites (a : Nat) (old new : EngineRecord) : List (Nat × Word) :=
  (if new.nextLot = old.nextLot then [] else [(a + 4, new.nextLot)]) ++
  (if new.day = old.day then [] else [(a + 8, new.day)]) ++
  (if new.stateWord = old.stateWord then [] else [(a + 12, new.stateWord)]) ++
  (if new.head = old.head then [] else [(a, new.head)])

/-! ## Records as the guard names them -/

/-- Where a record lies and how many bytes it holds. -/
def State.recordSpan (s : State) : RecordId → Nat × Nat
  | .account n => (s.accountAddr n, 64)
  | .lot slot => (s.lotAddr slot, 64)
  | .crate k => (s.crateAddr k, 16)
  | .bay b => (s.bayAddr b, 32)
  | .engine => (s.engineAddr, 16)

/-- Whether a read of the whole record meets a parity error (R21, log 17). -/
def State.recordFails (s : State) (r : RecordId) : Bool :=
  s.store.failing (s.recordSpan r).1 (s.recordSpan r).2

/-- Whether the guard set holds a record (R16). -/
def State.guarded (s : State) (r : RecordId) : Bool := s.engine.guard.contains r

/-! ## Ports and paths -/

/-- Which controller a physical port serves (R201, log 12). -/
def State.side (s : State) (p : PortId) : Side :=
  let officeFirst := match s.profile with
    | some r => r.select == 0
    | none => Config.officeIsFirst
  match p, officeFirst with
  | .first, true => .office
  | .first, false => .quay
  | .second, true => .quay
  | .second, false => .office

/-- The path of a physical port. -/
def State.path (s : State) : PortId → Path
  | .first => s.first
  | .second => s.second

/-- Replace the path of a physical port. -/
def State.setPath (s : State) (p : PortId) (x : Path) : State :=
  match p with
  | .first => { s with first := x }
  | .second => { s with second := x }

/-- The physical port that serves a controller. -/
def State.portOf (s : State) (d : Side) : PortId :=
  if s.side .first = d then .first else .second

/-! ## Indexed fields -/

/-- Apply a function to every member of a bank of channels. -/
def mapBank {α : Type} {n : Nat} (f : Fin n → α → α) (v : Vector α n) : Vector α n :=
  Vector.ofFn fun i => f i (v.get i)

/-- Whether every member of a bank satisfies a test. -/
def allBank {α : Type} {n : Nat} (v : Vector α n) (f : α → Bool) : Bool := v.toList.all f

/-- The first failed check of an ordered list gives the answer (R15 phase 4, R55). -/
def firstFail {α : Type} : List (Bool × α) → Option α
  | [] => none
  | c :: cs => if c.1 then firstFail cs else some c.2

end Sys2Proof.Machine
end

