-- ==== Sys2Proof/Machine/Flags.lean ====
section
/-! DEFINITION. The numeric codes of chapter 11, the STATUS words, the office notices, the quay
indications and the two notice lines (R198 to R200). -/

namespace Sys2Proof.Machine

/-! ## Codes -/

/-- Posting kind codes. -/
def PostKind.code : PostKind → Word
  | .openAccount => 1
  | .setCredit => 2
  | .freeze => 3
  | .thaw => 4
  | .closeAccount => 5
  | .transfer => 6
  | .format => 7
  | .registerCrate => 8
  | .retireCrate => 9
  | .writeOff => 10
  | .bayRelease => 11
  | .dayClose => 12
  | .sell => 16
  | .withdraw => 17
  | .land => 32
  | .iceHold => 33
  | .iceSettle => 34
  | .lend => 35
  | .returnCrate => 36
  | .dayClosed => 48

/-- The kinds a desk slot may submit, a rostrum may submit, and so on (R12). -/
def kindsOf : Source → List PostKind
  | .rostrum _ => [.sell, .withdraw]
  | .desk => [.openAccount, .setCredit, .freeze, .thaw, .closeAccount, .transfer, .format,
      .registerCrate, .retireCrate, .writeOff, .bayRelease, .dayClose]
  | .scale _ => [.land]
  | .bay _ => [.iceHold, .iceSettle]
  | .gate _ => [.lend, .returnCrate]
  | .schedule => [.dayClose]

/-- The kind of a posting, when it is one that its source may submit (R12, R17). -/
def Posting.kindOf (p : Posting) : Option PostKind :=
  (kindsOf p.source).find? fun k => k.code == p.kind

/-- Source codes of a journal entry. -/
def Source.code : Source → Byte
  | .scale n => BitVec.ofNat 8 n.val
  | .gate g => BitVec.ofNat 8 (8 + g.val)
  | .bay b => BitVec.ofNat 8 (16 + b.val)
  | .rostrum r => BitVec.ofNat 8 (24 + r.val)
  | .desk => 26
  | .schedule => 27

/-- Refusal reason codes. -/
def Reason.code : Reason → Byte
  | .hallSetup => 1
  | .hallTrading => 2
  | .noAccount => 3
  | .wrongKind => 4
  | .frozen => 5
  | .credit => 6
  | .range => 7
  | .notEmpty => 8
  | .notSettled => 9
  | .duplicate => 10
  | .crateHolder => 11
  | .badTag => 12
  | .netNegative => 13
  | .lotsFull => 14
  | .noLot => 15
  | .lotState => 16
  | .crateState => 17
  | .bayBusy => 18
  | .notDispensing => 19
  | .notStalled => 20
  | .dayMismatch => 21
  | .badValue => 22
  | .unknownKind => 23
  | .storeError => 24

/-- Fault reason codes, in the check order of R55. -/
def FaultReason.code : FaultReason → Word
  | .noProfile => 1
  | .noBook => 2
  | .limit => 3
  | .rights => 4
  | .writeLock => 5
  | .misaligned => 6
  | .partialWrite => 7
  | .readOnly => 8
  | .badValue => 9
  | .setupOnly => 10
  | .clockRunning => 11
  | .notFitted => 12
  | .slotBusy => 13
  | .notQuiet => 14
  | .notFormatted => 15
  | .storeParity => 16

/-- STATUS outcome codes. -/
def SlotOutcome.code : SlotOutcome → Byte
  | .idle => 0
  | .taken => 1
  | .busy => 2
  | .applied => 3
  | .refused => 4
  | .go => 5
  | .held => 6
  | .settled => 7
  | .added => 8
  | .ignored => 9
  | .duplicate => 10
  | .trayFull => 11

/-! ## STATUS groups -/

/-- A STATUS with an outcome alone. -/
def Status.plain (o : SlotOutcome) : Status := { Status.reset with outcome := o }

/-- The STATUS of an intake refusal: a reason and no sequence number (R76, R93, R156, R159). -/
def Status.refusal (r : Reason) : Status := { Status.reset with outcome := .refused, reason := some r }

/-- The code of an absent reason is 0. -/
def reasonCode : Option Reason → Byte
  | none => 0
  | some r => r.code

/-- Word 0 of a STATUS group. -/
def Status.word0 (t : Status) : Word :=
  t.crate ++ 0#1 ++ flagBit t.overMark ++ flagBit t.value.isSome ++ flagBit t.seq.isSome ++
    reasonCode t.reason ++ t.outcome.code

/-- The words of a STATUS group: a sequence number or a value that is absent reads 0 (log 48). -/
def Status.word (t : Status) : Nat → Word
  | 0 => t.word0
  | 1 => t.seq.getD 0
  | _ => t.value.getD 0

/-! ## Office notices -/

/-- The ten office notices in their bit places (R198, chapter 11). -/
inductive Notice where
  | journal
  | journalFull
  | fault
  | clockFail
  | schedule
  | paused
  | stall
  | halted
  | dayClosed
  | desk
  deriving DecidableEq, Repr

/-- The place of a notice in NOTICE_FLAGS. -/
def Notice.mask : Notice → BitVec 10
  | .journal => 0x001
  | .journalFull => 0x002
  | .fault => 0x004
  | .clockFail => 0x008
  | .schedule => 0x010
  | .paused => 0x020
  | .stall => 0x040
  | .halted => 0x080
  | .dayClosed => 0x100
  | .desk => 0x200

/-- Set a notice flag, whether its enable is set or not (R198). -/
def State.raise (s : State) (n : Notice) : State :=
  { s with notices := { s.notices with flags := s.notices.flags ||| n.mask } }

/-- Set a notice flag when a condition holds. -/
def State.raiseIf (s : State) (c : Bool) (n : Notice) : State := if c then s.raise n else s

/-- Whether a notice flag is set. -/
def State.noticed (s : State) (n : Notice) : Bool := s.notices.flags &&& n.mask != 0

/-! ## Quay indications -/

/-- The place of a scale's indication: in each range of bits the lowest number has the lowest bit (chapter 11,
log 50). -/
def scalePlace (n : Fin 8) : Nat := n.val

/-- The place of a reader's indication (chapter 11, log 50). -/
def readerPlace (r : Fin 12) : Nat := 8 + r.val

/-- The place of a bay's indication (chapter 11, log 50). -/
def bayPlace (b : Fin 6) : Nat := 20 + b.val

/-- Set a station's indication (R200). -/
def State.indicate (s : State) (place : Nat) : State :=
  { s with notices := { s.notices with quayFlags := s.notices.quayFlags ||| (1#26 <<< place) } }

/-- Set a station's indication when a condition holds. -/
def State.indicateIf (s : State) (c : Bool) (place : Nat) : State :=
  if c then s.indicate place else s

/-- Write-one clearing of the office notices (R198). -/
def State.clearNotices (s : State) (data : Word) : State :=
  { s with notices := { s.notices with flags := s.notices.flags &&& ~~~(field data 0 10) } }

/-- Write-one clearing of the quay indications (R200). -/
def State.clearIndications (s : State) (data : Word) : State :=
  { s with notices := { s.notices with quayFlags := s.notices.quayFlags &&& ~~~(field data 0 26) } }

/-! ## The notice lines -/

/-- The office notice line: any flag set whose enable is set (R199). -/
def State.officeLine (s : State) : Bool := s.notices.flags &&& s.notices.enable != 0

/-- The quay notice line (R200). -/
def State.quayLine (s : State) : Bool := s.notices.quayFlags &&& s.notices.quayEnable != 0

end Sys2Proof.Machine
end

