-- ==== Sys2Proof/Machine/Clock.lean ====
section
/-! DEFINITION. The Hall Clock (chapter 08): the calendar, time stamps, ticks, hold and setting, the
clock-fail flag, and the schedule. -/

namespace Sys2Proof.Machine

/-! ## Calendar -/

/-- Every leap year of 2000–2099 is divisible by 4 (R168). -/
def leap (year : Nat) : Bool := year % 4 == 0

/-- The number of days of a month (R168). -/
def monthDays (year month : Nat) : Nat :=
  match month with
  | 2 => if leap year then 29 else 28
  | 4 => 30
  | 6 => 30
  | 9 => 30
  | 11 => 30
  | _ => 31

/-- The days of the first `n` months of a year. -/
def daysOfMonths (year : Nat) : Nat → Nat
  | 0 => 0
  | n + 1 => daysOfMonths year n + monthDays year (n + 1)

/-- The days from 2000-01-01 to a date. -/
def Date.days (d : Date) : Nat :=
  365 * (d.year - 2000) + (d.year - 2000 + 3) / 4 + daysOfMonths d.year (d.month - 1) + (d.day - 1)

/-- The weekday, 0 for Sunday; 2000-01-01 is weekday 6 (R168). -/
def Date.weekday (d : Date) : Nat := (d.days + 6) % 7

/-- A date that CLOCK_DATE takes (R171). -/
def Date.valid (d : Date) : Bool :=
  decide (2000 ≤ d.year) && decide (d.year ≤ 2099) && decide (1 ≤ d.month) && decide (d.month ≤ 12) &&
    decide (1 ≤ d.day) && decide (d.day ≤ monthDays d.year d.month)

/-- A time of day that CLOCK_TIME takes (R171). -/
def TimeOfDay.valid (t : TimeOfDay) : Bool :=
  decide (t.hour ≤ 23) && decide (t.minute ≤ 59) && decide (t.second ≤ 59)

/-- The count of a time stamp: seconds since 2000-01-01 00:00:00 (chapter 11). -/
def stampCount (d : Date) (t : TimeOfDay) : Word :=
  BitVec.ofNat 32 (d.days * 86400 + t.hour * 3600 + t.minute * 60 + t.second)

/-- The Hall Clock's stamp at this moment, UNSURE while the clock-fail flag is set (R175). -/
def State.stamp (s : State) : Stamp := ⟨stampCount s.clock.date s.clock.time, s.clock.fail⟩

/-- The date one day on (R169); the day after 2099-12-31 is 2000-01-01. -/
def Date.next (d : Date) : Date :=
  if d.day < monthDays d.year d.month then { d with day := d.day + 1 }
  else if d.month < 12 then ⟨d.year, d.month + 1, 1⟩
  else if d.year < 2099 then ⟨d.year + 1, 1, 1⟩
  else ⟨2000, 1, 1⟩

/-- The time one second on, and whether the day ends (R169). -/
def TimeOfDay.next (t : TimeOfDay) : TimeOfDay × Bool :=
  if t.second < 59 then (⟨t.hour, t.minute, t.second + 1⟩, false)
  else if t.minute < 59 then (⟨t.hour, t.minute + 1, 0⟩, false)
  else if t.hour < 23 then (⟨t.hour + 1, 0, 0⟩, false)
  else (⟨0, 0, 0⟩, true)

/-- Whether a tick from this moment wraps hall time (R169, R172). -/
def HallClock.wraps (c : HallClock) : Bool :=
  decide (c.date = ⟨2099, 12, 31⟩) && decide (c.time = ⟨23, 59, 59⟩)

/-- Hall time one second on: the tick ends the prescaler's count (R169). -/
def HallClock.advance (c : HallClock) : HallClock :=
  { c with
    time := c.time.next.1
    date := if c.time.next.2 then c.date.next else c.date
    fail := c.fail || c.wraps
    prescaler := 0 }

/-- Ticks occur while the hold flag is off and the crystal runs (R169). -/
def HallClock.ticks (c : HallClock) : Bool := !c.hold && c.crystal

/-- The Notice Logic has no power while main power is off (R172). -/
def State.powered (s : State) : Bool := decide (s.part ≠ .unpowered)

/-! ## The words of the clock -/

/-- The date a CLOCK_DATE word carries; the weekday bits are ignored (R204). -/
def dateOfWord (w : Word) : Date :=
  ⟨2000 + (field w 0 8).toNat, (field w 8 8).toNat, (field w 16 8).toNat⟩

/-- The time a CLOCK_TIME word carries. -/
def timeOfWord (w : Word) : TimeOfDay :=
  ⟨(field w 0 8).toNat, (field w 8 8).toNat, (field w 16 8).toNat⟩

/-- The CLOCK_DATE word. -/
def Date.word (d : Date) : Word :=
  BitVec.ofNat 8 d.weekday ++ BitVec.ofNat 8 d.day ++ BitVec.ofNat 8 d.month ++
    BitVec.ofNat 8 (d.year - 2000)

/-- The CLOCK_TIME word. -/
def TimeOfDay.word (t : TimeOfDay) : Word :=
  0#8 ++ BitVec.ofNat 8 t.second ++ BitVec.ofNat 8 t.minute ++ BitVec.ofNat 8 t.hour

/-- The day-close request's code in CLOCK_CONTROL (R173). -/
def CloseRequest.code : CloseRequest → BitVec 2
  | .none => 0
  | .waiting _ => 1
  | .admitted _ => 2

/-- The bit of CLOCK_CONTROL that shows an entry's matched flag and clears it: the lowest of the four for
entry 0 (chapter 11, log 50). -/
def matchedPlace (k : Fin 4) : Nat := 4 + k.val

/-- The CLOCK_CONTROL word, each matched flag at its place (R173, log 50). -/
def HallClock.controlWord (c : HallClock) : Word :=
  0#22 ++ c.request.code ++ flagBit (c.matched.get 3) ++ flagBit (c.matched.get 2) ++
    flagBit (c.matched.get 1) ++ flagBit (c.matched.get 0) ++ 0#1 ++ flagBit c.crystal ++
    flagBit c.fail ++ flagBit c.hold

/-- The count half a second before a tick (R170, R174). -/
abbrev halfSecond : Nat := 16384

/-! ## Setting the clock -/

/-- Step 1 of a CLOCK_CONTROL write: the hold value (R170). -/
def State.takeHold (s : State) (on : Bool) : State :=
  if on && !s.clock.hold then
    ({ s with clock := { s.clock with hold := true, prescaler := halfSecond, fail := true } }).raise
      .clockFail
  else { s with clock := { s.clock with hold := on } }

/-- A CLOCK_CONTROL write: hold, clear-fail, matched flags, in that order (R173). -/
def State.clockControlWrite (s : State) (data : Word) : State :=
  let s := s.takeHold (data.getLsbD 0)
  let c := s.clock
  { s with clock := { c with
      fail := c.fail && !(data.getLsbD 1 && !c.hold && c.crystal)
      matched := mapBank (fun k m => m && !data.getLsbD (matchedPlace k)) c.matched } }

/-- A setting clears the previous match of every entry (R171). -/
def HallClock.forget (c : HallClock) : HallClock := { c with previous := Vector.replicate 4 false }

/-- A CLOCK_DATE write (R171). -/
def State.clockDateWrite (s : State) (data : Word) : State :=
  { s with clock := { s.clock.forget with date := dateOfWord data } }

/-- A CLOCK_TIME write (R171). -/
def State.clockTimeWrite (s : State) (data : Word) : State :=
  { s with clock := { s.clock.forget with time := timeOfWord data } }

/-- A SCHEDULE write: the copy, with the entry's previous match clear (R176). -/
def State.scheduleWrite (s : State) (k : Fin 4) (data : Word) : State :=
  { s with clock := { s.clock with
      schedule := s.clock.schedule.set k data
      previous := s.clock.previous.set k false } }

/-! ## The schedule -/

/-- A field that is ANY, or a value in range (R176). -/
def anyOr (f : Byte) (limit : Nat) : Bool := f == 255 || decide (f.toNat ≤ limit)

/-- A SCHEDULE word with every field among its values and no unassigned bit set (R176, R204). -/
def scheduleValid (w : Word) : Bool :=
  anyOr (field w 0 8) 23 && anyOr (field w 8 8) 59 && anyOr (field w 16 8) 59 && field w 26 5 == 0

/-- One field of an entry against the new time (R177). -/
def fieldMatches (f : Byte) (v : Nat) : Bool := f == 255 || f.toNat == v

/-- Whether an enabled entry matches the time a tick has just made (R177). -/
def entryMatches (w : Word) (t : TimeOfDay) : Bool :=
  w.getLsbD 31 && fieldMatches (field w 0 8) t.hour && fieldMatches (field w 8 8) t.minute &&
    fieldMatches (field w 16 8) t.second

/-- The four conditions of R179 for a request at entry k. -/
def State.mayRequest (s : State) (k : Fin 4) : Bool :=
  let w := s.clock.schedule.get k
  decide (s.engine.mode = .trading) && field w 0 8 != 255 && field w 8 8 != 255 &&
    decide (s.clock.request = .none) && !s.clock.previous.get k

/-- The DAY_CLOSE posting of the schedule: the engine copy's day and the tick's stamp (R179). -/
def State.closeRequest (s : State) : Posting :=
  { kind := PostKind.dayClose.code, source := .schedule,
    params := { Params.zero with w0 := s.engine.copy.day }, tray := [], stamp := s.stamp }

/-- The action of an entry that matches (R178, R179); the codes are those of chapter 11. -/
def State.scheduleAction (s : State) (k : Fin 4) : State :=
  match (field (s.clock.schedule.get k) 24 2).toNat with
  | 0 => if s.mayRequest k then
      { s with clock := { s.clock with request := .waiting s.closeRequest } } else s
  | 1 => { s with ice := { s.ice with band := .a } }
  | 2 => { s with ice := { s.ice with band := .b } }
  | _ => s.raise .schedule

/-- One entry at a tick: its match, its matched flag, its action, its previous match (R176, R177). -/
def State.matchEntry (s : State) (k : Fin 4) : State :=
  let hit := entryMatches (s.clock.schedule.get k) s.clock.time
  let s := if hit then
      ({ s with clock := { s.clock with matched := s.clock.matched.set k true } }).scheduleAction k
    else s
  { s with clock := { s.clock with previous := s.clock.previous.set k hit } }

/-- The matcher takes the entries in ascending order, so the highest tariff entry stands (R177). -/
def State.matchSchedule (s : State) : State :=
  (((s.matchEntry 0).matchEntry 1).matchEntry 2).matchEntry 3

end Sys2Proof.Machine
end

