-- ==== Sys2Proof/Machine/Journal.lean ====
section
/-! DEFINITION. Journal entries and after-images: their layout (chapter 11), the order in which an
entry is written (R47), the images' writes (R38 to R40), and start-up redo (R49, R50). -/

namespace Sys2Proof.Machine

/-! ## Images as words -/

/-- The number of ones of a mask. -/
def maskCount (mask : BitVec 16) : Nat := (List.range 16).countP fun i => mask.getLsbD i

/-- The identity word of a crate group image, and word 0 of a crate record. -/
def identityWord (id : BitVec 24) : Word := 0#8 ++ id

/-- The words an image follows its header with (chapter 11). The deposit bits of a crate group whose deposit
is KEEP are zero (log 47). -/
def Image.body : Image → List Word
  | .account _ f =>
    [f.credit, f.day, f.balance, f.holds, 0#4 ++ f.floor ++ 0#3 ++ f.crates, f.landed, f.sales, f.ice]
  | .lot _ mask ws => (0#16 ++ mask) :: ws
  | .crates ks _ holder deposit identity =>
    (holder ++ 0#8 ++ deposit.getD 0) ::
      ((identity.map identityWord).toList ++ natWords ((12 * ks.length + 31) / 32) (packCrates ks))
  | .bay _ r => r.words
  | .engine _ head nextLot day => [head, nextLot, day]

/-- Header bits 31–16 of an image. -/
def Image.info : Image → BitVec 16
  | .account n f => 0#2 ++ f.state ++ 0#1 ++ f.kind ++ n
  | .lot slot _ _ => 0#5 ++ slot
  | .crates ks state _ deposit identity =>
    0#2 ++ flagBit identity.isSome ++ flagBit deposit.isNone ++ 0#1 ++ state ++ 0#3 ++
      BitVec.ofNat 5 ks.length
  | .bay n _ => 0#8 ++ n
  | .engine dayState _ _ _ => 0#8 ++ dayState

/-- The type code of an image. -/
def Image.type : Image → Byte
  | .account _ _ => 1
  | .lot _ _ _ => 2
  | .crates _ _ _ _ _ => 3
  | .bay _ _ => 4
  | .engine _ _ _ _ => 5

/-- The words of an image, header first. -/
def Image.words (i : Image) : List Word :=
  (i.info ++ BitVec.ofNat 8 (i.body.length + 1) ++ i.type) :: i.body

/-- The words of an image list. -/
def imageWords : List Image → List Word
  | [] => []
  | i :: is => i.words ++ imageWords is

/-- The image that a header and the words after it spell; none for a type code that names none
(log 15). -/
def readImage (h : Word) (ws : List Word) : Option Image :=
  let w (i : Nat) : Word := ws.getD i 0
  match (field h 0 8).toNat with
  | 1 => some (.account (field h 16 8)
      { kind := field h 24 3, state := field h 28 2, credit := w 0, day := w 1, balance := w 2,
        holds := w 3, crates := field (w 4) 0 13, floor := field (w 4) 16 12, landed := w 5,
        sales := w 6, ice := w 7 })
  | 2 => some (.lot (field h 16 11) (field (w 0) 0 16) ws.tail)
  | 3 =>
    let id := h.getLsbD 29
    some (.crates (unpackCrates (field h 16 5).toNat (wordsNat (ws.drop (if id then 2 else 1))))
      (field h 24 3) (field (w 0) 24 8)
      (if h.getLsbD 28 then none else some (field (w 0) 0 16))
      (if id then some (field (w 1) 0 24) else none))
  | 4 => some (.bay (field h 16 8) (bayOfWords ws))
  | 5 => some (.engine (field h 16 8) (w 0) (w 1) (w 2))
  | _ => none

/-- The first `n` images of a word list; an image whose type names none ends the list (log 15). -/
def readImages : Nat → List Word → List Image
  | 0, _ => []
  | _ + 1, [] => []
  | n + 1, h :: ws =>
    let len := (field h 8 8).toNat - 1
    match readImage h (ws.take len) with
    | none => []
    | some i => i :: readImages n (ws.drop len)

/-! ## Images as writes -/

/-- The record words a mask carries, in ascending order, from word `i` (chapter 11). -/
def maskWrites (a : Nat) (mask : BitVec 16) : Nat → Nat → List Word → List (Nat × Word)
  | 0, _, _ => []
  | _ + 1, _, [] => []
  | n + 1, i, w :: ws =>
    if mask.getLsbD i then (a + 4 * i, w) :: maskWrites a mask n (i + 1) ws
    else maskWrites a mask n (i + 1) (w :: ws)

/-- The writes of a crate group image on one crate (R39). -/
def crateWrites (a : Nat) (state : BitVec 3) (holder : BitVec 8) (deposit : Option (BitVec 16))
    (identity : Option (BitVec 24)) (seq : Word) : List (Nat × Word) :=
  (identity.map fun id => (a, identityWord id)).toList ++
    [(a + 4, 0#16 ++ holder ++ 0#5 ++ state)] ++
    (deposit.map fun d => (a + 8, d.setWidth 32)).toList ++ [(a + 12, seq)]

/-- The record writes of an image, other than the engine record image (R38 to R40). A bay number
beyond the six bays writes nothing (log 15). -/
def Image.writes (s : State) (seq : Word) : Image → List (Nat × Word)
  | .account n f => f.writes (s.accountAddr n.toNat) seq
  | .lot slot mask ws => maskWrites (s.lotAddr slot.toNat) mask 16 0 ws
  | .crates ks state holder deposit identity =>
    ks.flatMap fun k => crateWrites (s.crateAddr k.toNat) state holder deposit identity seq
  | .bay n r => if n.toNat < 6 then wordsAt (s.bayAddr n.toNat) r.words else []
  | .engine _ _ _ _ => []

/-- The images of a list written to their records in list order (R19, R47). -/
def State.writeImages (s : State) (seq : Word) : List Image → State
  | [] => s
  | i :: is => (s.write (.inner .engine) (i.writes s seq)).writeImages seq is

/-! ## The engine record -/

/-- Write the engine record and update the engine's copy (R40, R205). -/
def State.setEngineRecord (s : State) (new : EngineRecord) : State :=
  let s' := s.write (.inner .engine) (engineWrites s.engineAddr s.engine.copy new)
  { s' with engine := { s'.engine with copy := new } }

/-- The engine record that an engine record image leaves: the format state is not carried (R40). -/
def EngineRecord.withImage (r : EngineRecord) (dayState : Byte) (head nextLot day : Word) :
    EngineRecord :=
  { r with dayState := dayState, head := head, nextLot := nextLot, day := day }

/-! ## Entries -/

/-- Entry states (chapter 11). -/
abbrev entryEmpty : Word := 0
abbrev entryPending : Word := 1
abbrev entryDone : Word := 2

/-- Outcome codes of an entry (chapter 11). -/
def JournalEntry.outcome (e : JournalEntry) : BitVec 2 := if e.reason.isNone then 1 else 2

/-- The word at 0x0C of an entry. -/
def JournalEntry.headWord (e : JournalEntry) (images : Nat) : Word :=
  BitVec.ofNat 8 e.tray.length ++ reasonCode e.reason ++ flagBit e.stamp.unsure ++ 0#2 ++
    BitVec.ofNat 3 images ++ e.outcome ++ e.source.code

/-- The 63 words of an entry after its state word, the rest of the slot zero (log 18). -/
def JournalEntry.bodyWords (e : JournalEntry) (seq : Word) (engine : Image) : List Word :=
  let images := e.images ++ [engine]
  let ws := [seq, e.kind, e.headWord images.length, e.stamp.count, e.params.w0, e.params.w1,
    e.params.w2, e.params.w3] ++ e.tray ++ imageWords images
  (ws ++ List.replicate 63 0#32).take 63

/-- The slot of a sequence number (R34). -/
def entrySlot (seq : Word) : Nat := seq.toNat % 256

/-- Steps 1 to 3 of R47: EMPTY, the body, then the state word. -/
def State.openEntry (s : State) (e : JournalEntry) (seq : Word) (engine : Image) (state : Word) :
    State :=
  let a := s.entryAddr (entrySlot seq)
  s.write (.inner .engine)
    ((a, entryEmpty) :: wordsAt (a + 4) (e.bodyWords seq engine) ++ [(a, state)])

/-- The state word DONE of an entry (R47 step 4). -/
def State.closeEntry (s : State) (seq : Word) : State :=
  s.write (.inner .engine) [(s.entryAddr (entrySlot seq), entryDone)]

/-- An entry whole, in the order of R47, at the head: `new` is the engine record it leaves. An entry
with no record image is written DONE at step 3. The head's advance raises JOURNAL (R41). -/
def State.writeEntry (s : State) (e : JournalEntry) (new : EngineRecord) : State :=
  let seq := s.engine.copy.head
  let image := Image.engine new.dayState new.head new.nextLot new.day
  let s :=
    if e.images.isEmpty then s.openEntry e seq image entryDone
    else ((s.openEntry e seq image entryPending).writeImages seq e.images).closeEntry seq
  (s.setEngineRecord new).raise .journal

/-- The engine record with the head advanced by one (R40). -/
def EngineRecord.step (r : EngineRecord) : EngineRecord := { r with head := r.head + 1 }

/-- Whether every slot holds an unconsumed entry (R44). -/
def State.journalFull (s : State) : Bool := s.engine.copy.head - s.engine.tail == 256#32

/-- The check of a tail write (R42). -/
def State.tailAccepted (s : State) (t : Word) : Bool :=
  decide ((t - s.engine.tail).toNat ≤ (s.engine.copy.head - s.engine.tail).toNat)

/-! ## Bay copies -/

/-- Replace a bay channel. -/
def State.setBay (s : State) (b : Fin 6) (c : BayChannel) : State :=
  { s with ice := { s.ice with bays := s.ice.bays.set b c } }

/-- A bay channel. -/
def State.bay (s : State) (b : Fin 6) : BayChannel := s.ice.bays.get b

/-- Whether a bay is fitted: below the profile's count and not out of service (R57, R148). -/
def State.bayFitted (s : State) (b : Fin 6) : Bool :=
  (match s.profile with
    | none => false
    | some p => decide (b.val < p.bays.toNat)) && !(s.bay b).outOfService

/-- Set the Ice Unit's copy of a bay record; a change of the state of a fitted bay sets its
indication (R155, R163). -/
def State.setBayCopy (s : State) (b : Fin 6) (r : BayRecord) : State :=
  let c := s.bay b
  (s.setBay b { c with copy := r }).indicateIf (c.copy.state != r.state && s.bayFitted b) (bayPlace b)

/-! ## Redo -/

/-- A bay image of redo at the Ice Unit (R49): a bay that is not fitted stays IDLE with every field zero
(R148, log 42). -/
def State.copyBayImage (s : State) (n : BitVec 8) (r : BayRecord) : State :=
  if h : n.toNat < 6 then
    if s.bayFitted ⟨n.toNat, h⟩ then s.setBayCopy ⟨n.toNat, h⟩ r else s
  else s

/-- The bay images of a list go to the Ice Unit's copies (R49). -/
def State.copyBayImages (s : State) : List Image → State
  | [] => s
  | .bay n r :: is => (s.copyBayImage n r).copyBayImages is
  | _ :: is => s.copyBayImages is

/-- Write the engine record image of a list, when it has one (R49, log 15). The advance of the head raises
JOURNAL; the redo of a DAY_CLOSED entry is not the end of a close and raises nothing else (log 46). -/
def State.redoEngineImage (s : State) (images : List Image) : State :=
  match images.findSome? fun i => match i with
      | .engine d h n y => some (d, h, n, y)
      | _ => none with
  | none => s
  | some (d, h, n, y) =>
    (s.setEngineRecord (s.engine.copy.withImage d h n y)).raiseIf (h != s.engine.copy.head) .journal

/-- The images of the entry at a store address (chapter 11). -/
def entryImages (m : Memory) (a : Nat) : List Image :=
  let head := m.word (a + 0x0C)
  let tray := (field head 24 8).toNat
  readImages (field head 10 3).toNat (m.words (a + 0x24 + 4 * tray) (55 - tray))

/-- Start-up redo (R49); none when a read of the entry meets a parity error (R50, log 16). -/
def State.redo (s : State) : Option State :=
  let h := s.engine.copy.head
  let a := s.entryAddr (entrySlot h)
  let s := s.granted (.inner .engine)
  if s.store.failing a 256 then none
  else
    let st := field (s.store.word a) 0 8
    let images := entryImages s.store a
    if s.store.word (a + 4) != h then some s
    else if st == 1 then
      some (((((s.writeImages h images).copyBayImages images).closeEntry h)).redoEngineImage images)
    else if st == 2 then some (s.redoEngineImage images)
    else some s

/-- A redo struck by a parity error halts the engine (R50). -/
def State.haltAtRedo (s : State) : State :=
  ({ s with engine := { s.engine with state := .halted, halt := some .redo } }).raise .halted

end Sys2Proof.Machine
end

