-- ==== Sys2Proof/Machine/Queue.lean ====
section
/-! DEFINITION. The posting queue: offers from the ports (R9), internal admission (R11), and the
engine's taking of the head (R14). -/

namespace Sys2Proof.Machine

/-- A posting joins the queue. An IDLE engine takes it at once (R13, R14, log 13). -/
def State.enqueue (s : State) (p : Posting) : State :=
  if s.engine.state = .idle then
    { s with engine := { s.engine with state := .applying, work := .taken p } }
  else { s with engine := { s.engine with queue := s.engine.queue ++ [p] } }

/-- Whether a port-originated posting is admitted when it is offered now (R9). -/
def State.admits (s : State) : Bool := decide (s.engine.queue.length < 12)

/-- The engine takes the queue head, or enters IDLE on an empty queue (R14). -/
def State.takeNext (s : State) : State :=
  match s.engine.queue with
  | [] => { s with engine := { s.engine with state := .idle, work := .none } }
  | p :: q => { s with engine := { s.engine with state := .applying, work := .taken p, queue := q } }

/-- The end of a posting (R14, R23). A close or FORMAT that ends while the part is STARTING leaves
the engine IDLE (R202, log 23). -/
def State.endPosting (s : State) : State :=
  if s.engine.stepMode && decide (s.part ≠ .starting) then
    ({ s with engine := { s.engine with state := .paused, work := .none } }).raise .paused
  else s.takeNext

/-- The gate reader channel of gate g: reader 8 + g. -/
def gateReader (g : Fin 4) : Fin 12 := ⟨8 + g.val, by omega⟩

/-- The posting waiting in an internal source, by the position of the source (R10, R11). -/
def State.waitingAt (s : State) (i : Fin 11) : Option Posting :=
  if h : i.val < 4 then (s.tags.readers.get (gateReader ⟨i.val, h⟩)).pending
  else if h : i.val < 10 then (s.bay ⟨i.val - 4, by omega⟩).pending
  else match s.clock.request with
    | .waiting p => some p
    | _ => none

/-- The posting leaves its source (R11, R180). -/
def State.dropWaiting (s : State) (i : Fin 11) : State :=
  if h : i.val < 4 then
    let r := gateReader ⟨i.val, h⟩
    { s with tags := { s.tags with
        readers := s.tags.readers.set r { s.tags.readers.get r with pending := none } } }
  else if h : i.val < 10 then
    let b : Fin 6 := ⟨i.val - 4, by omega⟩
    s.setBay b { s.bay b with pending := none }
  else match s.clock.request with
    | .waiting p => { s with clock := { s.clock with request := .admitted p } }
    | _ => s

/-- The position after a source (R11). -/
def afterPosition (i : Fin 11) : Fin 11 := i + 1

/-- The first waiting source of `n` positions from `i` in the fixed order (R11). -/
def State.firstWaiting (s : State) : Nat → Fin 11 → Option (Fin 11 × Posting)
  | 0, _ => none
  | n + 1, i =>
    match s.waitingAt i with
    | some p => some (i, p)
    | none => s.firstWaiting n (afterPosition i)

/-- One internal admission: the first waiting source at or after the pointer (R11). -/
def State.admitInternal (s : State) : State :=
  if s.engine.queue.length < 16 then
    match s.firstWaiting 11 s.engine.pointer with
    | none => s
    | some (i, p) =>
      let s := s.dropWaiting i
      ({ s with engine := { s.engine with pointer := afterPosition i } }).enqueue p
  else s

end Sys2Proof.Machine
end

