-- ==== Sys2Proof/Machine/Weigh.lean ====
section
/-! DEFINITION. The Weigh Unit (chapter 04): samples and settling, the tray, COMMIT, the LAND report
and QUAY_RESTART. -/

namespace Sys2Proof.Machine

/-- A scale channel. -/
def State.scale (s : State) (n : Fin 8) : ScaleChannel := s.weigh.scales.get n

/-- Replace a scale channel. -/
def State.setScale (s : State) (n : Fin 8) (c : ScaleChannel) : State :=
  { s with weigh := { s.weigh with scales := s.weigh.scales.set n c } }

/-- The distance of two weights. -/
def distance (a b : Nat) : Nat := (a - b) + (b - a)

/-- The band test of R83: a set test miss flag fails it. -/
def bandTest (c : ScaleChannel) (band reference v : Nat) : Bool :=
  !c.testMiss && decide (distance v reference ≤ band)

/-- A COMMITTED commit state becomes OPEN; the others stay (R84, R103). -/
def CommitState.leave : CommitState → CommitState
  | .committed => .opened
  | c => c

/-- Entry into EMPTY: the load leaves the pan (R84). -/
def ScaleChannel.emptied (c : ScaleChannel) : ScaleChannel :=
  { c with state := .empty, tray := [], reference := 0, run := 0, block := 0, misses := 0, weight := 0,
           commit := c.commit.leave }

/-- A sample below the empty threshold (R84). -/
def ScaleChannel.sampleBelow (c : ScaleChannel) : ScaleChannel :=
  if c.state = .empty then c else c.emptied

/-- A sample that begins a new load (R85). -/
def ScaleChannel.beginLoad (c : ScaleChannel) (v : Nat) : ScaleChannel :=
  { c with state := .unsettled, load := c.load + 1, reference := v, run := 1 }

/-- A sample in UNSETTLED (R86). -/
def ScaleChannel.sampleUnsettled (c : ScaleChannel) (p : SettleCopies) (v : Nat) : ScaleChannel :=
  let pass := bandTest c p.band.toNat c.reference v
  let run := if pass then c.run + 1 else 1
  let c := { c with reference := if pass then c.reference else v, run := run, testMiss := false }
  if p.count.toNat ≤ run then { c with state := .settled, weight := v, block := 0, misses := 0 } else c

/-- A sample in SETTLED (R87). -/
def ScaleChannel.sampleSettled (c : ScaleChannel) (p : SettleCopies) (v : Nat) : ScaleChannel :=
  let pass := bandTest c p.band.toNat c.weight v
  let block := c.block + 1
  let misses := if pass then c.misses else c.misses + 1
  let c := { c with testMiss := false }
  if p.brk.toNat ≤ misses then
    { c with state := .unsettled, reference := v, run := 1, block := 0, misses := 0 }
  else if p.window.toNat ≤ block then { c with block := 0, misses := 0 }
  else { c with block := block, misses := misses }

/-- A sample arrival at a channel (R83). -/
def ScaleChannel.sample (c : ScaleChannel) (p : SettleCopies) (v : Nat) : ScaleChannel :=
  if v < p.empty.toNat then c.sampleBelow
  else match c.state with
    | .empty => c.beginLoad v
    | .unsettled => c.sampleUnsettled p v
    | .settled => c.sampleSettled p v

/-- A SAMPLE at scale n: each change of channel state sets the indication (R83, R92). -/
def State.takeSample (s : State) (n : Fin 8) (v : Nat) : State :=
  let c := (s.scale n).sample s.weigh.settle v
  (s.setScale n c).indicateIf (decide (c.state ≠ (s.scale n).state)) (scalePlace n)

/-- A TEST at scale n (R88). -/
def State.takeTest (s : State) (n : Fin 8) : State :=
  s.setScale n { s.scale n with testMiss := true }

/-- The tray's answer to a claim (R90). -/
def ScaleChannel.claim (c : ScaleChannel) (code : Word) : SlotOutcome :=
  if c.state = .empty then .ignored
  else match c.commit with
    | .pending _ => .ignored
    | .committed => .ignored
    | .opened =>
      if c.tray.any (fun t => tagCrate t == tagCrate code) then .duplicate
      else if 16 ≤ c.tray.length then .trayFull
      else .added

/-- A claim on the tray: an ADDED code joins its end (R90). -/
def ScaleChannel.claimed (c : ScaleChannel) (code : Word) : ScaleChannel :=
  if c.claim code = .added then { c with tray := c.tray ++ [code] } else c

/-- The LAND posting of a commit (R94, chapter 11). -/
def State.landPosting (s : State) (n : Fin 8) : Posting :=
  let c := s.scale n
  let sh := s.shadows.scale.get n
  { kind := PostKind.land.code, source := .scale n
    params := ⟨0#8 ++ field sh.grade 0 8 ++ field sh.species 0 8 ++ field sh.boat 0 8,
      c.load.setWidth 32, BitVec.ofNat 32 c.weight, 0⟩
    tray := c.tray, stamp := s.stamp }

/-- Set the STATUS of a scale. -/
def State.scaleStatus (s : State) (n : Fin 8) (t : Status) : State :=
  s.setScale n { s.scale n with status := t }

/-- COMMIT intake (R93, R94). -/
def State.takeCommit (s : State) (n : Fin 8) : State :=
  let c := s.scale n
  if s.engine.mode = .setup then s.scaleStatus n (.refusal .hallSetup)
  else if c.state ≠ .settled then s.scaleStatus n (.refusal .notSettled)
  else if c.commit = .committed then s.scaleStatus n (.refusal .duplicate)
  else if s.admits then
    (s.setScale n { c with status := .plain .taken, commit := .pending c.load }).enqueue
      (s.landPosting n)
  else s.scaleStatus n (.plain .busy)

/-- Whether a report's load is current (R101). -/
def ScaleChannel.current (c : ScaleChannel) : Bool :=
  c.state != .empty && c.commit == .pending c.load

/-- The LAND report at the channel (R101, R102). -/
def State.reportScale (s : State) (n : Fin 8) (reason : Option Reason) (t : Status) : State :=
  let c := s.scale n
  let commit := if c.current && reason.isNone then CommitState.committed else .opened
  (s.setScale n { c with commit := commit, status := t }).indicate (scalePlace n)

/-- QUAY_RESTART at a channel (R103). -/
def ScaleChannel.restart (c : ScaleChannel) : ScaleChannel := { c.emptied with testMiss := false }

/-- QUAY_RESTART in the Weigh Unit (R103). -/
def State.restartScales (s : State) : State :=
  { s with weigh := { s.weigh with scales := mapBank (fun _ c => c.restart) s.weigh.scales } }

/-- State and commit state codes of the STATE word (chapter 11). -/
def ScaleState.code : ScaleState → BitVec 2
  | .empty => 0
  | .unsettled => 1
  | .settled => 2

/-- Commit state codes of the STATE word (chapter 11). -/
def CommitState.code : CommitState → BitVec 2
  | .opened => 0
  | .pending _ => 1
  | .committed => 2

/-- The STATE word (R91). -/
def ScaleChannel.stateWord (c : ScaleChannel) : Word :=
  c.load ++ 0#11 ++ flagBit c.testMiss ++ c.commit.code ++ c.state.code

/-- The TRAY word (R91). -/
def ScaleChannel.trayWord (c : ScaleChannel) : Word :=
  0#4 ++ tagCrate (c.tray.getLastD 0) ++ 0#11 ++ BitVec.ofNat 5 c.tray.length

/-- The WEIGHT word (R70, R91). -/
def ScaleChannel.weightWord (c : ScaleChannel) (substitute : Word) : Word :=
  if c.state = .settled then BitVec.ofNat 32 c.weight else substitute

end Sys2Proof.Machine
end

