-- ==== Sys2Proof/Machine/Tags.lean ====
section
/-! DEFINITION. The Tag Unit (chapter 06, R122 to R134): raw reads, declarations, tray claims, gate
postings, their report and QUAY_RESTART. -/

namespace Sys2Proof.Machine

/-- A reader channel. -/
def State.reader (s : State) (r : Fin 12) : ReaderChannel := s.tags.readers.get r

/-- Replace a reader channel. -/
def State.setReader (s : State) (r : Fin 12) (c : ReaderChannel) : State :=
  { s with tags := { s.tags with readers := s.tags.readers.set r c } }

/-- The length of a full history (R123). -/
def DeclareMode.history : DeclareMode → Nat
  | .fast => 4
  | .sure => 8

/-- The count that declares (R127). -/
def DeclareMode.threshold : DeclareMode → Nat
  | .fast => 3
  | .sure => 6

/-- A read entered into a history; the oldest leaves a full one (R123). -/
def pushRead (limit : Nat) (h : List Word) (v : Word) : List Word :=
  (h ++ [v]).drop (h.length + 1 - limit)

/-- A raw read of no tag (R126). -/
def ReaderChannel.readZero (c : ReaderChannel) (mode : DeclareMode) (clearCount : Nat) : ReaderChannel :=
  let run := min 15 (c.zeroRun + 1)
  { c with zeroRun := run, last := if clearCount ≤ run then none else c.last,
           history := pushRead mode.history c.history 0 }

/-- A raw read of a tag, before it is judged (R127). -/
def ReaderChannel.readCode (c : ReaderChannel) (mode : DeclareMode) (v : Word) : ReaderChannel :=
  { c with zeroRun := 0, history := pushRead mode.history c.history v }

/-- The three conditions of a declaration (R127). -/
def ReaderChannel.declares (c : ReaderChannel) (mode : DeclareMode) (v : Word) : Bool :=
  decide (mode.threshold ≤ c.history.count v) && c.last != some v && !c.held

/-- Set a reader's STATUS and its indication (R129). -/
def State.readerStatus (s : State) (r : Fin 12) (t : Status) : State :=
  (s.setReader r { s.reader r with status := t }).indicate (readerPlace r)

/-- A code declared at scale reader n: the claim on the tray (R130). -/
def State.declareAtScale (s : State) (n : Fin 8) (v : Word) : State :=
  let c := s.scale n
  (s.setScale n (c.claimed v)).readerStatus ⟨n.val, by omega⟩
    { Status.plain (c.claim v) with crate := tagCrate v }

/-- Whether gate g is OUTBOUND: gate reader 8 has the lowest of the four bits (R125, log 50). -/
def State.outbound (s : State) (g : Fin 4) : Bool := s.tags.direction.getLsbD g.val

/-- The posting of a code declared at gate g (R132). -/
def State.gatePosting (s : State) (g : Fin 4) (v : Word) : Posting :=
  if s.outbound g then
    { kind := PostKind.lend.code, source := .gate g,
      params := ⟨v, s.shadows.holder.get g, 0, 0⟩, tray := [], stamp := s.stamp }
  else
    { kind := PostKind.returnCrate.code, source := .gate g,
      params := ⟨v, 0, 0, 0⟩, tray := [], stamp := s.stamp }

/-- A code declared at gate g (R131, R132). -/
def State.declareAtGate (s : State) (g : Fin 4) (v : Word) : State :=
  let r := gateReader g
  if s.engine.mode = .setup then
    s.readerStatus r { Status.refusal .hallSetup with crate := tagCrate v }
  else
    (s.setReader r { s.reader r with held := true, pending := some (s.gatePosting g v) }).readerStatus r
      { Status.plain .held with crate := tagCrate v }

/-- A declaration handed on to the tray or the gate (R127). -/
def State.declare (s : State) (r : Fin 12) (v : Word) : State :=
  let s := s.setReader r { s.reader r with last := some v }
  if h : r.val < 8 then s.declareAtScale ⟨r.val, h⟩ v
  else s.declareAtGate ⟨r.val - 8, by omega⟩ v

/-- A RAW write at reader r (R126, R127). -/
def State.takeRaw (s : State) (r : Fin 12) (v : Word) : State :=
  if v = 0 then
    s.setReader r ((s.reader r).readZero s.tags.mode s.tags.clearCount.toNat)
  else
    let c := (s.reader r).readCode s.tags.mode v
    let s := s.setReader r c
    if c.declares s.tags.mode v then s.declare r v else s

/-- The report of a gate posting (R133). -/
def State.reportGate (s : State) (g : Fin 4) (t : Status) : State :=
  let r := gateReader g
  let c := s.reader r
  (s.setReader r { c with held := false }).readerStatus r { t with crate := c.status.crate }

/-- QUAY_RESTART at a reader (R134). -/
def ReaderChannel.restart (c : ReaderChannel) : ReaderChannel :=
  { c with history := [], last := none, zeroRun := 0 }

/-- QUAY_RESTART in the Tag Unit (R134). -/
def State.restartReaders (s : State) : State :=
  { s with tags := { s.tags with readers := mapBank (fun _ c => c.restart) s.tags.readers } }

/-- The declare mode of a DECLARE_MODE code (chapter 11). -/
def declareModeOf (w : Word) : DeclareMode := if w = 0 then .fast else .sure

/-- A DECLARE_MODE write: a change of mode empties every history (R125). -/
def State.setDeclareMode (s : State) (m : DeclareMode) : State :=
  if s.tags.mode = m then s
  else { s with tags := { s.tags with
      mode := m, readers := mapBank (fun _ c => { c with history := [] }) s.tags.readers } }

/-- The DECLARED word (R70, R124). -/
def ReaderChannel.declaredWord (c : ReaderChannel) (substitute : Word) : Word := c.last.getD substitute

end Sys2Proof.Machine
end

