-- ==== Sys2Proof/Machine/Ice.lean ====
section
/-! DEFINITION. The Ice Unit (chapter 07): intake of REQUEST and DONE, held triggers, the dispense
count, reports, QUAY_RESTART, and its own writes of the bay records. -/

namespace Sys2Proof.Machine

/-- The current tariff (R152). -/
def State.tariff (s : State) : Word :=
  match s.ice.band with
  | .a => s.ice.tariffA
  | .b => s.ice.tariffB

/-- The words of a bay record by their place (chapter 11). -/
def BayRecord.word (r : BayRecord) (i : Nat) : Word := r.words.getD i 0

/-- The Ice Unit's writes of the listed words of a bay record, in order (R149). -/
def bayWordWrites (a : Nat) (r : BayRecord) (places : List Nat) : List (Nat × Word) :=
  places.map fun i => (a + 4 * i, r.word i)

/-- A transition the Ice Unit makes itself: its copy and the indication; the write of a guarded record is
left due (R149, R155). -/
def State.bayTransition (s : State) (b : Fin 6) (r : BayRecord) : State :=
  let s := s.setBayCopy b r
  if s.guarded (.bay b.val) then s.setBay b { s.bay b with writeDue := true } else s

/-- The Ice Unit's requests for a transition: the record's changed words, the state word last; none for a
guarded record (R149, R155). -/
def State.bayRequests (s : State) (b : Fin 6) (r : BayRecord) (places : List Nat) : List Request :=
  if s.guarded (.bay b.val) then []
  else requests (.inner .ice) (bayWordWrites (s.bayAddr b.val) r places)

/-- A transition with its writes, served together with the requests that stand beside them (R79, R149). -/
def State.bayChange (s : State) (b : Fin 6) (r : BayRecord) (places : List Nat)
    (beside : List Request := []) : State :=
  (s.bayTransition b r).serve (s.bayRequests b r places ++ beside)

/-- The words of the copy that the store record does not hold yet, the state word last (R155). -/
def State.dueWords (s : State) (b : Fin 6) : List (Nat × Word) :=
  (bayWordWrites (s.bayAddr b.val) (s.bay b).copy [1, 2, 3, 4, 5, 6, 7, 0]).filter
    fun w => s.store.word w.1 != w.2

/-- Make a due write of a bay record (R155). -/
def State.writeBack (s : State) (b : Fin 6) : State :=
  (s.write (.inner .ice) (s.dueWords b)).setBay b { s.bay b with writeDue := false }

/-- Set a bay's STATUS and its indication (R163, log 40). -/
def State.bayStatus (s : State) (b : Fin 6) (t : Status) : State :=
  (s.setBay b { s.bay b with status := t }).indicate (bayPlace b)

/-- Put a bay into STALLED and raise STALL (R161, R162, R166). -/
def State.stall (s : State) (b : Fin 6) (places : List Nat) : State :=
  (s.bayChange b { (s.bay b).copy with state := bayStalled } places).raise .stall

/-- The ICE_HOLD posting of a REQUEST (R156). -/
def State.holdPosting (s : State) (b : Fin 6) (sh : BayShadow) : Posting :=
  { kind := PostKind.iceHold.code, source := .bay b
    params := ⟨BitVec.ofNat 32 b.val, sh.boat, sh.kg, s.tariff⟩, tray := [], stamp := s.stamp }

/-- The record a taken REQUEST writes; the start time keeps its old value (R156). -/
def requestRecord (r : BayRecord) (sh : BayShadow) (rate : Word) : BayRecord :=
  { r with state := bayHoldPending, boat := sh.boat, requested := sh.kg, rate := rate,
           heldCost := sh.kg * rate, delivered := 0, elapsed := 0 }

/-- REQUEST intake (R156); the path's own word is requested beside the record's words (R79). -/
def State.takeRequest (s : State) (b : Fin 6) (sh : BayShadow) (beside : List Request) : State :=
  if s.engine.mode = .setup then (s.bayStatus b (.refusal .hallSetup)).serve beside
  else if (s.bay b).copy.state ≠ bayIdle then (s.bayStatus b (.refusal .bayBusy)).serve beside
  else if s.admits then
    let p := s.holdPosting b sh
    ((s.bayStatus b (.plain .taken)).bayChange b (requestRecord (s.bay b).copy sh s.tariff)
      [1, 2, 3, 4, 5, 7, 0] beside).enqueue p
  else (s.bayStatus b (.plain .busy)).serve beside

/-- The ICE_SETTLE posting of a bay record (R159, R167). -/
def State.settlePosting (s : State) (b : Fin 6) (r : BayRecord) : Posting :=
  { kind := PostKind.iceSettle.code, source := .bay b
    params := ⟨BitVec.ofNat 32 b.val, r.boat, r.delivered, 0⟩, tray := [], stamp := s.stamp }

/-- DONE intake (R159); the path's own word is requested beside the record's words (R79). -/
def State.takeDone (s : State) (b : Fin 6) (sh : BayShadow) (beside : List Request) : State :=
  let c := s.bay b
  if c.copy.state = bayDispensing ∨ c.copy.state = bayStalled then
    let r := { c.copy with delivered := sh.delivered, state := baySettlePending }
    (s.setBay b { c with pending := some (s.settlePosting b r) }).bayChange b r [5, 0] beside
  else (s.bayStatus b (.refusal .notDispensing)).serve beside

/-- A trigger taken by intake (R155). -/
def State.takeBayTrigger (s : State) (b : Fin 6) (isDone : Bool) (sh : BayShadow)
    (beside : List Request) : State :=
  if isDone then s.takeDone b sh beside else s.takeRequest b sh beside

/-- One bay at a tick (R162). -/
def State.tickBay (s : State) (b : Fin 6) : State :=
  let c := s.bay b
  if s.bayFitted b && c.copy.state == bayDispensing then
    let r := { c.copy with elapsed := c.copy.elapsed + 1 }
    if s.ice.limit.toNat ≤ r.elapsed.toNat then
      (s.bayChange b { r with state := bayStalled } [7, 0]).raise .stall
    else s.bayChange b r [7]
  else s

/-- The Ice Unit at a second tick (R162). -/
def State.tickBays (s : State) : State :=
  (((((s.tickBay 0).tickBay 1).tickBay 2).tickBay 3).tickBay 4).tickBay 5

/-- Whether the next tick stalls a bay (R162). -/
def State.stallsNext (s : State) (b : Fin 6) : Bool :=
  let c := s.bay b
  s.bayFitted b && c.copy.state == bayDispensing &&
    decide (s.ice.limit.toNat ≤ (c.copy.elapsed + 1).toNat)

/-- The bays that QUAY_RESTART puts into STALLED (R166). -/
def State.restarts (s : State) (b : Fin 6) : Bool :=
  s.bayFitted b && (s.bay b).copy.state == bayDispensing

/-- The record of a bay put into STALLED. -/
def State.stalledCopy (s : State) (b : Fin 6) : BayRecord := { (s.bay b).copy with state := bayStalled }

/-- QUAY_RESTART at one bay, without its write (R166). -/
def State.restartBay (s : State) (b : Fin 6) : State :=
  if s.restarts b then (s.bayTransition b (s.stalledCopy b)).raise .stall else s

/-- The Ice Unit's requests of QUAY_RESTART at one bay (R166). -/
def State.restartRequests (s : State) (b : Fin 6) : List Request :=
  if s.restarts b then s.bayRequests b (s.stalledCopy b) [0] else []

/-- QUAY_RESTART in the Ice Unit; the path's own word is requested beside the records' (R79, R166). -/
def State.restartBays (s : State) (beside : List Request) : State :=
  let rs := (List.finRange 6).flatMap s.restartRequests
  ((((((s.restartBay 0).restartBay 1).restartBay 2).restartBay 3).restartBay 4).restartBay 5).serve
    (rs ++ beside)

/-- Whether every bay of the Ice Unit is IDLE (R31, R195). -/
def State.baysIdle (s : State) : Bool := allBank s.ice.bays fun c => c.copy.state == bayIdle

/-- The OVER mark of a settlement (R160). -/
def BayRecord.isOver (r : BayRecord) : Bool := decide (r.requested.toNat < r.delivered.toNat)

/-- An applied posting's bay image at the Ice Unit: the copy and the STATUS (R158, R160, R164). -/
def State.bayApplied (s : State) (b : Fin 6) (r : BayRecord) (seq : Option Word) : State :=
  let t : Status :=
    if r.state = bayDispensing then { Status.plain .go with seq := seq }
    else { Status.plain .settled with seq := seq, overMark := r.isOver }
  (s.setBayCopy b r).bayStatus b t

/-- A refused ICE_HOLD at the Ice Unit: the bay returns to IDLE (R158). -/
def State.holdRefused (s : State) (b : Fin 6) (t : Status) : State :=
  (s.bayStatus b t).bayChange b { (s.bay b).copy with state := bayIdle } [0]

/-- A refused ICE_SETTLE at the Ice Unit (R161). -/
def State.settleRefused (s : State) (b : Fin 6) (p : Posting) (r : Reason) (t : Status) : State :=
  let s := s.bayStatus b t
  match r with
  | .storeError => s.setBay b { s.bay b with pending := some p }
  | .notDispensing => s
  | _ => s.stall b [0]

end Sys2Proof.Machine
end

