-- ==== Sys2Proof/Machine/Engine.lean ====
section
/-! DEFINITION. The Posting Engine's way through a posting (chapter 01): guards, reads, the common
checks, the entry, the release, the report and the end (R13 to R25). -/

namespace Sys2Proof.Machine

/-! ## What a kind asks of the engine -/

/-- How a kind's checks end. -/
inductive Verdict where
  /-- Refused with a reason (R18). -/
  | refuse (r : Reason)
  /-- Accepted: the record images, the next lot number after it, the value its report returns (R19). -/
  | accept (images : List Image) (nextLot : Word) (value : Option Word)
  /-- A day close that passes its checks (R184). -/
  | close
  deriving DecidableEq, Repr

/-- A kind's part of R15: the records of phase 2, the records that phase 3 adds once those are read,
and its checks with the values it computes. The engine record needs no naming. -/
structure Plan where
  first   : List RecordId
  more    : State → List RecordId
  verdict : State → Verdict

/-- A plan that adds nothing in phase 3. -/
def Plan.simple (first : List RecordId) (verdict : State → Verdict) : Plan :=
  ⟨first, fun _ => [], verdict⟩

/-- Checks in order, and the acceptance when all pass (R15 phase 4). -/
def checked (checks : List (Bool × Reason)) (accepted : Verdict) : Verdict :=
  match firstFail checks with
  | some r => .refuse r
  | none => accepted

/-- The kinds that SETUP permits (R25). -/
def PostKind.inSetup : PostKind → Bool
  | .iceSettle | .bayRelease | .format | .openAccount | .setCredit | .freeze | .thaw
  | .closeAccount | .transfer | .registerCrate | .retireCrate | .writeOff => true
  | _ => false

/-- The hall-mode check (R17, R25). -/
def modeRefusal (m : HallMode) (k : PostKind) : Option Reason :=
  match m with
  | .setup => if k.inSetup then none else some .hallSetup
  | .trading => if k = .format then some .hallTrading else none

/-! ## Guard and reads -/

/-- Replace the guard set. -/
def State.withGuard (s : State) (g : List RecordId) : State :=
  { s with engine := { s.engine with guard := g } }

/-- A guard on a bay record waits for the Ice Unit's due write of it (R155). -/
def State.settleDue (s : State) : List RecordId → State
  | [] => s
  | .bay b :: rs =>
    (if h : b < 6 then if (s.bay ⟨b, h⟩).writeDue then s.writeBack ⟨b, h⟩ else s else s).settleDue rs
  | _ :: rs => s.settleDue rs

/-- Records of a list without repeats: a record named twice is guarded and read once (R114). -/
def distinct (rs : List RecordId) : List RecordId := rs.eraseDups

/-- Place the guard on records, after any due write of theirs (R16, R155). -/
def State.placeGuard (s : State) (rs : List RecordId) : State :=
  (s.settleDue rs).withGuard (distinct (s.engine.guard ++ rs))

/-- Whether a read of any of the records meets a parity error (R21). -/
def State.anyFails (s : State) (rs : List RecordId) : Bool := rs.any s.recordFails

/-! ## Reports -/

/-- Set the STATUS of a rostrum or desk slot. -/
def State.setDesk (s : State) (slot : Fin 3) (t : Status) : State :=
  { s with desk := s.desk.set slot t }

/-- A report at a rostrum or desk slot raises DESK (R77). -/
def State.reportDesk (s : State) (slot : Fin 3) (t : Status) : State := (s.setDesk slot t).raise .desk

/-- The rostrum slots are desk-book slots 0 and 1. -/
def rostrumSlot (r : Fin 2) : Fin 3 := ⟨r.val, by omega⟩

/-- The desk slot. -/
abbrev deskSlot : Fin 3 := 2

/-- The STATUS a report leaves (R20). -/
def reportStatus (reason : Option Reason) (seq value : Option Word) : Status :=
  { Status.reset with
    outcome := if reason.isNone then .applied else .refused, reason := reason, seq := seq, value := value }

/-- The bay image of an image list (R40). -/
def bayImage : List Image → Option (Fin 6 × BayRecord)
  | [] => none
  | .bay n r :: is => if h : n.toNat < 6 then some (⟨n.toNat, h⟩, r) else bayImage is
  | _ :: is => bayImage is

/-- A bay takes the report of its own posting (R158, R160, R161). -/
def State.reportBay (s : State) (b : Fin 6) (p : Posting) (reason : Option Reason)
    (seq : Option Word) (images : List Image) : State :=
  match reason with
  | some r =>
    if p.kind = PostKind.iceHold.code then s.holdRefused b (reportStatus reason seq none)
    else s.settleRefused b p r (reportStatus reason seq none)
  | none => match bayImage images with
    | some (_, rec) => s.bayApplied b rec seq
    | none => s

/-- An applied BAY_RELEASE hands its bay image to the Ice Unit (R164). -/
def State.handBayImage (s : State) (images : List Image) (seq : Option Word) : State :=
  match bayImage images with
  | some (b, rec) => s.bayApplied b rec seq
  | none => s

/-- The engine reports a posting's result to its source (R20). -/
def State.report (s : State) (p : Posting) (reason : Option Reason) (seq value : Option Word)
    (images : List Image) : State :=
  let t := reportStatus reason seq value
  match p.source with
  | .rostrum r => s.reportDesk (rostrumSlot r) t
  | .desk => (s.handBayImage images seq).reportDesk deskSlot t
  | .scale n => s.reportScale n reason t
  | .gate g => s.reportGate g t
  | .bay b => s.reportBay b p reason seq images
  | .schedule => { s with clock := { s.clock with request := .none } }

/-! ## The entry of a posting -/

/-- The engine record that a posting's image leaves (R40). -/
def State.nextRecord (s : State) (nextLot : Word) : EngineRecord :=
  { s.engine.copy.step with nextLot := nextLot }

/-- HALTED by a posting (R21). -/
def State.haltAt (s : State) (cause : HaltCause) : State :=
  ({ s with engine := { s.engine with state := .halted, work := .none, halt := some cause } }).raise
    .halted

/-- Phases 5 to 8 of a posting whose entry is due and has a slot: the entry and its images, the
release of the guard, the report, and the end (R15, R18 to R21). -/
def State.writeDueEntry (s : State) (d : Due) : State :=
  let seq := s.engine.copy.head
  let s := (s.writeEntry d.entry (s.nextRecord d.nextLot)).withGuard []
  let s := s.report d.posting d.entry.reason (some seq) d.value d.entry.images
  if d.halts then s.haltAt .posting else s.endPosting

/-- JOURNAL_WAIT, with the work and the guard kept (R44). -/
def State.waitForJournal (s : State) (w : Work) : State :=
  ({ s with engine := { s.engine with state := .journalWait, work := w } }).raise .journalFull

/-- An entry falls due: it is written, or waits for a slot (R44). -/
def State.entryDue (s : State) (d : Due) : State :=
  if s.journalFull then s.waitForJournal (.due d) else s.writeDueEntry d

/-- The entry of a posting (R18, R19). -/
def Posting.entry (p : Posting) (reason : Option Reason) (images : List Image) : JournalEntry :=
  { kind := p.kind, source := p.source, reason := reason, stamp := p.stamp, params := p.params,
    tray := p.tray, images := images }

/-- A refusal's entry falls due; STORE_ERROR halts the engine after it (R18, R21). -/
def State.refuse (s : State) (p : Posting) (r : Reason) : State :=
  s.entryDue { posting := p, entry := p.entry (some r) [], nextLot := s.engine.copy.nextLot,
               value := none, halts := decide (r = .storeError) }

/-- A refusal made while the format state is not FORMATTED: no journal, no sequence number (R17). -/
def State.refuseBare (s : State) (p : Posting) (r : Reason) : State :=
  (s.report p (some r) none none []).endPosting

/-- Whether the engine's copy says FORMATTED. -/
def State.isFormatted (s : State) : Bool := s.engine.copy.formatState == formatted

/-! ## Phase A of a close -/

/-- The close that a DAY_CLOSE begins (R184). -/
def State.newClose (s : State) (p : Posting) : CloseWork :=
  { source := p.source, stamp := p.stamp, day := s.engine.copy.day, lots := 0, sold := 0,
    resumed := false, reports := true }

/-! ## Applying -/

/-- What phases 1 to 4 of a posting come to: refused bare, or an entry due, or a close to run. -/
inductive Applied where
  | bare (r : Reason)
  | refused (s : State) (r : Reason)
  | accepted (s : State) (d : Due)
  | closing (s : State) (c : CloseWork)

/-- Phase 4: the hall mode, then the kind's own checks (R17). -/
def State.judge (s : State) (p : Posting) (k : PostKind) (plan : Plan) : Applied :=
  match modeRefusal s.engine.mode k with
  | some r => .refused s r
  | none =>
    match plan.verdict s with
    | .refuse r => .refused s r
    | .accept images nextLot value =>
      .accepted s { posting := p, entry := p.entry none images, nextLot := nextLot, value := value,
                    halts := false }
    | .close => .closing s (s.newClose p)

/-- Phases 2 and 3: the guards of the captured parameters, the reads, the records those name (R15). -/
def State.examine (s : State) (p : Posting) (k : PostKind) (plan : Plan) : Applied :=
  if !s.isFormatted then .bare .hallSetup
  else
    let s := (s.placeGuard (.engine :: plan.first)).granted (.inner .engine)
    if s.anyFails (.engine :: plan.first) then .refused s .storeError
    else
      let more := plan.more s
      let s := s.placeGuard more
      if s.anyFails more then .refused s .storeError else s.judge p k plan

end Sys2Proof.Machine
end

