-- ==== Sys2Proof/Machine/Accounts.lean ====
section
/-! DEFINITION. The tests on money (R3 to R5) and the account postings (R26 to R30). -/

namespace Sys2Proof.Machine

/-! ## Tests on money -/

/-- The special accounts (R2). -/
abbrev accountHall : Nat := 0
abbrev accountPool : Nat := 1
abbrev accountCash : Nat := 2

/-- Accounts 0, 1 and 2 (R2). -/
def special (n : Nat) : Bool := decide (n ≤ 2)

/-- HALL and CASH are exempt from debit checks (R3). -/
def debitExempt (n : Nat) : Bool := n == accountHall || n == accountCash

/-- Available credit, exact (R3). -/
def AccountImage.available (i : AccountImage) : Int := i.balance.toInt + i.credit.toInt - i.holds.toInt

/-- The debit check of account n for an amount (R3). -/
def debitCheck (n : Nat) (i : AccountImage) (amount : Int) : Bool :=
  debitExempt n || decide (amount ≤ i.available)

/-- The range of a balance (R1). -/
def balanceRange (v : Int) : Bool := decide (-2147483648 ≤ v) && decide (v ≤ 2147483647)

/-- The range of holds and of sales today (R1). -/
def centsRange (v : Int) : Bool := decide (0 ≤ v) && decide (v ≤ 2147483647)

/-- The range of landed today and of ice today (R1). -/
def totalRange (v : Int) : Bool := decide (0 ≤ v) && decide (v ≤ 4294967295)

/-- The new balance of an account, exact (R4). -/
def AccountImage.balanceAfter (i : AccountImage) (d : Int) : Int := i.balance.toInt + d

/-- An account with its balance moved. -/
def AccountImage.pay (i : AccountImage) (d : Int) : AccountImage :=
  { i with balance := BitVec.ofInt 32 (i.balanceAfter d) }

/-! ## Image lists -/

/-- Insert an account image by account number (R37). -/
def insertAccount (a : Nat × AccountImage) : List (Nat × AccountImage) → List (Nat × AccountImage)
  | [] => [a]
  | b :: bs => if a.1 ≤ b.1 then a :: b :: bs else b :: insertAccount a bs

/-- Account images in ascending account number (R37). -/
def accountImages (as : List (Nat × AccountImage)) : List Image :=
  (as.foldr insertAccount []).map fun a => .account (BitVec.ofNat 8 a.1) a.2

/-- The verdict of a posting that creates no lot. -/
def State.acceptImages (s : State) (images : List Image) (value : Option Word := none) : Verdict :=
  .accept images s.engine.copy.nextLot value

/-- The account a parameter names, when it lies in 0–255 (R15 phase 2). -/
def accountGuard (w : Word) : List RecordId := if w.toNat ≤ 255 then [.account w.toNat] else []

/-- The range of an account number (R26 to R30). -/
def accountNumber (w : Word) : Bool := decide (w.toNat ≤ 255)

/-- The range of a credit line (R26, R27). -/
def creditLine (w : Word) : Bool := decide (w.toNat ≤ 2147483647)

/-! ## Account postings -/

/-- OPEN_ACCOUNT (R26). -/
def openAccountPlan (p : Posting) : Plan :=
  .simple (accountGuard p.params.w0) fun s =>
    let n := p.params.w0.toNat
    let a := s.account n
    let kind := field p.params.w1 0 3
    checked
      [ (accountNumber p.params.w0, .badValue),
        (!special n, .wrongKind),
        (p.params.w1 == 1 || p.params.w1 == 2, .badValue),
        (creditLine p.params.w2, .badValue),
        (a.kind == kindUnused || a.state == accountClosed, .notEmpty) ]
      (s.acceptImages (accountImages [(n,
        { kind := kind, state := accountOpen, credit := p.params.w2, day := s.engine.copy.day,
          balance := 0, holds := 0, crates := 0, floor := 0, landed := 0, sales := 0, ice := 0 })]))

/-- SET_CREDIT (R27). -/
def setCreditPlan (p : Posting) : Plan :=
  .simple (accountGuard p.params.w0) fun s =>
    let n := p.params.w0.toNat
    let a := s.account n
    checked
      [ (accountNumber p.params.w0, .badValue),
        (creditLine p.params.w1, .badValue),
        (!special n, .wrongKind),
        (a.inUse, .noAccount) ]
      (s.acceptImages (accountImages [(n, { a with credit := p.params.w1 })]))

/-- FREEZE and THAW: the state they leave (R28). -/
def accountStatePlan (state : BitVec 2) (p : Posting) : Plan :=
  .simple (accountGuard p.params.w0) fun s =>
    let n := p.params.w0.toNat
    let a := s.account n
    checked
      [ (accountNumber p.params.w0, .badValue),
        (!special n, .wrongKind),
        (a.inUse, .noAccount) ]
      (s.acceptImages (accountImages [(n, { a with state := state })]))

/-- FREEZE (R28). -/
def freezePlan (p : Posting) : Plan := accountStatePlan accountFrozen p

/-- THAW (R28). -/
def thawPlan (p : Posting) : Plan := accountStatePlan accountOpen p

/-- An account with nothing in it (R29). -/
def AccountImage.isEmpty (i : AccountImage) : Bool :=
  i.balance == 0 && i.holds == 0 && i.crates == 0 && i.floor == 0

/-- CLOSE_ACCOUNT (R29). -/
def closeAccountPlan (p : Posting) : Plan :=
  .simple (accountGuard p.params.w0) fun s =>
    let n := p.params.w0.toNat
    let a := s.account n
    checked
      [ (accountNumber p.params.w0, .badValue),
        (!special n, .wrongKind),
        (a.inUse, .noAccount),
        (a.isEmpty, .notEmpty) ]
      (s.acceptImages (accountImages [(n, { a with state := accountClosed })]))

/-- TRANSFER (R30). -/
def transferPlan (p : Posting) : Plan :=
  .simple (accountGuard p.params.w0 ++ accountGuard p.params.w1) fun s =>
    let f := p.params.w0.toNat
    let t := p.params.w1.toNat
    let amount : Int := p.params.w2.toNat
    let a := s.account f
    let b := s.account t
    checked
      [ (accountNumber p.params.w0 && accountNumber p.params.w1 &&
          decide (1 ≤ amount) && decide (amount ≤ 2147483647), .badValue),
        (f != accountPool && t != accountPool, .wrongKind),
        (f != t, .badValue),
        (debitExempt f || a.inUse, .noAccount),
        (debitExempt f || a.state == accountOpen, .frozen),
        (b.inUse, .noAccount),
        (debitCheck f a amount, .credit),
        (balanceRange (a.balanceAfter (-amount)) && balanceRange (b.balanceAfter amount), .range) ]
      (s.acceptImages (accountImages [(f, a.pay (-amount)), (t, b.pay amount)]))

end Sys2Proof.Machine
end

