-- ==== Sys2Proof/Machine/Lots.lean ====
section
/-! DEFINITION. The postings on lots: LAND (R96 to R100), SELL (R114 to R117) and WITHDRAW (R118). -/

namespace Sys2Proof.Machine

/-! ## Images of lots and their crates -/

/-- The words of a record that a mask carries, in ascending order. -/
def maskedWords (mask : BitVec 16) : Nat → List Word → List Word
  | _, [] => []
  | i, w :: ws => if mask.getLsbD i then w :: maskedWords mask (i + 1) ws else maskedWords mask (i + 1) ws

/-- A lot image that carries the words of a mask (R39, chapter 11). -/
def lotImage (slot : Nat) (mask : BitVec 16) (l : LotRecord) : Image :=
  .lot (BitVec.ofNat 11 slot) mask (maskedWords mask 0 l.words)

/-- LAND's lot image carries every word, SELL's words 1, 2, 4, 5, 6 and 8, WITHDRAW's word 1. -/
abbrev landMask : BitVec 16 := 0xFFFF
abbrev sellMask : BitVec 16 := 0x0176
abbrev withdrawMask : BitVec 16 := 0x0002

/-- A crate group image that keeps deposits, present when the group has a crate (R39). -/
def keepGroup (ks : List (BitVec 12)) (state : BitVec 3) (holder : BitVec 8) : List Image :=
  if ks.isEmpty then [] else [.crates ks state holder none none]

/-- Crates as records of the guard (R96, R114). -/
def crateIds (ks : List (BitVec 12)) : List RecordId := ks.map fun k => .crate k.toNat

/-! ## LAND -/

/-- The boat, species, grade and gross that a LAND captured (chapter 11). -/
def landBoat (p : Posting) : BitVec 8 := field p.params.w0 0 8
def landSpecies (p : Posting) : BitVec 8 := field p.params.w0 8 8
def landGrade (p : Posting) : BitVec 8 := field p.params.w0 16 8
def landGross (p : Posting) : Nat := p.params.w2.toNat

/-- The crate numbers of a tray, in tray order. -/
def trayCrates (tray : List Word) : List (BitVec 12) := tray.map tagCrate

/-- The two checks of each tray code, in tray order (R98). -/
def State.trayChecks (s : State) (boat : BitVec 8) (tray : List Word) : List (Bool × Reason) :=
  tray.flatMap fun code =>
    let c := s.crate (tagCrate code).toNat
    [(tagMatches code c, .badTag), (c.state == crateLent && c.holder == boat, .crateHolder)]

/-- The tare of a crate type, by the engine's copy (R138). -/
def State.typeTare (s : State) (t : BitVec 4) : Nat := (field (s.engine.crateTypes.get t.toFin) 0 16).toNat

/-- The deposit of a crate type, by the engine's copy (R138). -/
def State.typeDeposit (s : State) (t : BitVec 4) : BitVec 16 := field (s.engine.crateTypes.get t.toFin) 16 16

/-- The tare of a tray (R99). -/
def State.trayTare (s : State) (tray : List Word) : Nat :=
  (tray.map fun code => s.typeTare (s.crate (tagCrate code).toNat).type).sum

/-- The next lot number after one is issued: no lot has number 0 (R100). -/
def lotAfter (n : Word) : Word := if n = 0xFFFFFFFF then 1 else n + 1

/-- The scale a LAND came from. -/
def scaleOf : Source → BitVec 3
  | .scale n => BitVec.ofNat 3 n.val
  | _ => 0

/-- The lot a LAND creates (R100). -/
def landedLot (p : Posting) (number : Word) (tare : Nat) : LotRecord :=
  let ks := trayCrates p.tray
  { number := number, state := lotOnFloor, reason := 0, grade := (landGrade p).setWidth 3,
    scale := scaleOf p.source, count := BitVec.ofNat 5 ks.length, landUnsure := p.stamp.unsure,
    species := landSpecies p, boat := landBoat p, gross := BitVec.ofNat 19 (landGross p),
    saleUnsure := false, buyer := 0, net := BitVec.ofNat 19 (landGross p - tare), price := 0,
    tare := BitVec.ofNat 15 tare, value := 0, fee := 0, landing := p.stamp.count, sale := 0,
    places := (ks ++ List.replicate 16 0#12).take 16 }

/-- LAND (R96 to R100). -/
def State.landPlan (s : State) (p : Posting) : Plan :=
  let number := s.engine.copy.nextLot
  let boat := landBoat p
  .simple ([.account boat.toNat, .lot (lotSlot number)] ++ crateIds (trayCrates p.tray)) fun s =>
    let a := s.account boat.toNat
    let tare := s.trayTare p.tray
    let net := landGross p - tare
    checked
      ([ (a.kind != kindUnused, .noAccount),
         (a.kind == kindBoat, .wrongKind),
         (a.state == accountOpen || a.state == accountFrozen, .noAccount) ] ++
       s.trayChecks boat p.tray ++
       [ (decide (tare < landGross p), .netNegative),
         ((s.lot (lotSlot number)).state != lotOnFloor, .lotsFull),
         (totalRange (a.landed.toNat + net), .range) ])
      (.accept
        (accountImages [(boat.toNat,
            { a with floor := a.floor + 1, landed := a.landed + BitVec.ofNat 32 net })] ++
          [lotImage (lotSlot number) landMask (landedLot p number tare)] ++
          keepGroup (trayCrates p.tray) crateOnLot boat)
        (lotAfter number) (some number))

/-! ## SELL and WITHDRAW -/

/-- The judgement of a lot number (R109). -/
def lotChecks (number : Word) (l : LotRecord) : List (Bool × Reason) :=
  [ (number != 0, .badValue),
    (l.state != lotFree && l.number == number, .noLot),
    (l.state == lotOnFloor, .lotState) ]

/-- What phase 3 adds for a lot that stands on the floor under the number (R114). -/
def State.lotMore (s : State) (number : Word) : List RecordId :=
  let l := s.lot (lotSlot number)
  if l.state == lotOnFloor && l.number == number then .account l.boat.toNat :: crateIds l.crates else []

/-- The value of a sale (R116). -/
def saleValue (net price : Nat) : Nat := net * price / 100

/-- The fee of a sale (R116). -/
def saleFee (value rate : Nat) : Nat := value * rate / 1000

/-- The deposits of crates, each its own (R116). -/
def State.depositsOf (s : State) (ks : List (BitVec 12)) : Nat :=
  (ks.map fun k => (s.crate k.toNat).deposit.toNat).sum

/-- The SOLD record of a lot (R117). -/
def soldLot (l : LotRecord) (p : Posting) (buyer price value fee : Nat) : LotRecord :=
  { l with state := lotSold, buyer := BitVec.ofNat 8 buyer, price := BitVec.ofNat 17 price,
           value := BitVec.ofNat 32 value, fee := BitVec.ofNat 32 fee, sale := p.stamp.count,
           saleUnsure := p.stamp.unsure }

/-- SELL (R114 to R117). -/
def sellPlan (p : Posting) : Plan :=
  let number := p.params.w0
  let slot := lotSlot number
  { first := .lot slot :: accountGuard p.params.w1 ++ [.account accountHall]
    more := fun s => s.lotMore number
    verdict := fun s =>
      let l := s.lot slot
      let b := p.params.w1.toNat
      let buyer := s.account b
      let boat := s.account l.boat.toNat
      let hall := s.account accountHall
      let price := p.params.w2.toNat
      let value := saleValue l.net.toNat price
      let fee := saleFee value s.engine.feeRate.toNat
      let deposits := s.depositsOf l.crates
      let n : BitVec 13 := BitVec.ofNat 13 l.crates.length
      let cost : Int := value + deposits
      let income : Int := value - fee + deposits
      checked
        (lotChecks number l ++
          [ (accountNumber p.params.w1, .badValue),
            (buyer.kind != kindUnused, .noAccount),
            (buyer.kind == kindBuyer, .wrongKind),
            (buyer.state != accountClosed, .noAccount),
            (buyer.state == accountOpen, .frozen),
            (decide (1 ≤ price) && decide (price ≤ 100000), .badValue),
            (debitCheck b buyer cost, .credit),
            (balanceRange (buyer.balanceAfter (-cost)) && balanceRange (boat.balanceAfter income) &&
              balanceRange (hall.balanceAfter fee) && centsRange (buyer.sales.toNat + value) &&
              centsRange (boat.sales.toNat + value), .range) ])
        (s.acceptImages
          (accountImages
              [ (accountHall, hall.pay fee),
                (b, { buyer.pay (-cost) with
                      crates := buyer.crates + n, sales := buyer.sales + BitVec.ofNat 32 value }),
                (l.boat.toNat, { boat.pay income with
                      crates := boat.crates - n, floor := boat.floor - 1,
                      sales := boat.sales + BitVec.ofNat 32 value }) ] ++
            [lotImage slot sellMask (soldLot l p b price value fee)] ++
            keepGroup l.crates crateSold (BitVec.ofNat 8 b))
          (some number)) }

/-- The images of a withdrawal, from the desk or from a close (R118, R186). -/
def State.withdrawImages (s : State) (slot : Nat) (reason : BitVec 2) : List Image :=
  let l := s.lot slot
  let boat := s.account l.boat.toNat
  accountImages [(l.boat.toNat, { boat with floor := boat.floor - 1 })] ++
    [lotImage slot withdrawMask { l with state := lotWithdrawn, reason := reason }] ++
    keepGroup l.crates crateLent l.boat

/-- WITHDRAW (R118). -/
def withdrawPlan (p : Posting) : Plan :=
  let number := p.params.w0
  let slot := lotSlot number
  { first := [.lot slot]
    more := fun s => s.lotMore number
    verdict := fun s =>
      checked (lotChecks number (s.lot slot))
        (s.acceptImages (s.withdrawImages slot withdrawnByDesk) (some number)) }

end Sys2Proof.Machine
end

