-- ==== Sys2Proof/Machine/Crates.lean ====
section
/-! DEFINITION. The crate postings: LEND, RETURN (R139 to R143), REGISTER_CRATE, RETIRE_CRATE and
WRITE_OFF (R144 to R146). -/

namespace Sys2Proof.Machine

/-- The tag check (R139). -/
def tagCheck (code : Word) (c : CrateRecord) : Bool := code != 0 && tagMatches code c

/-- A crate group image of one crate with a new deposit (R39). -/
def oneCrate (k : BitVec 12) (state : BitVec 3) (holder : BitVec 8) (deposit : BitVec 16) : Image :=
  .crates [k] state holder (some deposit) none

/-- LEND (R139 to R141). -/
def lendPlan (p : Posting) : Plan :=
  let code := p.params.w0
  let k := tagCrate code
  let h := p.params.w1.toNat
  .simple ([.crate k.toNat, .account accountPool] ++ accountGuard p.params.w1) fun s =>
    let c := s.crate k.toNat
    let holder := s.account h
    let pool := s.account accountPool
    let deposit := s.typeDeposit c.type
    let d : Int := deposit.toNat
    checked
      [ (tagCheck code c, .badTag),
        (c.state == crateInHall, .crateState),
        (accountNumber p.params.w1, .badValue),
        (holder.kind != kindUnused, .noAccount),
        (holder.kind == kindBoat || holder.kind == kindBuyer, .wrongKind),
        (holder.state != accountClosed, .noAccount),
        (holder.state == accountOpen, .frozen),
        (debitCheck h holder d, .credit),
        (balanceRange (holder.balanceAfter (-d)) && balanceRange (pool.balanceAfter d), .range) ]
      (s.acceptImages
        (accountImages [(accountPool, pool.pay d),
            (h, { holder.pay (-d) with crates := holder.crates + 1 })] ++
          [oneCrate k crateLent (BitVec.ofNat 8 h) deposit]))

/-- RETURN (R139, R142, R143). -/
def returnPlan (p : Posting) : Plan :=
  let code := p.params.w0
  let k := tagCrate code
  { first := [.crate k.toNat, .account accountPool]
    more := fun s =>
      let c := s.crate k.toNat
      if tagCheck code c && c.lentOrSold then [.account c.holder.toNat] else []
    verdict := fun s =>
      let c := s.crate k.toNat
      let h := c.holder.toNat
      let holder := s.account h
      let pool := s.account accountPool
      let d : Int := c.deposit.toNat
      checked
        [ (tagCheck code c, .badTag),
          (c.lentOrSold || c.state == crateLost, .crateState),
          (!c.lentOrSold ||
            (balanceRange (holder.balanceAfter d) && balanceRange (pool.balanceAfter (-d))), .range) ]
        (s.acceptImages
          ((if c.lentOrSold then
              accountImages [(accountPool, pool.pay (-d)),
                (h, { holder.pay d with crates := holder.crates - 1 })]
            else []) ++
            [oneCrate k crateInHall 0 0])) }

/-- The crate a parameter names, when it lies in 0–4095. -/
def crateGuard (w : Word) : List RecordId := if w.toNat ≤ 4095 then [.crate w.toNat] else []

/-- The range of a crate number (R144 to R146). -/
def crateNumber (w : Word) : Bool := decide (w.toNat ≤ 4095)

/-- REGISTER_CRATE (R144). -/
def registerCratePlan (p : Posting) : Plan :=
  .simple (crateGuard p.params.w0) fun s =>
    let c := s.crate p.params.w0.toNat
    checked
      [ (crateNumber p.params.w0, .badValue),
        (decide (1 ≤ p.params.w1.toNat) && decide (p.params.w1.toNat ≤ 1048575), .badValue),
        (decide (p.params.w2.toNat ≤ 15), .badValue),
        (c.state == crateRetired, .crateState) ]
      (s.acceptImages
        [.crates [field p.params.w0 0 12] crateInHall 0 (some 0)
          (some (field p.params.w2 0 4 ++ field p.params.w1 0 20))])

/-- RETIRE_CRATE (R145). -/
def retireCratePlan (p : Posting) : Plan :=
  .simple (crateGuard p.params.w0) fun s =>
    let c := s.crate p.params.w0.toNat
    checked
      [ (crateNumber p.params.w0, .badValue),
        (c.state == crateInHall || c.state == crateLost, .crateState) ]
      (s.acceptImages [oneCrate (field p.params.w0 0 12) crateRetired 0 0])

/-- WRITE_OFF (R146). -/
def writeOffPlan (p : Posting) : Plan :=
  let k := p.params.w0.toNat
  { first := crateGuard p.params.w0 ++ [.account accountHall, .account accountPool]
    more := fun s =>
      if crateNumber p.params.w0 && (s.crate k).lentOrSold then [.account (s.crate k).holder.toNat]
      else []
    verdict := fun s =>
      let c := s.crate k
      let h := c.holder.toNat
      let holder := s.account h
      let hall := s.account accountHall
      let pool := s.account accountPool
      let d : Int := c.deposit.toNat
      checked
        [ (crateNumber p.params.w0, .badValue),
          (c.lentOrSold, .crateState),
          (balanceRange (hall.balanceAfter d) && balanceRange (pool.balanceAfter (-d)), .range) ]
        (s.acceptImages
          (accountImages [(accountHall, hall.pay d), (accountPool, pool.pay (-d)),
              (h, { holder with crates := holder.crates - 1 })] ++
            [oneCrate (field p.params.w0 0 12) crateLost 0 0])) }

end Sys2Proof.Machine
end

