-- ==== Sys2Proof/Machine/IcePostings.lean ====
section
/-! DEFINITION. The ice postings: ICE_HOLD (R157, R158), ICE_SETTLE (R160) and BAY_RELEASE (R164). -/

namespace Sys2Proof.Machine

/-- The boat a bay record or an ice posting names: an account number is eight bits (log 20). -/
def boatAccount (w : Word) : Nat := w.toNat % 256

/-- The bay image of ICE_HOLD (R158). -/
def holdRecord (r : BayRecord) (p : Posting) : BayRecord :=
  { r with state := bayDispensing, boat := p.params.w1, requested := p.params.w2, rate := p.params.w3,
           heldCost := p.params.w2 * p.params.w3, delivered := 0, start := p.stamp.count,
           unsure := p.stamp.unsure, elapsed := 0 }

/-- ICE_HOLD (R157, R158). -/
def iceHoldPlan (p : Posting) : Plan :=
  let b := p.params.w0.toNat
  let n := boatAccount p.params.w1
  .simple [.bay b, .account n] fun s =>
    let a := s.account n
    let cost := p.params.w2.toNat * p.params.w3.toNat
    checked
      [ (a.kind != kindUnused, .noAccount),
        (a.kind == kindBoat, .wrongKind),
        (a.state != accountClosed, .noAccount),
        (a.state == accountOpen, .frozen),
        (debitCheck n a cost, .credit),
        (centsRange (a.holds.toNat + cost), .range) ]
      (s.acceptImages
        (accountImages [(n, { a with holds := a.holds + BitVec.ofNat 32 cost })] ++
          [.bay (BitVec.ofNat 8 b) (holdRecord (s.bayRecord b) p)]))

/-- The range check of a settlement at a cost (R160, R164). -/
def settleRange (boat hall : AccountImage) (cost held delivered : Nat) : Bool :=
  balanceRange (boat.balanceAfter (-cost)) && centsRange ((boat.holds.toNat : Int) - held) &&
    totalRange (boat.ice.toNat + delivered) && balanceRange (hall.balanceAfter cost)

/-- The images of a settlement of bay b at a delivered quantity (R160, R164). -/
def State.settleImages (s : State) (b n : Nat) (delivered : Word) : List Image :=
  let r := s.bayRecord b
  let cost : Int := (delivered.toNat * r.rate.toNat : Nat)
  let boat := s.account n
  accountImages [(accountHall, (s.account accountHall).pay cost),
      (n, { boat.pay (-cost) with holds := boat.holds - r.heldCost, ice := boat.ice + delivered })] ++
    [.bay (BitVec.ofNat 8 b) { r with state := bayIdle, delivered := delivered }]

/-- ICE_SETTLE (R160). -/
def iceSettlePlan (p : Posting) : Plan :=
  let b := p.params.w0.toNat
  let n := boatAccount p.params.w1
  .simple [.bay b, .account accountHall, .account n] fun s =>
    let r := s.bayRecord b
    let delivered := p.params.w2
    checked
      [ (r.state == baySettlePending, .notDispensing),
        (settleRange (s.account n) (s.account accountHall) (delivered.toNat * r.rate.toNat)
          r.heldCost.toNat delivered.toNat, .range) ]
      (s.acceptImages (s.settleImages b n delivered))

/-- Whether a bay record is STALLED at a bay the profile fits; an unfitted bay is IDLE (R164). -/
def State.stalledBay (s : State) (b : Nat) : Bool :=
  (match s.profile with
    | none => false
    | some r => decide (b < r.bays.toNat)) && (s.bayRecord b).state == bayStalled

/-- BAY_RELEASE (R164). -/
def bayReleasePlan (p : Posting) : Plan :=
  let b := p.params.w0.toNat
  let inRange := decide (b ≤ 5)
  { first := .account accountHall :: (if inRange then [.bay b] else [])
    more := fun s =>
      if inRange && s.stalledBay b then [.account (boatAccount (s.bayRecord b).boat)] else []
    verdict := fun s =>
      let r := s.bayRecord b
      let n := boatAccount r.boat
      let delivered := p.params.w1
      checked
        [ (inRange, .badValue),
          (decide (delivered.toNat ≤ 6000), .badValue),
          (s.stalledBay b, .notStalled),
          (settleRange (s.account n) (s.account accountHall) (delivered.toNat * r.rate.toNat)
            r.heldCost.toNat delivered.toNat, .range) ]
        (s.acceptImages (s.settleImages b n delivered)) }

end Sys2Proof.Machine
end

