-- ==== Sys2Proof/Machine/Format.lean ====
section
/-! DEFINITION. FORMAT (R31 to R33) and the end of an ENGINE_FORMAT's abandoned close (R22). -/

namespace Sys2Proof.Machine

/-- A special account as FORMAT writes it: OPEN, day number 1, all else zero (R32). -/
def formatAccount (a : Nat) (kind : BitVec 3) : List (Nat × Word) :=
  [(a, 0#22 ++ accountOpen ++ 0#5 ++ kind), (a + 4, 1)]

/-- Steps 2 to 4: the account, lot and crate records (R32). -/
def State.formatRecords (s : State) : State :=
  let m := (s.store.clear (s.base 1) (bookLimit 1)).putAll
    (formatAccount (s.accountAddr 0) kindHall ++ formatAccount (s.accountAddr 1) kindPool ++
      formatAccount (s.accountAddr 2) kindCash)
  { s with store := (m.clear (s.base 2) (bookLimit 2)).clear (s.base 3) (bookLimit 3) }

/-- Step 5: every journal entry EMPTY, by its state word (R32, log 19). -/
def State.formatJournal (s : State) : State :=
  s.write (.inner .engine) ((List.range 256).map fun slot => (s.entryAddr slot, entryEmpty))

/-- One bay of step 6: the record and the copy IDLE and zero (R32). -/
def State.formatBay (s : State) (b : Fin 6) : State :=
  (s.write (.inner .engine) (wordsAt (s.bayAddr b.val) BayRecord.zero.words)).setBayCopy b BayRecord.zero

/-- Step 6 (R32). -/
def State.formatBays (s : State) : State :=
  (((((s.formatBay 0).formatBay 1).formatBay 2).formatBay 3).formatBay 4).formatBay 5

/-- The engine record of step 7 (R32). -/
def formatRecord (head : Word) (state : Byte) : EngineRecord := ⟨head, 1, 1, dayOpen, state⟩

/-- Step 7: the engine record, then the journal tail (R32, R205). -/
def State.formatEngine (s : State) : State :=
  let s := s.setEngineRecord (formatRecord 0 formatting)
  let s := s.write (.inner .engine) [(s.controlAddr 0xA0, 0)]
  { s with engine := { s.engine with tail := 0 } }

/-- What comes between the steps of a FORMAT or the entries of a close (R33, R189). -/
abbrev Between := RunPoint → State → State

/-- Nothing comes between. -/
def undisturbed : Between := fun _ s => s

/-- Steps 1 to 6 of FORMAT, in FORMATTING (R31, R32). -/
def State.formatStores (s : State) : State :=
  let s := { s with engine := { s.engine with state := .formatting } }
  let s := s.setEngineRecord { s.engine.copy with formatState := formatting }
  ((s.formatRecords).formatJournal).formatBays

/-- Step 8 of FORMAT: entry 0, and the head 1 (R32). -/
def State.formatEntry (s : State) (params : Params) (stamp : Stamp) : State :=
  s.writeEntry
    { kind := PostKind.format.code, source := .desk, reason := none, stamp := stamp, params := params,
      tray := [], images := [] }
    (formatRecord 1 formatting)

/-- Step 9 of FORMAT, and the release of its guard (R32). -/
def State.formatEnd (s : State) : State :=
  (s.setEngineRecord (formatRecord 1 formatted)).withGuard []

/-- Steps 1 to 9 of FORMAT, with what comes between them (R31 to R33). -/
def State.formatHall (s : State) (params : Params) (stamp : Stamp) (between : Between) : State :=
  let s := (between .before7 s.formatStores).formatEngine
  let s := (between .before8 s).formatEntry params stamp
  (between .before9 s).formatEnd

/-- FORMAT at application: the hall mode, then every bay IDLE (R17, R31). -/
def State.formatRefusal (s : State) : Option Reason :=
  firstFail [((modeRefusal s.engine.mode .format).isNone, .hallTrading), (s.baysIdle, .bayBusy)]

/-- FORMAT applied as the posting in hand (R31, R32). -/
def State.applyFormat (s : State) (p : Posting) (between : Between) : State :=
  match s.formatRefusal with
  | some r =>
    if s.isFormatted then (s.placeGuard [.engine]).refuse p r else s.refuseBare p r
  | none =>
    ((s.formatHall p.params p.stamp between).report p none (some 0) none []).endPosting

/-- FORMAT run by ENGINE_FORMAT: no report of its own; an abandoned close that has a source is
reported REFUSED STORE_ERROR without a sequence number (R22, log 33). -/
def State.forceFormat (s : State) (between : Between) : State :=
  let cause := s.engine.halt
  let s := s.formatHall Params.zero s.stamp between
  let s := { s with engine := { s.engine with halt := none, work := .none } }
  let s := match cause with
    | some (.close c) =>
      if c.reports then
        s.report { kind := PostKind.dayClose.code, source := c.source, params := Params.zero, tray := [],
                   stamp := c.stamp } (some .storeError) none none []
      else s
    | _ => s
  s.endPosting

end Sys2Proof.Machine
end

