-- ==== Sys2Proof/Machine/Close.lean ====
section
/-! DEFINITION. Day close (chapter 09): its phases B, C and D, its waits on a full journal, its halt
by a parity error and its stop during start-up; and the application of any posting in hand. -/

namespace Sys2Proof.Machine

/-- A DAY_CLOSE names the engine copy's day (R183). -/
def dayClosePlan (p : Posting) : Plan :=
  .simple [] fun s =>
    checked
      [ (p.params.w0 != 0, .badValue),
        (p.params.w0 == s.engine.copy.day, .dayMismatch) ]
      .close

/-! ## The entries of a close -/

/-- The DAY_CLOSED parameters: the day, the lots and the resumed mark, the sold total (R188, R190). -/
def CloseWork.params (c : CloseWork) : Params :=
  ⟨c.day, flagBit c.resumed ++ 0#19 ++ BitVec.ofNat 12 c.lots,
    BitVec.ofNat 32 c.sold, BitVec.ofNat 32 (c.sold / 4294967296)⟩

/-- A DAY_CLOSED entry, applied at phase D or refused at a struck step (R188, R190). -/
def CloseWork.closedEntry (c : CloseWork) (reason : Option Reason) : JournalEntry :=
  { kind := PostKind.dayClosed.code, source := c.source, reason := reason, stamp := c.stamp,
    params := c.params, tray := [], images := [] }

/-- The entry of a withdrawal (R186). The withdrawals of a resumed close carry the resumed mark (R193), in
bit 31 of word 2, which R186 leaves zero (log 45). -/
def CloseWork.withdrawal (c : CloseWork) (number : Word) (images : List Image) : JournalEntry :=
  { kind := PostKind.withdraw.code, source := c.source, reason := none, stamp := c.stamp,
    params := ⟨number, c.day, flagBit c.resumed ++ 0#31, 0⟩, tray := [], images := images }

/-- The day after a day (R181). -/
def dayAfter (d : Word) : Word := if d = 0xFFFFFFFF then 1 else d + 1

/-! ## Ends, stops and halts -/

/-- Release the records of a step; the engine record stays guarded (R184). -/
def State.releaseStep (s : State) : State := s.withGuard [.engine]

/-- A resumed close stops during start-up: nothing written, every guard released, the close kept for
the entry to RUNNING (R192). -/
def State.stopClose (s : State) (c : CloseWork) : State :=
  { s with engine := { s.engine with state := .closingDay, work := .close c .struck, guard := [] } }

/-- The close is halted: its counts start afresh at the resume (R190). -/
def State.haltClose (s : State) (c : CloseWork) : State :=
  (s.withGuard []).haltAt (.close { c with lots := 0, sold := 0, resumed := true })

/-- A struck step with its slot: the refused DAY_CLOSED entry, then HALTED (R190). -/
def State.writeStruck (s : State) (c : CloseWork) : State :=
  (s.writeEntry (c.closedEntry (some .storeError)) s.engine.copy.step).haltClose c

/-- A parity error strikes a step of the close (R190, R192). -/
def State.strikeClose (s : State) (c : CloseWork) : State :=
  if s.part = .starting then s.stopClose c
  else if s.journalFull then s.waitForJournal (.close c .struck)
  else s.writeStruck c

/-- An entry of the close meets a full journal (R186, R188, R192). -/
def State.holdClose (s : State) (c : CloseWork) (due : CloseDue) : State :=
  if s.part = .starting then s.stopClose c else s.waitForJournal (.close c due)

/-- The engine record that phase D leaves (R188). -/
def State.openedRecord (s : State) (c : CloseWork) : EngineRecord :=
  { s.engine.copy.step with day := dayAfter c.day, dayState := dayOpen }

/-- The source of a close as a posting, for its report. -/
def CloseWork.posting (c : CloseWork) : Posting :=
  { kind := PostKind.dayClose.code, source := c.source, params := c.params, tray := [], stamp := c.stamp }

/-- Phase D with its slot (R188). -/
def State.writeClosed (s : State) (c : CloseWork) : State :=
  let seq := s.engine.copy.head
  let s := ((s.writeEntry (c.closedEntry none) (s.openedRecord c)).withGuard []).raise .dayClosed
  let s := if c.reports then s.report c.posting none (some seq) (some c.day) [] else s
  s.endPosting

/-- Phase D (R188). -/
def State.finishClose (s : State) (c : CloseWork) : State :=
  if s.journalFull then s.holdClose c .finish else s.writeClosed c

/-! ## Phase C -/

/-- The writes of one account's roll, the day number last (R187). -/
def rollWrites (a : Nat) (i : AccountImage) (day : Word) : List (Nat × Word) :=
  [(a + 0x14, i.balance), (a + 0x20, 0), (a + 0x24, 0), (a + 0x28, 0), (a + 0x04, dayAfter day)]

/-- Whether phase C rolls an account (R187). -/
def AccountImage.rolls (i : AccountImage) (day : Word) : Bool := i.kind != kindUnused && i.day == day

/-- What an account adds to the sold total (R187). -/
def AccountImage.soldBy (i : AccountImage) : Nat := if i.kind = kindBoat then i.sales.toNat else 0

/-- Whether phase C's read of an account meets a parity error: it reads kind, day number, balance and
sales today, and no other word (R187). -/
def State.rollReadFails (s : State) (n : Nat) : Bool :=
  s.store.failing (s.accountAddr n) 12 || s.store.failing (s.accountAddr n + 0x24) 4

/-- Phase C from account 256 − n on (R187). -/
def State.rollAccounts (s : State) (c : CloseWork) : Nat → State
  | 0 => s.finishClose c
  | n + 1 =>
    let a := 255 - n
    let s := (s.withGuard [.engine, .account a]).granted (.inner .engine)
    if s.rollReadFails a then s.strikeClose c
    else
      let i := s.account a
      if i.rolls c.day then
        ((s.write (.inner .engine) (rollWrites (s.accountAddr a) i c.day)).releaseStep).rollAccounts
          { c with sold := c.sold + i.soldBy } n
      else (s.releaseStep).rollAccounts c n

/-! ## Phase B -/

/-- A withdrawal with its slot: the entry, its images, the head (R186). -/
def State.writeWithdrawal (s : State) (e : JournalEntry) : State :=
  (s.writeEntry e s.engine.copy.step).releaseStep

/-- A withdrawal written, and what comes after it before the next entry (R186, R189). -/
def State.withdrawOne (s : State) (c : CloseWork) (e : JournalEntry) (between : Between) : State :=
  between (.withdrawn (c.lots + 1)) (s.writeWithdrawal e)

/-- Phase B from lot slot 2048 − n on, then phase C (R185, R186). -/
def State.withdrawLots (s : State) (c : CloseWork) (between : Between) : Nat → State
  | 0 => s.rollAccounts c 256
  | n + 1 =>
    let slot := 2047 - n
    let s := (s.withGuard [.engine, .lot slot]).granted (.inner .engine)
    if s.recordFails (.lot slot) then s.strikeClose c
    else
      let l := s.lot slot
      if l.state = lotOnFloor then
        let more := .account l.boat.toNat :: crateIds l.crates
        let s := s.placeGuard more
        if s.anyFails more then s.strikeClose c
        else
          let e := c.withdrawal l.number (s.withdrawImages slot withdrawnByClose)
          if s.journalFull then s.holdClose c (.withdrawal slot e)
          else (s.withdrawOne c e between).withdrawLots { c with lots := c.lots + 1 } between n
      else (s.releaseStep).withdrawLots c between n

/-- A close in CLOSING_DAY before phase B, its guard on the engine record placed (R184, R190, R191). -/
def State.enterClose (s : State) : State :=
  { s with engine := { s.engine with state := .closingDay, work := .none, guard := [.engine] } }

/-- A close from phase B (R185, R190, R191), with what comes between its entries (R189). -/
def State.runClose (s : State) (c : CloseWork) (between : Between) : State :=
  (between (.withdrawn c.lots) s.enterClose).withdrawLots c between 2048

/-- Phase A, then the rest (R184). -/
def State.beginClose (s : State) (c : CloseWork) (between : Between) : State :=
  (s.setEngineRecord { s.engine.copy with dayState := dayClosing }).runClose c between

/-- A close resumed by start-up or after a repeated redo: schedule source, the stamp of the
resumption, the resumed mark, no report (R191). -/
def State.resumedClose (s : State) : CloseWork :=
  { source := .schedule, stamp := s.stamp, day := s.engine.copy.day, lots := 0, sold := 0,
    resumed := true, reports := false }

/-- Whether the engine's copy says a close is in progress (R181). -/
def State.isClosing (s : State) : Bool := s.engine.copy.dayState == dayClosing

/-! ## Release of JOURNAL_WAIT -/

/-- The engine is back where it came from, with its entry still to write (R45, log 14). -/
def State.leaveJournalWait (s : State) : State :=
  match s.engine.work with
  | .close _ _ => { s with engine := { s.engine with state := .closingDay } }
  | _ => { s with engine := { s.engine with state := .applying } }

/-- The waiting entry is written and the posting or the close goes on (R45, R186). -/
def State.releaseWork (s : State) (between : Between) : State :=
  match s.engine.work with
  | .due d => ({ s with engine := { s.engine with work := .none } }).writeDueEntry d
  | .close c due =>
    let s := { s with engine := { s.engine with work := .none } }
    match due with
    | .withdrawal slot e =>
      (s.withdrawOne c e between).withdrawLots { c with lots := c.lots + 1 } between (2047 - slot)
    | .finish => s.writeClosed c
    | .struck => s.writeStruck c
  | _ => s

/-- JOURNAL_WAIT_RELEASE: once a tail write has ended the wait, the work goes on (R45, log 1, log 14). -/
def State.journalRelease (s : State) (between : Between) : State :=
  if s.engine.state = .journalWait ∨ s.journalFull = true then s
  else match s.engine.work with
    | .due _ => s.releaseWork between
    | .close _ _ => s.releaseWork between
    | _ => s

/-! ## The posting in hand -/

/-- What phases 1 to 4 came to is carried out (R15 to R18). -/
def State.conclude (s : State) (p : Posting) : Applied → State
  | .bare r => s.refuseBare p r
  | .refused t r => t.refuse p r
  | .accepted t d => t.entryDue d
  | .closing t c => t.beginClose c undisturbed

/-- A posting of a kind applied by its plan (R15). -/
def State.applyPlan (s : State) (p : Posting) (k : PostKind) (plan : Plan) : State :=
  s.conclude p (s.examine p k plan)

/-- A posting whose kind its source may not submit (R12, R17). -/
def State.applyUnknown (s : State) (p : Posting) : State :=
  if s.isFormatted then
    let s := (s.placeGuard [.engine]).granted (.inner .engine)
    s.refuse p (if s.recordFails .engine then .storeError else .unknownKind)
  else s.refuseBare p .unknownKind

/-- The posting in hand applied, whatever its kind: what a cut by reset interrupts (R48). -/
def State.applyTaken (s : State) (p : Posting) : State :=
  match p.kindOf with
  | none => s.applyUnknown p
  | some k => match k with
    | .openAccount => s.applyPlan p k (openAccountPlan p)
    | .setCredit => s.applyPlan p k (setCreditPlan p)
    | .freeze => s.applyPlan p k (freezePlan p)
    | .thaw => s.applyPlan p k (thawPlan p)
    | .closeAccount => s.applyPlan p k (closeAccountPlan p)
    | .transfer => s.applyPlan p k (transferPlan p)
    | .format => s.applyFormat p undisturbed
    | .registerCrate => s.applyPlan p k (registerCratePlan p)
    | .retireCrate => s.applyPlan p k (retireCratePlan p)
    | .writeOff => s.applyPlan p k (writeOffPlan p)
    | .bayRelease => s.applyPlan p k (bayReleasePlan p)
    | .dayClose => s.applyPlan p k (dayClosePlan p)
    | .sell => s.applyPlan p k (sellPlan p)
    | .withdraw => s.applyPlan p k (withdrawPlan p)
    | .land => s.applyPlan p k (s.landPlan p)
    | .iceHold => s.applyPlan p k (iceHoldPlan p)
    | .iceSettle => s.applyPlan p k (iceSettlePlan p)
    | .lend => s.applyPlan p k (lendPlan p)
    | .returnCrate => s.applyPlan p k (returnPlan p)
    | .dayClosed => s

/-- Whether the posting in hand is of this kind, from a source that may submit it. -/
def State.inHand (s : State) (k : PostKind) : Option Posting :=
  match s.engine.state, s.engine.work with
  | .applying, .taken p => if p.kindOf = some k then some p else none
  | _, _ => none

/-- A posting row: the posting in hand is applied when it is of the row's kind, else nothing happens
(log 1). -/
def State.applyRow (s : State) (k : PostKind) (plan : Posting → Plan) : State :=
  match s.inHand k with
  | some p => s.applyPlan p k (plan p)
  | none => s

/-- DAY_CLOSE as the posting in hand that begins its close, with what comes between its entries; any other
outcome of its checks is no close, and nothing happens (R183, R189, log 1). -/
def State.closeWithin (s : State) (p : Posting) (between : Between) : State :=
  match s.examine p .dayClose (dayClosePlan p) with
  | .closing t c => t.beginClose c between
  | _ => s

/-! ## Commands to the engine -/

/-- STEP, taken while PAUSED (R24). -/
def State.stepCommand (s : State) : State :=
  if s.engine.state = .paused then s.takeNext else s

/-- The redo struck earlier is repeated (R50). -/
def State.repeatRedo (s : State) (between : Between) : State :=
  match s.redo with
  | none => s.haltAtRedo
  | some t => if t.isClosing then t.runClose t.resumedClose between else t.takeNext

/-- ENGINE_RESUME, taken while HALTED, with what comes between the entries of a close it resumes (R22, R50,
R189, R190). -/
def State.resumeCommand (s : State) (between : Between) : State :=
  if s.engine.state = .halted then
    let cause := s.engine.halt
    let s := { s with engine := { s.engine with halt := none } }
    match cause with
    | some .redo => s.repeatRedo between
    | some (.close c) => s.runClose c between
    | _ => s.takeNext
  else s

/-- Whether the engine is HALTED by a struck redo or a halted close: ENGINE_FORMAT then runs FORMAT, and
ENGINE_RESUME repeats the redo or resumes the close (R22). -/
def State.commandRuns (s : State) : Bool :=
  decide (s.engine.state = .halted) &&
    match s.engine.halt with
    | some .redo => true
    | some (.close _) => true
    | _ => false

/-- ENGINE_FORMAT, with what comes between the steps of its FORMAT (R22, R33). -/
def State.formatCommand (s : State) (between : Between) : State :=
  if s.commandRuns then s.forceFormat between else s

/-- A STEP_MODE write: turned off while PAUSED, the engine runs again (R23, R24). -/
def State.setStepMode (s : State) (on : Bool) : State :=
  let s := { s with engine := { s.engine with stepMode := on } }
  if !on && decide (s.engine.state = .paused) then s.takeNext else s

/-- An accepted TAIL write: the tail copy, and the end of JOURNAL_WAIT (R42, R45). -/
def State.setTail (s : State) (t : Word) : State :=
  let s := { s with engine := { s.engine with tail := t } }
  if s.engine.state = .journalWait ∧ s.journalFull = false then s.leaveJournalWait else s

end Sys2Proof.Machine
end

