-- ==== Sys2Proof/Machine/Operands.lean ====
section
/-! DEFINITION. The words of books 0, 5 and 6: which word an offset names, where a word lies, which
values it takes (R204), what it reads as (R68), and what an accepted write of it does (R58, R69, R75). -/

namespace Sys2Proof.Machine

/-! ## The words -/

/-- The configuration words of book 0 that hold one number or field group and have a default (R203). -/
inductive ConfigWord where
  | noticeEnable
  | quaysideOwner
  | deskOwner
  | substitute
  | stepMode
  | feeRate
  | tariffA
  | tariffB
  | dispenseLimit
  | settleBand
  | settleCount
  | settleWindow
  | settleBreak
  | emptyThreshold
  | declareMode
  | clearCount
  | gateDirection
  | crateType (t : Fin 16)
  | schedule (k : Fin 4)
  deriving DecidableEq, Repr

/-- A word of book 0, 5 or 6 (chapter 11). -/
inductive SpecialWord where
  | hallMode
  | command
  | noticeFlags
  | clockControl
  | clockDate
  | clockTime
  | tariffBand
  | faultWord (i : Nat)
  | echo (i : Nat)
  | engineWord
  | tail
  | config (c : ConfigWord)
  | descriptor (slot : Fin 57) (second : Fin 2)
  | quayFlags
  | quayEnable
  | quayRestart
  | param (p : ParamWord)
  | commit (n : Fin 8)
  | sample (n : Fin 8)
  | test (n : Fin 8)
  | weight (n : Fin 8)
  | scaleState (n : Fin 8)
  | tray (n : Fin 8)
  | scaleStatus (n : Fin 8) (i : Nat)
  | raw (r : Fin 12)
  | declared (r : Fin 12)
  | readerStatus (r : Fin 12) (i : Nat)
  | bayWord (b : Fin 6)
  | request (b : Fin 6)
  | done (b : Fin 6)
  | bayStatus (b : Fin 6) (i : Nat)
  | trigger (slot : Fin 3)
  | deskStatus (slot : Fin 3) (i : Nat)
  | unassigned
  deriving DecidableEq, Repr

/-- The configuration word at an offset of book 0. -/
def configAt (off : Nat) : Option ConfigWord :=
  match off with
  | 0x00C => some .noticeEnable
  | 0x0A4 => some .quaysideOwner
  | 0x0A8 => some .deskOwner
  | 0x0AC => some .substitute
  | 0x0B0 => some .stepMode
  | 0x0B4 => some .feeRate
  | 0x0B8 => some .tariffA
  | 0x0BC => some .tariffB
  | 0x0C0 => some .dispenseLimit
  | 0x0C4 => some .settleBand
  | 0x0C8 => some .settleCount
  | 0x0CC => some .settleWindow
  | 0x0D0 => some .settleBreak
  | 0x0D4 => some .emptyThreshold
  | 0x0D8 => some .declareMode
  | 0x0DC => some .clearCount
  | 0x0E0 => some .gateDirection
  | _ =>
    if h : 0x100 ≤ off ∧ off < 0x140 then some (.crateType ⟨(off - 0x100) / 4, by omega⟩)
    else if h : 0x140 ≤ off ∧ off < 0x150 then some (.schedule ⟨(off - 0x140) / 4, by omega⟩)
    else none

/-- The offset of a configuration word in book 0. -/
def ConfigWord.offset : ConfigWord → Nat
  | .noticeEnable => 0x00C
  | .quaysideOwner => 0x0A4
  | .deskOwner => 0x0A8
  | .substitute => 0x0AC
  | .stepMode => 0x0B0
  | .feeRate => 0x0B4
  | .tariffA => 0x0B8
  | .tariffB => 0x0BC
  | .dispenseLimit => 0x0C0
  | .settleBand => 0x0C4
  | .settleCount => 0x0C8
  | .settleWindow => 0x0CC
  | .settleBreak => 0x0D0
  | .emptyThreshold => 0x0D4
  | .declareMode => 0x0D8
  | .clearCount => 0x0DC
  | .gateDirection => 0x0E0
  | .crateType t => 0x100 + 4 * t.val
  | .schedule k => 0x140 + 4 * k.val

/-- The word at a word-aligned offset of the CONTROL book. -/
def controlWordAt (off : Nat) : SpecialWord :=
  match off with
  | 0x000 => .hallMode
  | 0x004 => .command
  | 0x008 => .noticeFlags
  | 0x010 => .clockControl
  | 0x014 => .clockDate
  | 0x018 => .clockTime
  | 0x01C => .tariffBand
  | 0x0A0 => .tail
  | _ =>
    if 0x20 ≤ off ∧ off < 0x40 then .faultWord ((off - 0x20) / 4)
    else if 0x40 ≤ off ∧ off < 0x80 then .echo ((off - 0x40) / 4)
    else if 0x80 ≤ off ∧ off < 0xA0 then .engineWord
    else match configAt off with
      | some c => .config c
      | none =>
        if h : 0x200 ≤ off ∧ off < 0x3C8 then
          .descriptor ⟨(off - 0x200) / 8, by omega⟩ ⟨(off - 0x200) / 4 % 2, by omega⟩
        else .unassigned

/-- The word of scale slot n at an offset into the slot. -/
def scaleWordAt (n : Fin 8) (i : Nat) : SpecialWord :=
  match i with
  | 0x00 => .param (.boat n)
  | 0x04 => .param (.species n)
  | 0x08 => .param (.grade n)
  | 0x0C => .commit n
  | 0x10 => .sample n
  | 0x14 => .test n
  | 0x18 => .weight n
  | 0x1C => .scaleState n
  | 0x20 => .tray n
  | 0x24 => .scaleStatus n 0
  | 0x28 => .scaleStatus n 1
  | 0x2C => .scaleStatus n 2
  | _ => .unassigned

/-- The word of reader slot r; a scale reader has no HOLDER word (R124). -/
def readerWordAt (r : Fin 12) (i : Nat) : SpecialWord :=
  match i with
  | 0x00 => .raw r
  | 0x04 => if 8 ≤ r.val then .param (.holder ⟨r.val - 8, by omega⟩) else .unassigned
  | 0x08 => .declared r
  | 0x0C => .readerStatus r 0
  | 0x10 => .readerStatus r 1
  | _ => .unassigned

/-- The word of bay slot b. -/
def bayWordAt (b : Fin 6) (i : Nat) : SpecialWord :=
  if i < 0x20 then .bayWord b
  else match i with
    | 0x20 => .param (.requestBoat b)
    | 0x24 => .param (.requestKg b)
    | 0x28 => .param (.deliveredKg b)
    | 0x2C => .request b
    | 0x30 => .done b
    | 0x34 => .bayStatus b 0
    | 0x38 => .bayStatus b 1
    | _ => .unassigned

/-- The word at a word-aligned offset of the QUAYSIDE book. -/
def quaysideWordAt (off : Nat) : SpecialWord :=
  if off = 0 then .quayFlags
  else if off = 4 then .quayEnable
  else if off = 8 then .quayRestart
  else if h : 0x100 ≤ off ∧ off < 0x300 then scaleWordAt ⟨(off - 0x100) / 64, by omega⟩ (off % 64)
  else if h : 0x300 ≤ off ∧ off < 0x480 then readerWordAt ⟨(off - 0x300) / 32, by omega⟩ (off % 32)
  else if h : 0x500 ≤ off ∧ off < 0x680 then bayWordAt ⟨(off - 0x500) / 64, by omega⟩ (off % 64)
  else .unassigned

/-- The word at a word-aligned offset of the DESK book. -/
def deskWordAt (off : Nat) : SpecialWord :=
  if h : off < 0x60 then
    let slot : Fin 3 := ⟨off / 32, by omega⟩
    let i := off % 32
    if i < 0x10 then .param (.desk slot ⟨i / 4 % 4, by omega⟩)
    else if i = 0x10 then .trigger slot
    else .deskStatus slot ((i - 0x14) / 4)
  else .unassigned

/-- The word of book 0, 5 or 6 that an offset lies in; books 1 to 4 have records alone. -/
def specialWordAt (book : Fin 7) (off : Nat) : SpecialWord :=
  let w := off / 4 * 4
  match book.val with
  | 0 => controlWordAt w
  | 5 => quaysideWordAt w
  | 6 => deskWordAt w
  | _ => .unassigned

/-! ## Where a word lies -/

/-- A port address of a book and an offset (R52). -/
def portAddr (book off : Nat) : BitVec 24 := BitVec.ofNat 6 book ++ BitVec.ofNat 18 off

/-- The port address of a configuration word. -/
def ConfigWord.addr (c : ConfigWord) : BitVec 24 := portAddr 0 c.offset

/-- The QUAYSIDE or DESK offset and book of a parameter word (chapter 11). -/
def paramPlace : ParamWord → Nat × Nat
  | .boat n => (5, 0x100 + 64 * n.val)
  | .species n => (5, 0x104 + 64 * n.val)
  | .grade n => (5, 0x108 + 64 * n.val)
  | .holder g => (5, 0x404 + 32 * g.val)
  | .requestBoat b => (5, 0x520 + 64 * b.val)
  | .requestKg b => (5, 0x524 + 64 * b.val)
  | .deliveredKg b => (5, 0x528 + 64 * b.val)
  | .desk slot i => (6, 32 * slot.val + 4 * i.val)

/-- The port address of a parameter word. -/
def paramAddr (p : ParamWord) : BitVec 24 := portAddr (paramPlace p).1 (paramPlace p).2

/-! ## Values -/

/-- A number in a range (R204). -/
def inRange (w : Word) (lo hi : Nat) : Bool := decide (lo ≤ w.toNat) && decide (w.toNat ≤ hi)

/-- The values a configuration word takes, given the window and the break count it is held against
(R82, R194, R204). -/
def ConfigWord.takes (c : ConfigWord) (window brk : Nat) (w : Word) : Bool :=
  match c with
  | .noticeEnable => true
  | .substitute => true
  | .quaysideOwner => inRange w 0 1
  | .deskOwner => inRange w 0 1
  | .stepMode => inRange w 0 1
  | .feeRate => inRange w 0 200
  | .tariffA => inRange w 0 10000
  | .tariffB => inRange w 0 10000
  | .dispenseLimit => inRange w 30 3600
  | .settleBand => inRange w 1 255
  | .settleCount => inRange w 2 64
  | .settleWindow => inRange w (max 8 brk) 64
  | .settleBreak => inRange w 1 window
  | .emptyThreshold => inRange w 0 65535
  | .declareMode => inRange w 0 1
  | .clearCount => inRange w 1 15
  | .gateDirection => inRange w 0 15
  | .crateType _ => decide ((field w 0 16).toNat ≤ 2000) && decide ((field w 16 16).toNat ≤ 10000)
  | .schedule _ => scheduleValid w

/-- The commit's shadows are in range (R93). -/
def ScaleShadow.valid (sh : ScaleShadow) : Bool :=
  inRange sh.boat 0 255 && inRange sh.species 0 255 && inRange sh.grade 0 7

/-- The values a word takes at check 9 of R55 (R204). -/
def State.takesValue (s : State) (w : SpecialWord) (v : Word) : Bool :=
  match w with
  | .hallMode => inRange v 1 2
  | .command => inRange v 0 4
  | .clockDate => (dateOfWord v).valid
  | .clockTime => (timeOfWord v).valid && field v 24 8 == 0
  | .tariffBand => inRange v 0 1
  | .faultWord _ => v == 0
  | .tail => s.tailAccepted v
  | .config c => c.takes s.weigh.settle.window.toNat s.weigh.settle.brk.toNat v
  | .quayRestart => v == 1
  | .commit n => (s.shadows.scale.get n).valid
  | .sample _ => inRange v 0 500000
  | .request b => inRange (s.shadows.bay.get b).boat 0 255 && inRange (s.shadows.bay.get b).kg 1 5000
  | .done b => inRange (s.shadows.bay.get b).delivered 0 6000
  | _ => true

/-- The words a port may write (R57). -/
def SpecialWord.writable : SpecialWord → Bool
  | .faultWord i => i == 0
  | .echo _ => false
  | .engineWord => false
  | .weight _ => false
  | .scaleState _ => false
  | .tray _ => false
  | .scaleStatus _ _ => false
  | .declared _ => false
  | .readerStatus _ _ => false
  | .bayWord _ => false
  | .bayStatus _ _ => false
  | .deskStatus _ _ => false
  | .unassigned => false
  | _ => true

/-- The words writable only in SETUP (R125). -/
def SpecialWord.setupOnly : SpecialWord → Bool
  | .config .declareMode => true
  | .config .clearCount => true
  | .config .gateDirection => true
  | _ => false

/-- The words that need a held clock (R171). -/
def SpecialWord.needsHold : SpecialWord → Bool
  | .clockDate => true
  | .clockTime => true
  | _ => false

/-! ## Stations -/

/-- Whether a scale is fitted (R57). -/
def State.scaleFitted (s : State) (n : Nat) : Bool :=
  match s.profile with
  | none => false
  | some p => decide (n < p.scales.toNat)

/-- Whether a reader is fitted: a scale reader with its scale, a gate reader by the count (R57). -/
def State.readerFitted (s : State) (r : Fin 12) : Bool :=
  if r.val < 8 then s.scaleFitted r.val
  else match s.profile with
    | none => false
    | some p => decide (r.val - 8 < p.gates.toNat)

/-- Whether the station of a word's slot is fitted; words of no station pass (R57). -/
def State.wordFitted (s : State) : SpecialWord → Bool
  | .param (.boat n) => s.scaleFitted n.val
  | .param (.species n) => s.scaleFitted n.val
  | .param (.grade n) => s.scaleFitted n.val
  | .param (.holder g) => s.readerFitted (gateReader g)
  | .param (.requestBoat b) => s.bayFitted b
  | .param (.requestKg b) => s.bayFitted b
  | .param (.deliveredKg b) => s.bayFitted b
  | .commit n => s.scaleFitted n.val
  | .sample n => s.scaleFitted n.val
  | .test n => s.scaleFitted n.val
  | .raw r => s.readerFitted r
  | .request b => s.bayFitted b
  | .done b => s.bayFitted b
  | _ => true

/-- A commit state is PENDING (R93). -/
def CommitState.isPending : CommitState → Bool
  | .pending _ => true
  | _ => false

/-- Whether a trigger finds its slot free (R76). The STATUS of a desk-book slot is TAKEN exactly while
its posting is outstanding (R77). -/
def State.slotFree (s : State) : SpecialWord → Bool
  | .trigger slot => decide ((s.desk.get slot).outcome ≠ .taken)
  | .commit n => !(s.scale n).commit.isPending
  | _ => true

/-! ## The hall mode -/

/-- The five quiet conditions (R195). -/
def State.quiet (s : State) : Bool :=
  s.engine.queue.isEmpty && decide (s.engine.state = .idle) && s.baysIdle &&
    allBank s.tags.readers (fun r => !r.held && r.pending.isNone) &&
    allBank s.ice.bays (fun b => b.pending.isNone) &&
    (match s.clock.request with
      | .waiting _ => false
      | _ => true)

/-- The hall mode a HALL_MODE code names. -/
def hallModeOf (v : Word) : HallMode := if v = 2 then .trading else .setup

/-- Check 14: NOT_FORMATTED of a change to TRADING (R195). -/
def State.formatAllows (s : State) (w : SpecialWord) (v : Word) : Bool :=
  match w with
  | .hallMode =>
    decide (hallModeOf v = s.engine.mode) || decide (hallModeOf v = .setup) || s.isFormatted
  | _ => true

/-- Check 14: NOT_QUIET of a change to SETUP (R195). -/
def State.quietAllows (s : State) (w : SpecialWord) (v : Word) : Bool :=
  match w with
  | .hallMode =>
    decide (hallModeOf v = s.engine.mode) || decide (hallModeOf v = .trading) || s.quiet
  | _ => true

/-! ## Reading live words -/

/-- The fault record's words (chapter 11): the fields of an EMPTY record read 0 (log 48). -/
def FaultRecord.word (r : FaultRecord) (i : Nat) : Word :=
  match r.latched with
  | none => if i = 0 then 0#23 ++ flagBit r.second ++ 0#8 else 0
  | some f =>
    match i with
    | 0 => 0#23 ++ flagBit r.second ++ 1#8
    | 1 => BitVec.ofNat 8 (match f.size with | .byte => 1 | .half => 2 | .word => 4) ++
        (0#7 ++ flagBit f.write) ++ (0#2 ++ f.addr.extractLsb' 18 6) ++
        (match f.port with | .office => 0#8 | .quay => 1#8)
    | 2 => 0#14 ++ f.addr.extractLsb' 0 18
    | 3 => f.reason.code
    | 4 => f.stamp.count
    | 5 => 0#31 ++ flagBit f.stamp.unsure
    | _ => 0

/-- The part state's code (chapter 11). -/
def PartState.code : PartState → Word
  | .unpowered => 0
  | .starting => 0
  | .noProfile => 1
  | .running => 2

/-- The profile echo's words (R201, chapter 11). -/
def State.echoWord (s : State) (i : Nat) : Word :=
  match s.profile with
  | none => if i = 0 then s.part.code else 0
  | some p =>
    match i with
    | 0 => s.part.code
    | 1 => p.storeSize.setWidth 32
    | 2 => p.sets.setWidth 8 ++ p.bays.setWidth 8 ++ p.gates.setWidth 8 ++ p.scales.setWidth 8
    | 3 => p.select.setWidth 32
    | 4 => p.checkSum.setWidth 32
    | _ => if h : 5 ≤ i ∧ i < 12 then (p.bases.get ⟨i - 5, by omega⟩).setWidth 32 else 0

/-- The code of a hall mode. -/
def HallMode.code : HallMode → Word
  | .setup => 1
  | .trading => 2

/-- The code of a tariff band. -/
def Band.code : Band → Word
  | .a => 0
  | .b => 1

/-- The value of a live word, but for the clock latch; none for a word of the store (R68). -/
def State.liveWord (s : State) : SpecialWord → Option Word
  | .hallMode => some s.engine.mode.code
  | .command => some 0
  | .noticeFlags => some (s.notices.flags.setWidth 32)
  | .clockControl => some s.clock.controlWord
  | .clockDate => some s.clock.date.word
  | .clockTime => some s.clock.time.word
  | .tariffBand => some s.ice.band.code
  | .faultWord i => some (s.fault.word i)
  | .echo i => some (s.echoWord i)
  | .quayFlags => some (s.notices.quayFlags.setWidth 32)
  | .weight n => some ((s.scale n).weightWord s.copies.substitute)
  | .scaleState n => some (s.scale n).stateWord
  | .tray n => some (s.scale n).trayWord
  | .scaleStatus n i => some ((s.scale n).status.word i)
  | .declared r => some ((s.reader r).declaredWord s.copies.substitute)
  | .readerStatus r i => some ((s.reader r).status.word i)
  | .bayStatus b i => some ((s.bay b).status.word i)
  | .deskStatus slot i => some ((s.desk.get slot).word i)
  | _ => none

/-- The words that a write changes in the part alone (R69). -/
def SpecialWord.isLive : SpecialWord → Bool
  | .hallMode => true
  | .command => true
  | .noticeFlags => true
  | .clockControl => true
  | .clockDate => true
  | .clockTime => true
  | .tariffBand => true
  | .faultWord _ => true
  | .quayFlags => true
  | _ => false

/-! ## What an accepted write does -/

/-- The owner a code names. -/
def ownerOf (v : Word) : Side := if v = 0 then .office else .quay

/-- The copy of a configuration word, wherever it is kept (R194). -/
def State.setCopy (s : State) (c : ConfigWord) (v : Word) : State :=
  match c with
  | .noticeEnable => { s with notices := { s.notices with enable := field v 0 10 } }
  | .quaysideOwner => { s with copies := { s.copies with quaysideOwner := ownerOf v } }
  | .deskOwner => { s with copies := { s.copies with deskOwner := ownerOf v } }
  | .substitute => { s with copies := { s.copies with substitute := v } }
  | .stepMode => s.setStepMode (v != 0)
  | .feeRate => { s with engine := { s.engine with feeRate := v } }
  | .tariffA => { s with ice := { s.ice with tariffA := v } }
  | .tariffB => { s with ice := { s.ice with tariffB := v } }
  | .dispenseLimit => { s with ice := { s.ice with limit := v } }
  | .settleBand => { s with weigh := { s.weigh with settle := { s.weigh.settle with band := v } } }
  | .settleCount => { s with weigh := { s.weigh with settle := { s.weigh.settle with count := v } } }
  | .settleWindow => { s with weigh := { s.weigh with settle := { s.weigh.settle with window := v } } }
  | .settleBreak => { s with weigh := { s.weigh with settle := { s.weigh.settle with brk := v } } }
  | .emptyThreshold => { s with weigh := { s.weigh with settle := { s.weigh.settle with empty := v } } }
  | .declareMode => s.setDeclareMode (declareModeOf v)
  | .clearCount => { s with tags := { s.tags with clearCount := v } }
  | .gateDirection => { s with tags := { s.tags with direction := field v 0 4 } }
  | .crateType t => { s with engine := { s.engine with crateTypes := s.engine.crateTypes.set t v } }
  | .schedule k => s.scheduleWrite k v

/-- Word i of four parameter words, replaced. -/
def Params.set (p : Params) (i : Fin 4) (v : Word) : Params :=
  match i.val with
  | 0 => { p with w0 := v }
  | 1 => { p with w1 := v }
  | 2 => { p with w2 := v }
  | _ => { p with w3 := v }

/-- A slot shadow, written (R75). -/
def Shadows.set (sh : Shadows) (p : ParamWord) (v : Word) : Shadows :=
  match p with
  | .boat n => { sh with scale := sh.scale.set n { sh.scale.get n with boat := v } }
  | .species n => { sh with scale := sh.scale.set n { sh.scale.get n with species := v } }
  | .grade n => { sh with scale := sh.scale.set n { sh.scale.get n with grade := v } }
  | .holder g => { sh with holder := sh.holder.set g v }
  | .requestBoat b => { sh with bay := sh.bay.set b { sh.bay.get b with boat := v } }
  | .requestKg b => { sh with bay := sh.bay.set b { sh.bay.get b with kg := v } }
  | .deliveredKg b => { sh with bay := sh.bay.set b { sh.bay.get b with delivered := v } }
  | .desk slot i => { sh with desk := sh.desk.set slot ((sh.desk.get slot).set i v) }

/-- A shadow word. -/
def Shadows.word (sh : Shadows) : ParamWord → Word
  | .boat n => (sh.scale.get n).boat
  | .species n => (sh.scale.get n).species
  | .grade n => (sh.scale.get n).grade
  | .holder g => sh.holder.get g
  | .requestBoat b => (sh.bay.get b).boat
  | .requestKg b => (sh.bay.get b).kg
  | .deliveredKg b => (sh.bay.get b).delivered
  | .desk slot i =>
    let p := sh.desk.get slot
    match i.val with
    | 0 => p.w0
    | 1 => p.w1
    | 2 => p.w2
    | _ => p.w3

/-- The source of a desk-book slot. -/
def deskSource (slot : Fin 3) : Source :=
  if h : slot.val < 2 then .rostrum ⟨slot.val, h⟩ else .desk

/-- The posting of a desk-book trigger: the written value is its kind (R12, R76). -/
def State.deskPosting (s : State) (slot : Fin 3) (v : Word) : Posting :=
  { kind := v, source := deskSource slot, params := s.shadows.desk.get slot, tray := [],
    stamp := s.stamp }

/-- A rostrum or desk TRIGGER taken by intake (R76, R112). -/
def State.takeTrigger (s : State) (slot : Fin 3) (v : Word) : State :=
  if slot ≠ deskSlot ∧ s.engine.mode = .setup then s.setDesk slot (.refusal .hallSetup)
  else if s.admits then (s.setDesk slot (.plain .taken)).enqueue (s.deskPosting slot v)
  else s.setDesk slot (.plain .busy)

/-- Whether a cache entry is FETCHING or HELD for a book (R62). -/
def CacheEntry.names (e : CacheEntry) (book : BitVec 6) : Bool :=
  match e with
  | .free => false
  | .fetching b _ => b == book
  | .held b _ => b == book

/-- An entry dropped: HELD becomes FREE, FETCHING gets its repeat mark (R65, R66). -/
def CacheEntry.drop : CacheEntry → CacheEntry
  | .fetching b _ => .fetching b true
  | _ => .free

/-- A descriptor write at the cache (R65). -/
def Cache.dropBook (c : Cache) (book : BitVec 6) : Cache :=
  { c with entries := mapBank (fun _ e => if e.names book then e.drop else e) c.entries }

/-- The plain book of a place in the book table (R54). -/
def tableBook (slot : Fin 57) : BitVec 6 := BitVec.ofNat 6 (7 + slot.val)

/-- Whether an entry's set is enabled; a field that enables neither is taken as set A (R62). -/
def entryEnabled (sets : Half) (e : Fin 16) : Bool :=
  if e.val < 8 then sets != 2 else sets == 2 || sets == 3

/-- The first enabled entry (R62). -/
def firstEntry (sets : Half) : Fin 16 := if entryEnabled sets 0 then 0 else 8

/-- The cache-sets field of the held profile. -/
def State.cacheSets (s : State) : Half :=
  match s.profile with
  | none => 0
  | some p => p.sets

/-- INVALIDATE_ALL at the cache (R66). -/
def State.invalidateCache (s : State) : State :=
  { s with cache := { entries := mapBank (fun _ e => e.drop) s.cache.entries,
                      victim := firstEntry s.cacheSets } }

/-- A command word taken (R196). -/
def State.takeCommand (s : State) (v : Word) : State :=
  match v.toNat with
  | 1 => s.invalidateCache
  | 2 => s.stepCommand
  | 3 => s.resumeCommand undisturbed
  | 4 => s.formatCommand undisturbed
  | _ => s

/-- QUAY_RESTART: the three units, then every indication cleared (R197). -/
def State.quayRestart (s : State) (beside : List Request) : State :=
  let s := ((s.restartScales).restartReaders).restartBays beside
  { s with notices := { s.notices with quayFlags := 0 } }

/-- A bay trigger delivered: held while the bay's record is guarded, else taken by intake (R155). -/
def State.deliverBay (s : State) (port : PortId) (b : Fin 6) (isDone : Bool) (v : Word)
    (beside : List Request) : State :=
  let sh := s.shadows.bay.get b
  if s.guarded (.bay b.val) then
    let c := s.bay b
    (s.setBay b { c with held := c.held ++ [⟨port, isDone, sh, v⟩] }).setPath port
      { s.path port with wait := .bay b }
  else s.takeBayTrigger b isDone sh beside

/-- The band a code names. -/
def bandOf (v : Word) : Band := if v = 0 then .a else .b

/-- The effect of an accepted write on the blocks that write no store word for it (R58, R69, R75). -/
def State.blockEffect (s : State) (w : SpecialWord) (v : Word) : State :=
  match w with
  | .hallMode => { s with engine := { s.engine with mode := hallModeOf v } }
  | .command => s.takeCommand v
  | .noticeFlags => s.clearNotices v
  | .clockControl => s.clockControlWrite v
  | .clockDate => s.clockDateWrite v
  | .clockTime => s.clockTimeWrite v
  | .tariffBand => { s with ice := { s.ice with band := bandOf v } }
  | .faultWord _ => { s with fault := ⟨none, false⟩ }
  | .tail => s.setTail v
  | .config c => s.setCopy c v
  | .descriptor slot _ => { s with cache := s.cache.dropBook (tableBook slot) }
  | .quayFlags => s.clearIndications v
  | .quayEnable => { s with notices := { s.notices with quayEnable := field v 0 26 } }
  | .param p => { s with shadows := s.shadows.set p v }
  | .commit n => s.takeCommit n
  | .sample n => s.takeSample n v.toNat
  | .test n => s.takeTest n
  | .raw r => s.takeRaw r v
  | .trigger slot => s.takeTrigger slot v
  | _ => s

/-- The effect of an accepted write at its check, and the store words that the path and the Ice Unit write
for it, as the arbiter grants them (R58, R69, R75, R79). -/
def State.effect (s : State) (port : PortId) (w : SpecialWord) (v : Word) (beside : List Request) : State :=
  match w with
  | .quayRestart => s.quayRestart beside
  | .request b => s.deliverBay port b false v beside
  | .done b => s.deliverBay port b true v beside
  | w => (s.blockEffect w v).serve beside

end Sys2Proof.Machine
end

