-- ==== Sys2Proof/Machine/Paths.lean ====
section
/-! DEFINITION. The Store Paths (chapter 03): the checks of an access in the order of R55, the fault
record, the Descriptor Cache, guard waits, snapshots, the clock latch, and the access itself. -/

namespace Sys2Proof.Machine

/-! ## Port addresses and data -/

/-- The book of a port address (R52). -/
def addrBook (a : BitVec 24) : BitVec 6 := a.extractLsb' 18 6

/-- The offset of a port address (R52). -/
def addrOffset (a : BitVec 24) : Nat := (a.extractLsb' 0 18).toNat

/-- The bytes an access covers (R52). -/
def sizeBytes : Size → Nat
  | .byte => 1
  | .half => 2
  | .word => 4

/-- An access is a write. -/
def Access.isWrite (a : Access) : Bool := a.write.isSome

/-- The offset of an access. -/
def Access.offset (a : Access) : Nat := addrOffset a.addr

/-- The bytes of a word that a read returns, zero-extended (R58, R68, log 29). -/
def piece (w : Word) (off : Nat) (size : Size) : Word :=
  let v := w >>> (8 * (off % 4))
  match size with
  | .byte => (field v 0 8).setWidth 32
  | .half => (field v 0 16).setWidth 32
  | .word => v

/-! ## Answers and faults -/

/-- Put a path's access to wait, or free the path. -/
def State.setWait (s : State) (p : PortId) (w : Wait) : State :=
  s.setPath p { s.path p with wait := w }

/-- Answer the port's access and free its path (R55, R58). -/
def State.answer (s : State) (p : PortId) (r : Answer) : State :=
  s.setPath p { s.path p with wait := .free, answer := r }

/-- A faulted access at the fault record: it latches, or sets SECOND (R60). -/
def State.latchFault (s : State) (p : PortId) (a : Access) (r : FaultReason) : State :=
  match s.fault.latched with
  | some _ => { s with fault := { s.fault with second := true } }
  | none =>
    let i : FaultInfo := ⟨s.side p, a.addr, a.isWrite, a.size, r, s.stamp⟩
    ({ s with fault := { s.fault with latched := some i } }).raise .fault

/-- An access answered FAULT (R55, R60). -/
def State.faultAccess (s : State) (p : PortId) (a : Access) (r : FaultReason) : State :=
  (s.latchFault p a r).answer p (.fault r)

/-! ## Store reads and snapshots -/

/-- The store grantee of a port. -/
def State.grantee (s : State) (p : PortId) : Grantee := .path (s.side p)

/-- The bytes of an access from the store, or STORE_PARITY (R58). -/
def State.storeRead (s : State) (p : PortId) (a : Access) (base : Nat) : State :=
  let s := s.granted (s.grantee p)
  if s.store.failing (base + a.offset) (sizeBytes a.size) then s.faultAccess p a .storeParity
  else s.answer p (.data (piece (s.store.word (base + a.offset / 4 * 4)) a.offset a.size))

/-- The book of a snapshot (R72). -/
def latchBook (book : Fin 7) : Option LatchBook :=
  match book.val with
  | 1 => some .accounts
  | 2 => some .lots
  | _ => none

/-- A latching read (R72). -/
def isLatching (book : Fin 7) (a : Access) : Bool :=
  (latchBook book).isSome && !a.isWrite && decide (a.size = .word) && a.offset % 64 == 0

/-- The port's latch is made invalid. -/
def State.dropSnapshot (s : State) (p : PortId) : State :=
  s.setPath p { s.path p with snapshot := none }

/-- A latching read takes its sixteen words (R72). -/
def State.latchRecord (s : State) (p : PortId) (book : Fin 7) (a : Access) : State :=
  let s := s.granted (s.grantee p)
  let base := s.base book + a.offset
  if s.store.failing base 64 then (s.dropSnapshot p).faultAccess p a .storeParity
  else
    let ws := s.store.words base 16
    let s := s.setPath p { s.path p with
      snapshot := (latchBook book).map fun b => ⟨b, a.offset / 64, ws⟩ }
    s.answer p (.data (ws.headD 0))

/-- The word a valid snapshot answers a read with: every read of the record but one at its offset 0 (R58,
R72). -/
def Path.snapshotWord (x : Path) (book : Fin 7) (a : Access) : Option Word :=
  match x.snapshot with
  | none => none
  | some n =>
    if latchBook book = some n.book ∧ a.offset / 64 = n.index ∧ a.offset % 64 ≠ 0 then
      some (n.words.getD (a.offset % 64 / 4) 0)
    else none

/-- The guarded record that an offset of a special book lies in (R71, log 32). -/
def guardRecord (book : Fin 7) (off : Nat) : Option RecordId :=
  match book.val with
  | 0 => if 0x80 ≤ off ∧ off < 0xA0 then some .engine else none
  | 1 => some (.account (off / 64))
  | 2 => some (.lot (off / 64))
  | 3 => some (.crate (off / 16))
  | 5 => if 0x500 ≤ off ∧ off < 0x680 ∧ off % 64 < 0x20 then some (.bay ((off - 0x500) / 64)) else none
  | _ => none

/-- Whether a read waits on the guard (R71). -/
def State.readGuarded (s : State) (book : Fin 7) (off : Nat) : Bool :=
  match guardRecord book off with
  | none => false
  | some r => s.guarded r

/-- A read that goes to the store (R58, R72). -/
def State.storedRead (s : State) (p : PortId) (book : Fin 7) (a : Access) : State :=
  if isLatching book a then s.latchRecord p book a else s.storeRead p a (s.base book)

/-- A read of the store, once any guard is released (R58, R71). -/
def State.guardedRead (s : State) (p : PortId) (book : Fin 7) (a : Access) : State :=
  if s.readGuarded book a.offset then s.setWait p (.guard a) else s.storedRead p book a

/-- A read of CLOCK_DATE: the date, and the time into the clock latch (R74). -/
def State.readDate (s : State) (p : PortId) (a : Access) : State :=
  (s.setPath p { s.path p with clock := some s.clock.time }).answer p
    (.data (piece s.clock.date.word a.offset a.size))

/-- A read of CLOCK_TIME: the latched time, which empties the latch, or the live time (R74). -/
def State.readTime (s : State) (p : PortId) (a : Access) : State :=
  let t := (s.path p).clock.getD s.clock.time
  (s.setPath p { s.path p with clock := none }).answer p (.data (piece t.word a.offset a.size))

/-- An accepted read of a special book (R58). -/
def State.readSpecial (s : State) (p : PortId) (book : Fin 7) (a : Access) : State :=
  match specialWordAt book a.offset with
  | .clockDate => s.readDate p a
  | .clockTime => s.readTime p a
  | w =>
    match s.liveWord w with
    | some v => s.answer p (.data (piece v a.offset a.size))
    | none =>
      if isLatching book a then (s.dropSnapshot p).guardedRead p book a
      else match (s.path p).snapshotWord book a with
        | some v => s.answer p (.data (piece v a.offset a.size))
        | none => s.guardedRead p book a

/-! ## Writes of the special books -/

/-- Whether the path's access waits at a bay. -/
def Wait.atBay : Wait → Bool
  | .bay _ => true
  | _ => false

/-- The request of an accepted write for its store word; a live word has none (R58, R69). -/
def State.wordRequest (s : State) (p : PortId) (book : Fin 7) (a : Access) (v : Word) : List Request :=
  if (specialWordAt book a.offset).isLive then [] else [(s.grantee p, s.base book + a.offset, v)]

/-- An accepted write of a special book: its effect at its check, with its store word (R58, R69). A
trigger that is held requests no store access until intake takes it (R79, R155). -/
def State.writeSpecial (s : State) (p : PortId) (book : Fin 7) (a : Access) (v : Word) : State :=
  let t := (s.dropSnapshot p).effect p (specialWordAt book a.offset) v (s.wordRequest p book a v)
  if (t.path p).wait.atBay then t else t.answer p .done

/-! ## The checks of a special book -/

/-- The right of a port to write a special book (R53, R56, R78). -/
def State.mayWrite (s : State) (d : Side) (book : Fin 7) : Bool :=
  match book.val with
  | 0 => decide (d = .office)
  | 5 => decide (d = s.copies.quaysideOwner)
  | 6 => decide (d = s.copies.deskOwner)
  | _ => true

/-- An aligned access (R56). -/
def Access.aligned (a : Access) : Bool := a.offset % sizeBytes a.size == 0

/-- Whether a book takes whole-word writes only (R56). -/
def wholeWords (book : Fin 7) : Bool := book.val == 0 || book.val == 5 || book.val == 6

/-- The checks that look at the word a write addresses (R57). -/
def State.wordChecks (s : State) (w : SpecialWord) (v : Word) : List (Bool × FaultReason) :=
  [ (w.writable, .readOnly),
    (s.takesValue w v, .badValue),
    (!(w.setupOnly && decide (s.engine.mode = .trading)), .setupOnly),
    (!(w.needsHold && !s.clock.hold), .clockRunning),
    (s.wordFitted w, .notFitted),
    (s.slotFree w, .slotBusy),
    (s.quietAllows w v, .notQuiet),
    (s.formatAllows w v, .notFormatted) ]

/-- The checks of R55 for an access to a special book, in order. -/
def State.specialChecks (s : State) (d : Side) (book : Fin 7) (a : Access) :
    List (Bool × FaultReason) :=
  [ (decide (a.offset + sizeBytes a.size ≤ bookLimit book), .limit),
    (!a.isWrite || s.mayWrite d book, .rights),
    (a.aligned, .misaligned),
    (!(a.isWrite && wholeWords book && decide (a.size ≠ .word)), .partialWrite) ] ++
  (match a.write with
    | none => []
    | some v => s.wordChecks (specialWordAt book a.offset) v)

/-- An access to a special book, checked and carried out (R55, R58). -/
def State.checkSpecial (s : State) (p : PortId) (book : Fin 7) (a : Access) : State :=
  match firstFail (s.specialChecks (s.side p) book a) with
  | some r => s.faultAccess p a r
  | none =>
    match a.write with
    | none => s.readSpecial p book a
    | some v => s.writeSpecial p book a v

/-! ## Plain books -/

/-- Two byte ranges that share a byte. -/
def overlap (a alen b blen : Nat) : Bool := decide (a < b + blen) && decide (b < a + alen)

/-- Whether a range overlaps any special book (R54). -/
def Profile.overlaps (p : Profile) (a len : Nat) : Bool :=
  (List.range 7).any fun i => if h : i < 7 then overlap a len (p.base ⟨i, h⟩) (bookLimit ⟨i, h⟩) else false

/-- A descriptor whose fields are among their values (R54); a write and a fetch ignore the unassigned bits
of its words (R204). -/
def descriptorInRange (w0 w1 : Word) : Bool :=
  field w0 28 2 != 3 && decide (1 ≤ w1.toNat) && decide (w1.toNat ≤ 262144)

/-- The descriptor of two words, with its verdict (R54). -/
def State.decodeDescriptor (s : State) (w0 w1 : Word) : Descriptor :=
  let base := field w0 0 14
  let first := base.toNat * 1024
  let fits := match s.profile with
    | none => false
    | some p => decide (first + w1.toNat ≤ s.storeBytes) && !p.overlaps first w1.toNat
  { valid := w0.getLsbD 31 && descriptorInRange w0 w1 && fits
    base := base, limit := w1
    owner := if w0.getLsbD 27 then .quay else .office
    other := field w0 28 2, lock := w0.getLsbD 26 }

/-- The rights of a port at a plain book (R56). -/
def Descriptor.allows (d : Descriptor) (side : Side) (isWrite : Bool) : Bool :=
  decide (side = d.owner) || (if isWrite then d.other == 2 else d.other == 1 || d.other == 2)

/-- The checks of R55 for an access to a plain book, in order. -/
def Descriptor.checks (d : Descriptor) (side : Side) (a : Access) : List (Bool × FaultReason) :=
  [ (d.valid, .noBook),
    (decide (a.offset + sizeBytes a.size ≤ d.limit.toNat), .limit),
    (d.allows side a.isWrite, .rights),
    (!(a.isWrite && d.lock), .writeLock),
    (a.aligned, .misaligned) ]

/-- The bytes a write of a size carries. -/
def writeBytes (size : Size) (v : Word) : List Byte := (wordBytes v).take (sizeBytes size)

/-- An accepted write of a plain book: the bytes written alone change (R58). -/
def State.writePlain (s : State) (p : PortId) (base : Nat) (a : Access) (v : Word) : State :=
  let s := s.dropSnapshot p
  let s := { s with store := s.store.putBytes (base + a.offset) (writeBytes a.size v) }
  (s.granted (s.grantee p)).answer p .done

/-- An access to a plain book, checked against its descriptor and carried out (R55, R58). -/
def State.checkPlain (s : State) (p : PortId) (d : Descriptor) (a : Access) : State :=
  match firstFail (d.checks (s.side p) a) with
  | some r => s.faultAccess p a r
  | none =>
    match a.write with
    | none => s.storeRead p a (d.base.toNat * 1024)
    | some v => s.writePlain p (d.base.toNat * 1024) a v

/-! ## The Descriptor Cache -/

/-- The entry that names a book (R62). -/
def Cache.find (c : Cache) (book : BitVec 6) : Option CacheEntry :=
  c.entries.toList.find? fun e => e.names book

/-- The enabled entry at or after `e`, in ascending order with wrapping, of `n` candidates. -/
def enabledFrom (sets : Half) : Nat → Fin 16 → Fin 16
  | 0, e => e
  | n + 1, e => if entryEnabled sets e then e else enabledFrom sets n (e + 1)

/-- The next enabled entry after `e` (R64). -/
def nextEntry (sets : Half) (e : Fin 16) : Fin 16 := enabledFrom sets 16 (e + 1)

/-- An entry is FETCHING (R62). -/
def CacheEntry.isFetching : CacheEntry → Bool
  | .fetching _ _ => true
  | _ => false

/-- The victim: the entry the pointer names, passing over FETCHING entries (R64). -/
def Cache.victimFrom (c : Cache) (sets : Half) : Nat → Fin 16 → Fin 16
  | 0, e => e
  | n + 1, e => if (c.entries.get e).isFetching then c.victimFrom sets n (nextEntry sets e) else e

/-- A miss takes a victim and issues the fetch (R63, R64). -/
def Cache.miss (c : Cache) (sets : Half) (book : BitVec 6) : Cache :=
  let v := c.victimFrom sets 16 c.victim
  { entries := c.entries.set v (.fetching book false), victim := nextEntry sets v }

/-- An access to plain book b at the cache: checked at once, or waiting on a fetch (R63). -/
def State.plainAccess (s : State) (p : PortId) (book : BitVec 6) (a : Access) : State :=
  match s.cache.find book with
  | some (.held _ d) => s.checkPlain p d a
  | some _ => s.setWait p (.fetch a)
  | none => ({ s with cache := s.cache.miss s.cacheSets book }).setWait p (.fetch a)

/-- An access taken by its path while the part is RUNNING (R55). -/
def State.checkAccess (s : State) (p : PortId) (a : Access) : State :=
  let s := s.setWait p .free
  let book := addrBook a.addr
  if h : book.toNat < 7 then s.checkSpecial p ⟨book.toNat, h⟩ a else s.plainAccess p book a

/-- A request on a port's bus: waiting while STARTING, NO_PROFILE, or checked (R55, R59). A port that
holds an access, or has no power, takes none (log 36). -/
def State.arrive (s : State) (p : PortId) (a : Access) : State :=
  if (s.path p).wait = .free then
    match s.part with
    | .unpowered => s
    | .starting => s.setWait p (.unchecked a)
    | .noProfile => s.faultAccess p a .noProfile
    | .running => s.checkAccess p a
  else s

/-- The store address of a plain book's descriptor (R54). -/
def State.descriptorAddr (s : State) (book : BitVec 6) : Nat :=
  s.controlAddr (0x200 + 8 * (book.toNat - 7))

/-- An access waiting on the fetch of a book, at the fetch's end (R63, R67). -/
def State.settleFetch (s : State) (book : BitVec 6) (d : Option Descriptor) (p : PortId) : State :=
  match (s.path p).wait with
  | .fetch a =>
    if addrBook a.addr = book then
      match d with
      | some d => (s.setWait p .free).checkPlain p d a
      | none => s.faultAccess p a .storeParity
    else s
  | _ => s

/-- Replace the FETCHING entry of a book. -/
def Cache.settle (c : Cache) (book : BitVec 6) (new : CacheEntry) : Cache :=
  { c with entries := mapBank (fun _ e => if e.names book then new else e) c.entries }

/-- Both ports, the office first (log 24). -/
def State.bothPorts (s : State) (f : State → PortId → State) : State :=
  f (f s (s.portOf .office)) (s.portOf .quay)

/-- The fetch of a book's descriptor ends: a parity error ends it, mark and all (R67); else with its
repeat mark set it is issued again (R65), and without it its entry becomes HELD (R63). -/
def State.endFetch (s : State) (book : BitVec 6) : State :=
  match s.cache.find book with
  | some (.fetching _ again) =>
    let s := s.granted (.inner .cache)
    let a := s.descriptorAddr book
    if s.store.failing a 8 then
      ({ s with cache := s.cache.settle book .free }).bothPorts fun t p => t.settleFetch book none p
    else if again then { s with cache := s.cache.settle book (.fetching book false) }
    else
      let d := s.decodeDescriptor (s.store.word a) (s.store.word (a + 4))
      ({ s with cache := s.cache.settle book (.held book d) }).bothPorts fun t p =>
        t.settleFetch book (some d) p
  | _ => s

/-- A read that waited on the guard, once the guard set is released (R71, R73). -/
def State.resumeRead (s : State) (p : PortId) : State :=
  match (s.path p).wait with
  | .guard a =>
    if h : (addrBook a.addr).toNat < 7 then
      if s.readGuarded ⟨(addrBook a.addr).toNat, h⟩ a.offset then s
      else (s.setWait p .free).storedRead p ⟨(addrBook a.addr).toNat, h⟩ a
    else s
  | _ => s

/-- The store word of a bay trigger: REQUEST or DONE of its slot (chapter 11). -/
def State.triggerAddr (s : State) (b : Fin 6) (isDone : Bool) : Nat :=
  s.bayAddr b.val + (if isDone then 0x30 else 0x2C)

/-- A held trigger leaves its bay: intake takes it, its word goes to the store, and its write is answered
DONE (R79, R155). -/
def State.finishHeld (s : State) (b : Fin 6) (t : HeldTrigger) : State :=
  (s.takeBayTrigger b t.isDone t.shadow
    [(s.grantee t.port, s.triggerAddr b t.isDone, t.data)]).answer t.port .done

/-- The first held trigger of a bay, once the bay's record is not guarded (R155). -/
def State.takeHeld (s : State) (b : Fin 6) : State :=
  let c := s.bay b
  match c.held with
  | [] => s
  | t :: ts =>
    if s.guarded (.bay b.val) then s
    else (s.setBay b { c with held := ts }).finishHeld b t

end Sys2Proof.Machine
end

