-- ==== Sys2Proof/Machine/Startup.lean ====
section
/-! DEFINITION. The profile (R201), the start-up sequence (R202, R203), the drop of volatile state at
a reset, and what a reset leaves of the work it cuts (R48). -/

namespace Sys2Proof.Machine

/-! ## The profile -/

/-- The halfwords that the check sum covers (R201). -/
def Profile.summed (p : Profile) : List Half :=
  p.storeSize :: p.bases.toList ++ [p.scales, p.gates, p.bays, p.sets, p.select]

/-- The special book regions of a profile lie in the store and apart (R53, R201). -/
def Profile.placed (p : Profile) : Bool :=
  (List.finRange 7).all fun i =>
    decide (p.base i + bookLimit i ≤ p.storeSize.toNat * 1048576) &&
      (List.finRange 7).all fun j =>
        decide (j ≤ i) || !overlap (p.base i) (bookLimit i) (p.base j) (bookLimit j)

/-- A valid profile (R201). -/
def Profile.isValid (p : Profile) : Bool :=
  decide (1 ≤ p.storeSize.toNat) && decide (p.storeSize.toNat ≤ 16) && decide (p.scales.toNat ≤ 8) &&
    decide (p.gates.toNat ≤ 4) && decide (p.bays.toNat ≤ 6) && decide (p.sets.toNat ≤ 3) &&
    decide (p.select.toNat ≤ 1) && p.checkSum == p.summed.foldl (· + ·) 0 && p.placed

/-- The profile a start-up holds: what the ROM answers, when it is valid (R201). -/
def State.loadedProfile (s : State) : Option Profile :=
  match s.rom with
  | none => none
  | some p => if p.isValid then some p else none

/-! ## Configuration normalisation -/

/-- The configuration words of book 0 in ascending offset, without the book table and TAIL. -/
def configWords : List ConfigWord :=
  [.noticeEnable, .quaysideOwner, .deskOwner, .substitute, .stepMode, .feeRate, .tariffA, .tariffB,
    .dispenseLimit, .settleBand, .settleCount, .settleWindow, .settleBreak, .emptyThreshold,
    .declareMode, .clearCount, .gateDirection] ++
  (List.finRange 16).map .crateType ++ (List.finRange 4).map .schedule

/-- The defaults (R203). -/
def ConfigWord.default : ConfigWord → Word
  | .quaysideOwner => 1
  | .substitute => 0xFFFFFFFF
  | .feeRate => 30
  | .tariffA => 9
  | .tariffB => 12
  | .dispenseLimit => 600
  | .settleBand => 20
  | .settleCount => 8
  | .settleWindow => 16
  | .settleBreak => 4
  | .emptyThreshold => 500
  | .declareMode => 1
  | .clearCount => 5
  | _ => 0

/-- The words that normalisation never replaces (R203). -/
def ConfigWord.everyValue : ConfigWord → Bool
  | .noticeEnable => true
  | .substitute => true
  | _ => false

/-- Write words as the Profile Loader. -/
def State.load (s : State) (ws : List (Nat × Word)) : State := s.write (.inner .loader) ws

/-- The stored configuration word. -/
def State.configWord (s : State) (c : ConfigWord) : Word := s.store.word (s.controlAddr c.offset)

/-- Whether normalisation replaces a configuration word (R203); the window stands normalised before
the break count is judged (R82). -/
def State.replaces (s : State) (c : ConfigWord) : Bool :=
  !c.everyValue &&
    (s.store.failing (s.controlAddr c.offset) 4 ||
      !c.takes (s.configWord .settleWindow).toNat 0 (s.configWord c))

/-- Normalise one configuration word (R203). -/
def State.normaliseWord (s : State) (c : ConfigWord) : State :=
  let s := s.granted (.inner .loader)
  if s.replaces c then s.load [(s.controlAddr c.offset, c.default)] else s

/-- The store address of the descriptor in a place of the book table. -/
def State.tableAddr (s : State) (slot : Fin 57) : Nat := s.controlAddr (0x200 + 8 * slot.val)

/-- A descriptor is written not valid: its other fields stay, and the unassigned bits of its word are
written zero (R54, R203, R204). -/
def State.invalidate (s : State) (slot : Fin 57) : State :=
  let a := s.tableAddr slot
  s.load [(a, s.store.word a &&& 0x3C003FFF#32)]

/-- Whether normalisation finds a descriptor out of range: a field outside its values, or a one in an
unassigned bit of word 0, bits 25–14 and 30 (R54, R203, R204). -/
def descriptorReplaced (w0 w1 : Word) : Bool :=
  !descriptorInRange w0 w1 || w0 &&& 0x43FFC000#32 != 0

/-- Normalise one descriptor (R54, R203, log 22). -/
def State.normaliseDescriptor (s : State) (slot : Fin 57) : State :=
  let a := s.tableAddr slot
  if s.store.failing a 8 || descriptorReplaced (s.store.word a) (s.store.word (a + 4)) then
    s.invalidate slot
  else s

/-- Normalise TAIL, where the engine record is not UNFORMATTED (R43, R203, log 21). -/
def State.normaliseTail (s : State) : State :=
  let a := s.controlAddr 0xA0
  let r := s.engineRecord
  if s.engineRecordGood && r.formatState != unformatted &&
      (s.store.failing a 4 || decide (256 < (r.head - s.store.word a).toNat)) then
    s.load [(a, r.head)]
  else s

/-- Load every block's copies from the words as they stand (R203, log 22). -/
def State.loadCopies (s : State) : State :=
  let s := configWords.foldl (fun t c => t.setCopy c (s.configWord c)) s
  { s with engine := { s.engine with tail := s.store.word (s.controlAddr 0xA0) } }

/-- Step 2 (R203). -/
def State.normalise (s : State) : State :=
  let s := configWords.foldl (fun t c => t.normaliseWord c) s
  let s := (List.finRange 57).foldl (fun t slot => t.normaliseDescriptor slot) s
  (s.normaliseTail).loadCopies

/-! ## The engine record check -/

/-- The engine's copy takes a record. -/
def State.loadRecord (s : State) (r : EngineRecord) : State :=
  { s with engine := { s.engine with copy := r } }

/-- Every configuration word at its default and every descriptor not valid (R202 step 3). -/
def State.defaultConfig (s : State) : State :=
  let s := s.load (configWords.map fun c => (s.controlAddr c.offset, c.default))
  ((List.finRange 57).foldl (fun t slot => t.invalidate slot) s).loadCopies

/-- Step 3 (R202, R205). -/
def State.checkRecord (s : State) : State :=
  let r := s.engineRecord
  if s.engineRecordGood then s.loadRecord r
  else
    let r := { r with formatState := unformatted }
    ((s.load [(s.engineAddr + 12, r.stateWord)]).defaultConfig).loadRecord r

/-! ## FORMAT repeat, redo, close resume -/

/-- Step 4: a FORMAT cut by a reset runs again (R33). -/
def State.repeatFormat (s : State) : State :=
  if s.engine.copy.formatState = formatting then (s.formatHall Params.zero s.stamp undisturbed).endPosting else s

/-- Step 5 (R49, R50). -/
def State.startRedo (s : State) : State :=
  if s.isFormatted then
    match s.redo with
    | some t => t
    | none => s.haltAtRedo
  else s

/-- Step 6 (R191). -/
def State.resumeClose (s : State) : State :=
  if s.isFormatted && s.isClosing && decide (s.engine.state ≠ .halted) then
    s.runClose s.resumedClose undisturbed
  else s

/-! ## Bay fix-ups -/

/-- Whether the profile fits a bay. -/
def State.profileFitsBay (s : State) (b : Fin 6) : Bool :=
  match s.profile with
  | none => false
  | some p => decide (b.val < p.bays.toNat)

/-- An unformatted hall's bay: record and copy IDLE and zero (R167, log 38). -/
def State.zeroBay (s : State) (b : Fin 6) : State :=
  (s.write (.inner .ice) (BayRecord.zero.writesStateLast (s.bayAddr b.val))).setBay b
    { s.bay b with copy := BayRecord.zero }

/-- The fix-up of a bay whose record was read (R167, log 20). -/
def State.fixRecord (s : State) (b : Fin 6) : State :=
  let r := s.bayRecord b.val
  let s := s.setBay b { s.bay b with copy := r }
  if r.state = bayHoldPending then s.bayChange b { r with state := bayIdle } [0]
  else if r.state = bayDispensing then s.stall b [0]
  else if r.state = baySettlePending then
    s.setBay b { s.bay b with pending := some (s.settlePosting b r) }
  else s

/-- A bay taken out of service until the next reset (R202 step 7). -/
def State.retireBay (s : State) (b : Fin 6) : State :=
  (s.setBay b { BayChannel.reset with outOfService := true }).raise .stall

/-- The fix-up of one bay (R167, R202). -/
def State.fixBay (s : State) (b : Fin 6) : State :=
  if s.engine.copy.formatState = unformatted then s.zeroBay b
  else if s.profileFitsBay b then
    let s := s.granted (.inner .ice)
    if s.recordFails (.bay b.val) then s.retireBay b else s.fixRecord b
  else s

/-- Step 7 (R167). -/
def State.fixBays (s : State) : State :=
  (((((s.fixBay 0).fixBay 1).fixBay 2).fixBay 3).fixBay 4).fixBay 5

/-! ## Slot reset and the entry to RUNNING -/

/-- Every slot parameter word (R75). -/
def paramWords : List ParamWord :=
  ((List.finRange 8).flatMap fun n => [.boat n, .species n, .grade n]) ++
  ((List.finRange 4).map .holder) ++
  ((List.finRange 6).flatMap fun b => [.requestBoat b, .requestKg b, .deliveredKg b]) ++
  ((List.finRange 3).flatMap fun slot => (List.finRange 4).map fun i => .desk slot i)

/-- The store address of a parameter word. -/
def State.paramAddr (s : State) (p : ParamWord) : Nat :=
  (if (paramPlace p).1 = 5 then s.base 5 else s.base 6) + (paramPlace p).2

/-- Step 8: parameter words, shadows and the quay enable word zero (R75, R200). -/
def State.resetSlots (s : State) : State :=
  let s := s.load (paramWords.map (fun p => (s.paramAddr p, 0)) ++ [(s.base 5 + 4, 0)])
  { s with shadows := Shadows.reset, notices := { s.notices with quayEnable := 0 } }

/-- A close that stopped during start-up runs again from phase B (R192), with what comes between its entries
(R189). -/
def State.rerunClose (s : State) (between : Between) : State :=
  match s.engine.state, s.engine.work with
  | .closingDay, .close c _ => s.runClose c between
  | _, _ => s

/-- The bay and the word of an access that is a REQUEST write. -/
def Access.asRequest (a : Access) : Option (Fin 6 × Word) :=
  if (addrBook a.addr).toNat = 5 then
    match specialWordAt 5 a.offset, a.write with
    | .request b, some v => some (b, v)
    | _, _ => none
  else none

/-- The checks of a REQUEST that waited through start-up: those of R55 without that of its shadows, which
step 8 has zeroed (R167, log 43). -/
def State.waitedChecks (s : State) (d : Side) (a : Access) : List (Bool × FaultReason) :=
  (s.specialChecks d 5 a).filter fun c => c.2 != .badValue

/-- A REQUEST that waited through start-up and meets SETUP: intake refuses it HALL_SETUP (R167, log 43). -/
def State.checkWaitedRequest (s : State) (p : PortId) (a : Access) (v : Word) : State :=
  match firstFail (s.waitedChecks (s.side p) a) with
  | some r => s.faultAccess p a r
  | none => s.writeSpecial p 5 a v

/-- An access that waited through start-up is checked (R59). A REQUEST that no longer meets SETUP, since the
other port's waiting access has opened trading, is checked as any other. -/
def State.checkWaiting (s : State) (p : PortId) : State :=
  match (s.path p).wait with
  | .unchecked a =>
    match s.engine.mode, a.asRequest with
    | .setup, some (_, v) => (s.setWait p .free).checkWaitedRequest p a v
    | _, _ => s.checkAccess p a
  | _ => s

/-- An access that waited while the part enters NO_PROFILE (R59). -/
def State.faultWaiting (s : State) (p : PortId) : State :=
  match (s.path p).wait with
  | .unchecked a => s.faultAccess p a .noProfile
  | _ => s

/-- Step 9: RUNNING in SETUP (R202, R174, R192, log 24). -/
def State.enterRunning (s : State) (between : Between) : State :=
  let s := { s with part := .running, engine := { s.engine with mode := .setup } }
  ((s.raiseIf s.clock.fail .clockFail).rerunClose between).bothPorts State.checkWaiting

/-- Steps 2 to 9, with the profile held and the victim pointer at the first enabled entry (R62). -/
def State.startWith (s : State) (p : Profile) (between : Between) : State :=
  let s := { s with profile := some p, cache := { s.cache with victim := firstEntry p.sets } }
  ((((((s.normalise).checkRecord).repeatFormat).startRedo).resumeClose).fixBays).resetSlots.enterRunning
    between

/-- The start-up sequence (R201, R202), with what comes between the entries of a close that runs again at the
entry to RUNNING (R189). -/
def State.startWithin (s : State) (between : Between) : State :=
  match s.loadedProfile with
  | none => ({ s with part := .noProfile, profile := none }).bothPorts State.faultWaiting
  | some p => s.startWith p between

/-- The start-up sequence (R201, R202). -/
def State.startUp (s : State) : State := s.startWithin undisturbed

/-! ## Ticks and the crystal -/

/-- Whether the clock has power, from main power or backup (R172). -/
def State.clockPowered (s : State) : Bool := s.powered || !s.clock.backupLost

/-- Whether the crystal's periods can end in a tick now (R169). -/
def State.ticking (s : State) : Bool := s.clockPowered && s.clock.ticks

/-- A second tick: hall time, and while RUNNING the Ice Unit and the matcher (R169). -/
def State.tick (s : State) : State :=
  if s.ticking then
    let wraps := s.clock.wraps
    let s := ({ s with clock := s.clock.advance }).raiseIf (wraps && s.powered) .clockFail
    if s.part = .running then (s.tickBays).matchSchedule else s
  else s

/-- The tick that stalls a bay, when the next tick is one (R162, log 10). -/
def State.stallTick (s : State) (b : Fin 6) : State :=
  if decide (s.part = .running) && s.stallsNext b then s.tick else s

/-- The crystal stops with the prescaler at a count; a held prescaler stays where it was set (R170,
R172, log 9). A clock without power has no monitor (log 44). -/
def State.stopCrystal (s : State) (count : Nat) : State :=
  if s.clockPowered && s.clock.crystal then
    ({ s with clock := { s.clock with
        crystal := false, fail := true,
        prescaler := if s.clock.hold then s.clock.prescaler else count } }).raiseIf s.powered .clockFail
  else s

/-- The crystal runs again; the flag stays (R172). A clock without power has no monitor (log 44). -/
def State.startCrystal (s : State) : State :=
  if s.clockPowered then { s with clock := { s.clock with crystal := true } } else s

/-- A due write of a bay record, once the record is not guarded (R155). -/
def State.writeBackStep (s : State) (b : Fin 6) : State :=
  if (s.bay b).writeDue && !s.guarded (.bay b.val) then s.writeBack b else s

/-! ## Volatile state and power-up -/

/-- The Hall Clock's fields that a reset clears (R168, R174). -/
def HallClock.cleared (c : HallClock) : HallClock :=
  { c with schedule := Vector.replicate 4 0, matched := Vector.replicate 4 false,
           previous := Vector.replicate 4 false, request := .none }

/-- Volatile state as every reset leaves it, in a part state. The model's queue of commands is no part
of the chip and stays. -/
def State.dropVolatile (s : State) (part : PartState) : State :=
  { State.reset with part := part, rom := s.rom, store := s.store, clock := s.clock.cleared,
                     pending := s.pending }

/-- Both paths without an access: what a port has outstanding when a reset arrives gets no answer (R59). -/
def State.dropAccesses (s : State) : State :=
  { s with first := { s.first with wait := .free }, second := { s.second with wait := .free } }

/-- The work in hand, run on: the start-up, without the accesses that wait for its end, a posting taken, or
an entry about to be written. -/
def State.runWork (s : State) : State :=
  match s.part with
  | .starting => s.dropAccesses.startUp
  | .running =>
    match s.engine.state, s.engine.work with
    | .journalWait, _ => s
    | _, .taken p => s.applyTaken p
    | _, .none => s
    | _, _ => s.releaseWork undisturbed
  | _ => s

/-- The clock after the loss of its backup supply (R174): it starts ticking at once, so its crystal runs
(log 44). -/
def HallClock.afterLoss (c : HallClock) : HallClock :=
  { c with date := ⟨2000, 1, 1⟩, time := ⟨0, 0, 0⟩, hold := false, prescaler := halfSecond, fail := true,
           crystal := true, backupLost := false }

/-- The power-up check of the backup supply (R172, R174). -/
def State.backupCheck (s : State) : State :=
  if s.clock.backupLost then
    ({ s with clock := s.clock.afterLoss }).raise .clockFail
  else s

/-- Main power arrives at a part without it: volatile state empty and the backup supply checked (R174). -/
def State.powerOn (s : State) : State :=
  if s.part = .unpowered then (s.dropVolatile .starting).backupCheck else s

/-- Main power arrives, and the part starts up as after any reset (R174). -/
def State.powerUp (s : State) : State :=
  if s.part = .unpowered then s.powerOn.startUp else s

/-! ## Tail writes within a FORMAT or a close -/

/-- A word write of TAIL arriving at a port (R42). -/
def State.arriveTail (s : State) (w : PortId × Word) : State :=
  s.arrive w.1 ⟨portAddr 0 0x0A0, .word, some w.2⟩

/-- Tail writes made while a FORMAT or a close runs, each checked against the engine's copies as they then
stand (R33, R42, R189, log 49). -/
def tailsBetween (tails : List (RunPoint × PortId × Word)) : Between := fun point s =>
  (tails.filter fun t => t.1 == point).foldl (fun s t => s.arriveTail t.2) s

/-- A port whose write of COMMAND is taken at once: the office's, free, while the part is RUNNING (R53). -/
def State.takesCommand (s : State) (p : PortId) : Bool :=
  decide (s.part = .running) && decide ((s.path p).wait = .free) && decide (s.side p = .office)

/-- The posting in hand, a FORMAT or a DAY_CLOSE, with what comes between its steps or entries (R33, R189).
Where it would be refused there is nothing to fall within, and nothing happens (log 1). -/
def State.postingWithin (s : State) (between : Between) : State :=
  match s.inHand .format, s.inHand .dayClose with
  | some p, _ => if s.formatRefusal.isNone then s.applyFormat p between else s
  | none, some p => s.closeWithin p between
  | none, none => s

/-- A write of COMMAND that runs a FORMAT or a close: it is answered at once (R58), and its effect follows;
where it would run neither, nothing happens (log 1). -/
def State.commandWithin (s : State) (p : PortId) (command : State → State) : State :=
  if s.takesCommand p && s.commandRuns then command ((s.dropSnapshot p).answer p .done) else s

/-- A FORMAT or a close with what comes between its steps or entries (R33, R189). -/
def State.runWithin (s : State) (work : RunWork) (between : Between) : State :=
  match work with
  | .inHand => s.postingWithin between
  | .engineFormat p => s.commandWithin p fun t => t.formatCommand between
  | .engineResume p => s.commandWithin p fun t => t.resumeCommand between
  | .journalRelease =>
    match s.engine.work with
    | .close _ _ => s.journalRelease between
    | _ => s
  | .startUp => if s.powerOn.part = .starting then s.powerOn.startWithin between else s

/-- A tail write alone, or within the FORMAT or the close it carries (R33, R42, R189). -/
def State.writeTail (s : State) (p : PortId) (event : TailEvent) : State :=
  match event.within with
  | none => s.arriveTail (p, event.word)
  | some run => s.runWithin run.work (tailsBetween ((run.point, p, event.word) :: run.later))

/-! ## Reset, and the end of main power -/

/-- What a cut falls within, run on (R48, log 8). -/
def State.runCut (s : State) : CutWork → State
  | .inHand => s.runWork
  | .powerUp => s.powerUp
  | .write p addr v => s.arrive p ⟨addr, .word, some v⟩
  | .tailWithin p v run => s.writeTail p ⟨v, some run⟩
  | .tick => s.tick
  | .heldTrigger b => s.takeHeld b
  | .writeBack b => s.writeBackStep b

/-- The state that the cut work leaves when only its first writes land (R48, log 8). -/
def State.afterCut (s : State) (cut : Cut) : State :=
  let t := ({ s with store := { s.store with fuse := some cut.writes } }).runCut cut.work
  { t with store := { t.store with fuse := none } }

/-- Whether the work a cut falls within begins with a power-up (R174, log 8). -/
def beginsWithPowerUp : CutWork → Bool
  | .powerUp => true
  | .tailWithin _ _ run => run.work == .startUp
  | _ => false

/-- Whether a reset, or the end of main power, finds a part with main power, or one that a power-up just
before has given it to (log 8). -/
def State.cutTaken (s : State) (cut : Cut) : Bool :=
  decide (s.part ≠ .unpowered) || beginsWithPowerUp cut.work

/-- Start-up, when it ends before the next command comes (log 2). -/
def State.startIf (s : State) (ends : Bool) : State := if ends then s.startUp else s

/-- The reset line (R48, R202). -/
def State.resetLine (s : State) (event : ResetEvent) : State :=
  if s.cutTaken event.cut then ((s.afterCut event.cut).dropVolatile .starting).startIf event.ends else s

/-- Main power goes (R48, R169). -/
def State.powerOff (s : State) (cut : Cut) : State :=
  if s.cutTaken cut then (s.afterCut cut).dropVolatile .unpowered else s

/-- The backup supply goes while main power is off (R174, log 34). -/
def State.loseBackup (s : State) : State :=
  if s.part = .unpowered then { s with clock := { s.clock with backupLost := true } } else s

end Sys2Proof.Machine
end

