-- ==== Sys2Proof/Machine/BoardRows.lean ====
section
/-! DEFINITION. The meanings of the rows that come from power, reset, the crystal, the ticks and the
part's own blocks. -/

namespace Sys2Proof.Machine

/-- POWER_UP (R174). -/
def execPowerUp (s : State) : Host.Outcome State Fault Refusal :=
  .next (s.powerUp)

/-- RESET (R202). -/
def execReset (event : ResetEvent) (s : State) : Host.Outcome State Fault Refusal :=
  .next (s.resetLine event)

/-- MAIN_POWER_OFF (R169). -/
def execMainPowerOff (cut : Cut) (s : State) : Host.Outcome State Fault Refusal :=
  .next (s.powerOff cut)

/-- BACKUP_SUPPLY_LOST (R174). -/
def execBackupSupplyLost (s : State) : Host.Outcome State Fault Refusal :=
  .next (s.loseBackup)

/-- SECOND_TICK (R169). -/
def execSecondTick (s : State) : Host.Outcome State Fault Refusal :=
  .next (s.tick)

/-- STALL_TIMEOUT (R162, log 10). -/
def execStallTimeout (b : Fin 6) (s : State) : Host.Outcome State Fault Refusal :=
  .next (s.stallTick b)

/-- CRYSTAL_STOP (R172). -/
def execCrystalStop (count : BitVec 15) (s : State) : Host.Outcome State Fault Refusal :=
  .next (s.stopCrystal count.toNat)

/-- CRYSTAL_RUNS_AGAIN (R172). -/
def execCrystalRunsAgain (s : State) : Host.Outcome State Fault Refusal :=
  .next (s.startCrystal)

/-- BAY_HELD_TRIGGER (R155). -/
def execBayHeldTrigger (b : Fin 6) (s : State) : Host.Outcome State Fault Refusal :=
  .next (s.takeHeld b)

/-- BAY_RECORD_WRITE_BACK (R155). -/
def execBayRecordWriteBack (b : Fin 6) (s : State) : Host.Outcome State Fault Refusal :=
  .next (s.writeBackStep b)

/-- INTERNAL_ADMISSION (R11). -/
def execInternalAdmission (s : State) : Host.Outcome State Fault Refusal :=
  .next (s.admitInternal)

end Sys2Proof.Machine
end

