-- ==== Sys2Proof/Machine/PortRows.lean ====
section
/-! DEFINITION. The meanings of the rows that arrive at a port: each is one access at the word its row
names, checked and carried out by the Store Path (R55, R58). -/

namespace Sys2Proof.Machine

/-- A word read arriving at a port. -/
def State.readWord (s : State) (p : PortId) (addr : BitVec 24) : State := s.arrive p ⟨addr, .word, none⟩

/-- A whole-word write arriving at a port. -/
def State.writeWord (s : State) (p : PortId) (addr : BitVec 24) (v : Word) : State :=
  s.arrive p ⟨addr, .word, some v⟩

/-! ## Reads -/

/-- PORT_READ (R58). -/
def execPortRead (p : PortId) (addr : BitVec 24) (size : Size) (s : State) : Host.Outcome State Fault Refusal :=
  .next (s.arrive p ⟨addr, size, none⟩)

/-- The number of a latched book. -/
def latchedBook : LatchBook → Nat
  | .accounts => 1
  | .lots => 2

/-- LATCHING_READ (R72): a word read at offset 64 × index. -/
def execLatchingRead (p : PortId) (book : LatchBook) (index : BitVec 12) (s : State) : Host.Outcome State Fault Refusal :=
  .next (s.readWord p (portAddr (latchedBook book) (64 * index.toNat)))

/-- CLOCK_DATE_READ (R74). -/
def execClockDateRead (p : PortId) (s : State) : Host.Outcome State Fault Refusal :=
  .next (s.readWord p (portAddr 0 0x014))

/-- CLOCK_TIME_READ (R74). -/
def execClockTimeRead (p : PortId) (s : State) : Host.Outcome State Fault Refusal :=
  .next (s.readWord p (portAddr 0 0x018))

/-- GUARDED_READ_RESUME (R71). -/
def execGuardedReadResume (p : PortId) (s : State) : Host.Outcome State Fault Refusal :=
  .next (s.resumeRead p)

/-- DESCRIPTOR_FETCH_DONE (R63). -/
def execDescriptorFetchDone (book : BitVec 6) (s : State) : Host.Outcome State Fault Refusal :=
  .next (s.endFetch book)

/-! ## Writes of the CONTROL book -/

/-- PORT_WRITE (R58). -/
def execPortWrite (p : PortId) (addr : BitVec 24) (size : Size) (data : Word) (s : State) : Host.Outcome State Fault Refusal :=
  .next (s.arrive p ⟨addr, size, some data⟩)

/-- DESCRIPTOR_WORD_WRITE (R65). -/
def execDescriptorWordWrite (p : PortId) (slot : Fin 57) (second : Fin 2) (data : Word) (s : State) : Host.Outcome State Fault Refusal :=
  .next (s.writeWord p (portAddr 0 (0x200 + 8 * slot.val + 4 * second.val)) data)

/-- INVALIDATE_ALL (R66): COMMAND is written with 1. -/
def execInvalidateAll (p : PortId) (s : State) : Host.Outcome State Fault Refusal :=
  .next (s.writeWord p (portAddr 0 0x004) 1)

/-- STEP (R24): COMMAND is written with 2. -/
def execStep (p : PortId) (s : State) : Host.Outcome State Fault Refusal :=
  .next (s.writeWord p (portAddr 0 0x004) 2)

/-- ENGINE_RESUME (R22): COMMAND is written with 3. -/
def execEngineResume (p : PortId) (s : State) : Host.Outcome State Fault Refusal :=
  .next (s.writeWord p (portAddr 0 0x004) 3)

/-- ENGINE_FORMAT (R22): COMMAND is written with 4. -/
def execEngineFormat (p : PortId) (s : State) : Host.Outcome State Fault Refusal :=
  .next (s.writeWord p (portAddr 0 0x004) 4)

/-- COMMAND_ZERO (R196): COMMAND is written with 0. -/
def execCommandZero (p : PortId) (s : State) : Host.Outcome State Fault Refusal :=
  .next (s.writeWord p (portAddr 0 0x004) 0)

/-- HALL_MODE_TRADING (R195). -/
def execHallModeTrading (p : PortId) (s : State) : Host.Outcome State Fault Refusal :=
  .next (s.writeWord p (portAddr 0 0x000) 2)

/-- HALL_MODE_SETUP (R195). -/
def execHallModeSetup (p : PortId) (s : State) : Host.Outcome State Fault Refusal :=
  .next (s.writeWord p (portAddr 0 0x000) 1)

/-- NOTICE_FLAGS_CLEAR (R198). -/
def execNoticeFlagsClear (p : PortId) (data : Word) (s : State) : Host.Outcome State Fault Refusal :=
  .next (s.writeWord p (portAddr 0 0x008) data)

/-- NOTICE_ENABLE_WRITE (R199). -/
def execNoticeEnableWrite (p : PortId) (data : Word) (s : State) : Host.Outcome State Fault Refusal :=
  .next (s.writeWord p ConfigWord.noticeEnable.addr data)

/-- CLOCK_HOLD_ON (R170, log 11). -/
def execClockHoldOn (p : PortId) (data : Word) (s : State) : Host.Outcome State Fault Refusal :=
  .next (s.writeWord p (portAddr 0 0x010) (data ||| 1#32))

/-- CLOCK_HOLD_OFF (R170, log 11). -/
def execClockHoldOff (p : PortId) (data : Word) (s : State) : Host.Outcome State Fault Refusal :=
  .next (s.writeWord p (portAddr 0 0x010) (data &&& 0xFFFFFFFE#32))

/-- CLEAR_FAIL (R173, log 11). -/
def execClearFail (p : PortId) (data : Word) (s : State) : Host.Outcome State Fault Refusal :=
  .next (s.writeWord p (portAddr 0 0x010) (data ||| 2#32))

/-- CLEAR_MATCHED (R173, log 11). -/
def execClearMatched (p : PortId) (data : Word) (s : State) : Host.Outcome State Fault Refusal :=
  .next (s.writeWord p (portAddr 0 0x010) data)

/-- CLOCK_DATE_WRITE (R171). -/
def execClockDateWrite (p : PortId) (data : Word) (s : State) : Host.Outcome State Fault Refusal :=
  .next (s.writeWord p (portAddr 0 0x014) data)

/-- CLOCK_TIME_WRITE (R171). -/
def execClockTimeWrite (p : PortId) (data : Word) (s : State) : Host.Outcome State Fault Refusal :=
  .next (s.writeWord p (portAddr 0 0x018) data)

/-- TARIFF_BAND_WRITE (R152). -/
def execTariffBandWrite (p : PortId) (data : Word) (s : State) : Host.Outcome State Fault Refusal :=
  .next (s.writeWord p (portAddr 0 0x01C) data)

/-- SCHEDULE_WRITE (R176). -/
def execScheduleWrite (p : PortId) (k : Fin 4) (data : Word) (s : State) : Host.Outcome State Fault Refusal :=
  .next (s.writeWord p (ConfigWord.schedule k).addr data)

/-- DECLARE_MODE_WRITE (R125). -/
def execDeclareModeWrite (p : PortId) (data : Word) (s : State) : Host.Outcome State Fault Refusal :=
  .next (s.writeWord p ConfigWord.declareMode.addr data)

/-- STEP_MODE_WRITE (R23). -/
def execStepModeWrite (p : PortId) (data : Word) (s : State) : Host.Outcome State Fault Refusal :=
  .next (s.writeWord p ConfigWord.stepMode.addr data)

/-- TAIL_WRITE (R42), alone or within a FORMAT or a close (R33, R189). -/
def execTailWrite (p : PortId) (event : TailEvent) (s : State) : Host.Outcome State Fault Refusal :=
  .next (s.writeTail p event)

/-- The owner word of a book (R78). -/
def ownerWord : OwnedBook → ConfigWord
  | .quayside => .quaysideOwner
  | .desk => .deskOwner

/-- OWNER_WRITE (R78). -/
def execOwnerWrite (p : PortId) (book : OwnedBook) (data : Word) (s : State) : Host.Outcome State Fault Refusal :=
  .next (s.writeWord p (ownerWord book).addr data)

/-- FAULT_RECORD_CLEAR (R61): zero to the fault record's state word. -/
def execFaultRecordClear (p : PortId) (s : State) : Host.Outcome State Fault Refusal :=
  .next (s.writeWord p (portAddr 0 0x020) 0)

/-! ## Writes of the QUAYSIDE and DESK books -/

/-- QUAY_INDICATION_CLEAR (R200). -/
def execQuayIndicationClear (p : PortId) (data : Word) (s : State) : Host.Outcome State Fault Refusal :=
  .next (s.writeWord p (portAddr 5 0x000) data)

/-- QUAY_RESTART (R197): the restart code is 1. -/
def execQuayRestart (p : PortId) (s : State) : Host.Outcome State Fault Refusal :=
  .next (s.writeWord p (portAddr 5 0x008) 1)

/-- SLOT_PARAMETER_WRITE (R75). -/
def execSlotParameterWrite (p : PortId) (param : ParamWord) (data : Word) (s : State) : Host.Outcome State Fault Refusal :=
  .next (s.writeWord p (paramAddr param) data)

/-- ROSTRUM_TRIGGER (R112). -/
def execRostrumTrigger (p : PortId) (r : Fin 2) (data : Word) (s : State) : Host.Outcome State Fault Refusal :=
  .next (s.writeWord p (portAddr 6 (32 * r.val + 0x10)) data)

/-- DESK_TRIGGER (R76). -/
def execDeskTrigger (p : PortId) (data : Word) (s : State) : Host.Outcome State Fault Refusal :=
  .next (s.writeWord p (portAddr 6 0x050) data)

/-- COMMIT (R93). -/
def execCommit (p : PortId) (n : Fin 8) (data : Word) (s : State) : Host.Outcome State Fault Refusal :=
  .next (s.writeWord p (portAddr 5 (0x10C + 64 * n.val)) data)

/-- SAMPLE (R83). -/
def execSample (p : PortId) (n : Fin 8) (data : Word) (s : State) : Host.Outcome State Fault Refusal :=
  .next (s.writeWord p (portAddr 5 (0x110 + 64 * n.val)) data)

/-- TEST (R88). -/
def execTest (p : PortId) (n : Fin 8) (data : Word) (s : State) : Host.Outcome State Fault Refusal :=
  .next (s.writeWord p (portAddr 5 (0x114 + 64 * n.val)) data)

/-- RAW (R127). -/
def execRaw (p : PortId) (r : Fin 12) (data : Word) (s : State) : Host.Outcome State Fault Refusal :=
  .next (s.writeWord p (portAddr 5 (0x300 + 32 * r.val)) data)

/-- BAY_REQUEST (R156). -/
def execBayRequest (p : PortId) (b : Fin 6) (data : Word) (s : State) : Host.Outcome State Fault Refusal :=
  .next (s.writeWord p (portAddr 5 (0x52C + 64 * b.val)) data)

/-- BAY_DONE (R159). -/
def execBayDone (p : PortId) (b : Fin 6) (data : Word) (s : State) : Host.Outcome State Fault Refusal :=
  .next (s.writeWord p (portAddr 5 (0x530 + 64 * b.val)) data)

end Sys2Proof.Machine
end

