-- ==== Sys2Proof/Machine/PostingRows.lean ====
section
/-! DEFINITION. The meanings of the rows of the Posting Engine: each applies the posting in hand when
it is of the row's kind (R13 to R20). -/

namespace Sys2Proof.Machine

/-- FORMAT as the posting in hand (R31). -/
def State.formatRow (s : State) : State :=
  match s.inHand .format with
  | some p => s.applyFormat p undisturbed
  | none => s

/-- A posting in hand whose kind its source may not submit (R17). -/
def State.unknownRow (s : State) : State :=
  match s.engine.state, s.engine.work with
  | .applying, .taken p => if p.kindOf = none then s.applyUnknown p else s
  | _, _ => s

/-- OPEN_ACCOUNT (R26). -/
def execOpenAccount (s : State) : Host.Outcome State Fault Refusal :=
  .next (s.applyRow .openAccount openAccountPlan)

/-- SET_CREDIT (R27). -/
def execSetCredit (s : State) : Host.Outcome State Fault Refusal :=
  .next (s.applyRow .setCredit setCreditPlan)

/-- FREEZE (R28). -/
def execFreeze (s : State) : Host.Outcome State Fault Refusal :=
  .next (s.applyRow .freeze freezePlan)

/-- THAW (R28). -/
def execThaw (s : State) : Host.Outcome State Fault Refusal :=
  .next (s.applyRow .thaw thawPlan)

/-- CLOSE_ACCOUNT (R29). -/
def execCloseAccount (s : State) : Host.Outcome State Fault Refusal :=
  .next (s.applyRow .closeAccount closeAccountPlan)

/-- TRANSFER (R30). -/
def execTransfer (s : State) : Host.Outcome State Fault Refusal :=
  .next (s.applyRow .transfer transferPlan)

/-- LAND (R100). -/
def execLand (s : State) : Host.Outcome State Fault Refusal :=
  .next (s.applyRow .land s.landPlan)

/-- SELL (R117). -/
def execSell (s : State) : Host.Outcome State Fault Refusal :=
  .next (s.applyRow .sell sellPlan)

/-- WITHDRAW (R118). -/
def execWithdraw (s : State) : Host.Outcome State Fault Refusal :=
  .next (s.applyRow .withdraw withdrawPlan)

/-- LEND (R141). -/
def execLend (s : State) : Host.Outcome State Fault Refusal :=
  .next (s.applyRow .lend lendPlan)

/-- RETURN (R143). -/
def execReturn (s : State) : Host.Outcome State Fault Refusal :=
  .next (s.applyRow .returnCrate returnPlan)

/-- REGISTER_CRATE (R144). -/
def execRegisterCrate (s : State) : Host.Outcome State Fault Refusal :=
  .next (s.applyRow .registerCrate registerCratePlan)

/-- RETIRE_CRATE (R145). -/
def execRetireCrate (s : State) : Host.Outcome State Fault Refusal :=
  .next (s.applyRow .retireCrate retireCratePlan)

/-- WRITE_OFF (R146). -/
def execWriteOff (s : State) : Host.Outcome State Fault Refusal :=
  .next (s.applyRow .writeOff writeOffPlan)

/-- ICE_HOLD (R158). -/
def execIceHold (s : State) : Host.Outcome State Fault Refusal :=
  .next (s.applyRow .iceHold iceHoldPlan)

/-- ICE_SETTLE (R160). -/
def execIceSettle (s : State) : Host.Outcome State Fault Refusal :=
  .next (s.applyRow .iceSettle iceSettlePlan)

/-- BAY_RELEASE (R164). -/
def execBayRelease (s : State) : Host.Outcome State Fault Refusal :=
  .next (s.applyRow .bayRelease bayReleasePlan)

/-- DAY_CLOSE (R183). -/
def execDayClose (s : State) : Host.Outcome State Fault Refusal :=
  .next (s.applyRow .dayClose dayClosePlan)

/-- FORMAT (R32). -/
def execFormat (s : State) : Host.Outcome State Fault Refusal :=
  .next (s.formatRow)

/-- UNKNOWN_KIND (R17). -/
def execUnknownKind (s : State) : Host.Outcome State Fault Refusal :=
  .next (s.unknownRow)

/-- JOURNAL_WAIT_RELEASE (R45). -/
def execJournalWaitRelease (s : State) : Host.Outcome State Fault Refusal :=
  .next (s.journalRelease undisturbed)

end Sys2Proof.Machine
end

