-- ==== Sys2Proof/Machine/Dispatch.lean ====
section
/-! DEFINITION. The meaning of each command, arm by arm. -/

namespace Sys2Proof.Machine

/-- The effect of a command on everything but the queue of commands. -/
def exec (i : Instr) (s : State) : Host.Outcome State Fault Refusal :=
  match i with
  | .powerUp => Sys2Proof.Machine.execPowerUp s
  | .reset event => Sys2Proof.Machine.execReset event s
  | .secondTick => Sys2Proof.Machine.execSecondTick s
  | .stallTimeout bay => Sys2Proof.Machine.execStallTimeout bay s
  | .crystalStop count => Sys2Proof.Machine.execCrystalStop count s
  | .portRead port addr size => Sys2Proof.Machine.execPortRead port addr size s
  | .descriptorFetchDone book => Sys2Proof.Machine.execDescriptorFetchDone book s
  | .guardedReadResume port => Sys2Proof.Machine.execGuardedReadResume port s
  | .latchingRead port book index => Sys2Proof.Machine.execLatchingRead port book index s
  | .clockDateRead port => Sys2Proof.Machine.execClockDateRead port s
  | .clockTimeRead port => Sys2Proof.Machine.execClockTimeRead port s
  | .portWrite port addr size data => Sys2Proof.Machine.execPortWrite port addr size data s
  | .descriptorWordWrite port slot second data => Sys2Proof.Machine.execDescriptorWordWrite port slot second data s
  | .invalidateAll port => Sys2Proof.Machine.execInvalidateAll port s
  | .step port => Sys2Proof.Machine.execStep port s
  | .engineResume port => Sys2Proof.Machine.execEngineResume port s
  | .engineFormat port => Sys2Proof.Machine.execEngineFormat port s
  | .commandZero port => Sys2Proof.Machine.execCommandZero port s
  | .hallModeTrading port => Sys2Proof.Machine.execHallModeTrading port s
  | .hallModeSetup port => Sys2Proof.Machine.execHallModeSetup port s
  | .noticeFlagsClear port data => Sys2Proof.Machine.execNoticeFlagsClear port data s
  | .noticeEnableWrite port data => Sys2Proof.Machine.execNoticeEnableWrite port data s
  | .clockHoldOn port data => Sys2Proof.Machine.execClockHoldOn port data s
  | .clockHoldOff port data => Sys2Proof.Machine.execClockHoldOff port data s
  | .clearFail port data => Sys2Proof.Machine.execClearFail port data s
  | .clearMatched port data => Sys2Proof.Machine.execClearMatched port data s
  | .clockDateWrite port data => Sys2Proof.Machine.execClockDateWrite port data s
  | .clockTimeWrite port data => Sys2Proof.Machine.execClockTimeWrite port data s
  | .tariffBandWrite port data => Sys2Proof.Machine.execTariffBandWrite port data s
  | .scheduleWrite port entry data => Sys2Proof.Machine.execScheduleWrite port entry data s
  | .declareModeWrite port data => Sys2Proof.Machine.execDeclareModeWrite port data s
  | .stepModeWrite port data => Sys2Proof.Machine.execStepModeWrite port data s
  | .tailWrite port data => Sys2Proof.Machine.execTailWrite port data s
  | .journalWaitRelease => Sys2Proof.Machine.execJournalWaitRelease s
  | .ownerWrite port book data => Sys2Proof.Machine.execOwnerWrite port book data s
  | .faultRecordClear port => Sys2Proof.Machine.execFaultRecordClear port s
  | .quayIndicationClear port data => Sys2Proof.Machine.execQuayIndicationClear port data s
  | .quayRestart port => Sys2Proof.Machine.execQuayRestart port s
  | .slotParameterWrite port param data => Sys2Proof.Machine.execSlotParameterWrite port param data s
  | .rostrumTrigger port rostrum data => Sys2Proof.Machine.execRostrumTrigger port rostrum data s
  | .deskTrigger port data => Sys2Proof.Machine.execDeskTrigger port data s
  | .commit port scale data => Sys2Proof.Machine.execCommit port scale data s
  | .sample port scale data => Sys2Proof.Machine.execSample port scale data s
  | .test port scale data => Sys2Proof.Machine.execTest port scale data s
  | .raw port reader data => Sys2Proof.Machine.execRaw port reader data s
  | .bayRequest port bay data => Sys2Proof.Machine.execBayRequest port bay data s
  | .bayDone port bay data => Sys2Proof.Machine.execBayDone port bay data s
  | .bayHeldTrigger bay => Sys2Proof.Machine.execBayHeldTrigger bay s
  | .bayRecordWriteBack bay => Sys2Proof.Machine.execBayRecordWriteBack bay s
  | .internalAdmission => Sys2Proof.Machine.execInternalAdmission s
  | .openAccount => Sys2Proof.Machine.execOpenAccount s
  | .setCredit => Sys2Proof.Machine.execSetCredit s
  | .freeze => Sys2Proof.Machine.execFreeze s
  | .thaw => Sys2Proof.Machine.execThaw s
  | .closeAccount => Sys2Proof.Machine.execCloseAccount s
  | .transfer => Sys2Proof.Machine.execTransfer s
  | .format => Sys2Proof.Machine.execFormat s
  | .land => Sys2Proof.Machine.execLand s
  | .sell => Sys2Proof.Machine.execSell s
  | .withdraw => Sys2Proof.Machine.execWithdraw s
  | .lend => Sys2Proof.Machine.execLend s
  | .returnCrate => Sys2Proof.Machine.execReturn s
  | .registerCrate => Sys2Proof.Machine.execRegisterCrate s
  | .retireCrate => Sys2Proof.Machine.execRetireCrate s
  | .writeOff => Sys2Proof.Machine.execWriteOff s
  | .iceHold => Sys2Proof.Machine.execIceHold s
  | .iceSettle => Sys2Proof.Machine.execIceSettle s
  | .bayRelease => Sys2Proof.Machine.execBayRelease s
  | .dayClose => Sys2Proof.Machine.execDayClose s
  | .crystalRunsAgain => Sys2Proof.Machine.execCrystalRunsAgain s
  | .mainPowerOff cut => Sys2Proof.Machine.execMainPowerOff cut s
  | .backupSupplyLost => Sys2Proof.Machine.execBackupSupplyLost s
  | .unknownKind => Sys2Proof.Machine.execUnknownKind s

end Sys2Proof.Machine
end

