-- ==== Sys2Proof/Machine/Step.lean ====
section
/-! DEFINITION. One step: the command at the front of the queue. -/

namespace Sys2Proof.Machine

/-- What the block does when no command waits: a STARTING part runs its start-up sequence, and any
other part idles (log 2). -/
def idleStep (s : State) : Host.Outcome State Fault Refusal :=
  match s.part with
  | .starting => .next s.startUp
  | _ => .next s

/-- One step: the front command on the queue's rest. -/
def step (s : State) : Host.Outcome State Fault Refusal :=
  match s.pending with
  | [] => idleStep s
  | c :: cs => exec c { s with pending := cs }

/-- The state with the command that a word spells at the front of the queue; no word spells one. -/
def State.withFetchWord (s : State) (nbits w : Nat) : State :=
  match decodeTableWord nbits w with
  | some i => { s with pending := i :: s.pending }
  | none => s

end Sys2Proof.Machine
end

