-- ==== Sys2Proof/Safety.lean ====
section
/-! DEFINITION. What the statements speak of: the invariants of the machine, the conditions under
which a port's write is taken, and the state that a completed access or an applied posting leaves. -/

namespace Sys2Proof.Machine

/-! ## Invariants -/

/-- The store is in its canonical form, and no write is cut between two commands. -/
abbrev StoreCanonical (s : State) : Prop := s.store.wf ∧ s.store.fuse = none

/-- The queue law of R8, R13 and R14: at most sixteen postings, and none while the engine is IDLE. -/
abbrev QueueLaw (s : State) : Prop :=
  s.engine.queue.length ≤ 16 ∧ (s.engine.state = .idle → s.engine.queue = [])

/-- The tray law of R80, R84 and R90: at most sixteen codes, no two with one crate number, and none in
EMPTY. -/
abbrev TrayLaw (s : State) : Prop :=
  ∀ n : Fin 8, (s.scale n).tray.length ≤ 16 ∧ ((s.scale n).tray.map tagCrate).Nodup ∧
    ((s.scale n).state = .empty → (s.scale n).tray = [])

/-- The reader law of R123: a history no longer than its mode allows, a zero run of at most fifteen. -/
abbrev ReaderLaw (s : State) : Prop :=
  ∀ r : Fin 12, (s.reader r).history.length ≤ s.tags.mode.history ∧ (s.reader r).zeroRun ≤ 15

/-- The hall trades only when its records are FORMATTED (R195). -/
abbrev TradingLaw (s : State) : Prop := s.engine.mode = .trading → s.isFormatted = true

/-- At most 256 entries from the tail to the head, by the engine's copies (R51). -/
abbrev JournalBound (s : State) : Prop := (s.engine.copy.head - s.engine.tail).toNat ≤ 256

/-- Whether the next step runs the start-up sequence (R202, log 2). -/
def State.startsUp (s : State) : Bool :=
  match s.pending with
  | [] => decide (s.part = .starting)
  | .powerUp :: _ => decide (s.part = .unpowered)
  | .reset event :: _ => event.ends && s.cutTaken event.cut
  | .tailWrite _ event :: _ =>
    decide (event.within.map EngineRun.work = some .startUp) && decide (s.powerOn.part = .starting)
  | _ => false

/-- Whether the next step is an ENGINE_RESUME that repeats a struck redo (R50). -/
def State.repeatsRedo (s : State) : Bool :=
  decide (s.engine.state = .halted) && decide (s.engine.halt = some .redo) &&
    match s.pending with
    | .engineResume _ :: _ => true
    | .tailWrite _ event :: _ =>
      match event.within.map EngineRun.work with
      | some (.engineResume _) => true
      | _ => false
    | .portWrite _ addr size data :: _ => addr == portAddr 0 4 && decide (size = .word) && data == 3
    | _ => false

/-! ## Accesses that are taken -/

/-- A RUNNING part whose port holds no access. -/
abbrev State.idlePort (s : State) (p : PortId) : Prop := s.part = .running ∧ (s.path p).wait = .free

/-- A RUNNING part, a free port, and that port's right to write a special book (R53, R78). -/
abbrev State.owns (s : State) (p : PortId) (book : Fin 7) : Prop :=
  s.idlePort p ∧ s.mayWrite (s.side p) book = true

/-- A write of a live word carried out: the port's snapshot is invalid and the answer is DONE. -/
def State.wrote (s : State) (p : PortId) : State := (s.dropSnapshot p).answer p .done

/-- A write of a store word carried out: besides, the word stands in the store (R58). -/
def State.wroteWord (s : State) (p : PortId) (book : Fin 7) (off : Nat) (v : Word) : State :=
  ((s.dropSnapshot p).write (s.grantee p) [(s.base book + off, v)]).answer p .done

/-- An access that faulted: the fault record latches it, or sets SECOND when it is LATCHED; FAULT is
raised when it latches; the port's access is answered FAULT (R55, R60). -/
def State.faulted (s : State) (p : PortId) (a : Access) (r : FaultReason) : State :=
  ({ s with
      fault := match s.fault.latched with
        | none => { s.fault with
            latched := some ⟨s.side p, a.addr, a.isWrite, a.size, r, s.stamp⟩ }
        | some _ => { s.fault with second := true }
      notices := if s.fault.latched = none then
          { s.notices with flags := s.notices.flags ||| Notice.fault.mask }
        else s.notices }).answer p (.fault r)

/-- The enabled entry that stands `n` places after `e` in the victim order (R64). -/
def passed (sets : Half) : Nat → Fin 16 → Fin 16
  | 0, e => e
  | n + 1, e => nextEntry sets (passed sets n e)

/-- Bytes that none of the listed words holds. -/
abbrev outside (ws : List (Nat × Word)) (x : Nat) : Prop := ∀ w ∈ ws, x < w.1 ∨ w.1 + 4 ≤ x

/-! ## Postings that are applied -/

/-- An entry that falls due is written at once: a journal slot is free, and no bay record has a write due
(R44, R155). -/
abbrev State.ready (s : State) : Prop :=
  s.journalFull = false ∧ ∀ b : Fin 6, (s.bay b).writeDue = false

/-- The engine has posting p of kind k in hand, in a FORMATTED hall whose mode permits the kind, and its
entry can be written at once (R13, R17). -/
abbrev State.applies (s : State) (k : PostKind) (p : Posting) : Prop :=
  s.inHand k = some p ∧ s.isFormatted = true ∧ modeRefusal s.engine.mode k = none ∧ s.ready

/-- No read of a record of the list, or of the engine record, meets a parity error (R21). -/
abbrev State.readable (s : State) (rs : List RecordId) : Prop :=
  s.anyFails (.engine :: rs) = false

/-- What an applied posting is due: its entry with the images (R19). -/
def Posting.due (p : Posting) (images : List Image) (nextLot : Word) (value : Option Word) : Due :=
  { posting := p, entry := p.entry none images, nextLot := nextLot, value := value, halts := false }

/-- The command answers the state that applying the posting with these images leaves: its entry
written, its images in the records, its guard released, its report made (R15 phases 5 to 8). -/
abbrev completesWith (i : Instr) (s : State) (p : Posting) (images : List Image) (nextLot : Word)
    (value : Option Word) : Prop :=
  exec i s = .next (s.writeDueEntry (p.due images nextLot value))

/-- What a refused posting is due: its entry without record images; STORE_ERROR halts the engine after it
(R18, R21). -/
def Posting.refusal (p : Posting) (s : State) (r : Reason) : Due :=
  { posting := p, entry := p.entry (some r) [], nextLot := s.engine.copy.nextLot, value := none,
    halts := decide (r = .storeError) }

/-- The command answers the state that a refusal of the posting leaves: its entry written, its guard
released, its report made, and the engine HALTED after STORE_ERROR (R18, R20, R21). -/
abbrev refusesWith (i : Instr) (s : State) (p : Posting) (r : Reason) : Prop :=
  exec i s = .next (s.writeDueEntry (p.refusal s r))

/-- The command refuses the posting with the first of the checks, in their order, that does not hold; a
check that does not hold stands in the list as false with its reason (R15 phase 4). -/
abbrev refusesByFirst (i : Instr) (s : State) (p : Posting) (checks : List (Bool × Reason)) : Prop :=
  ∀ r : Reason, firstFail checks = some r → refusesWith i s p r

/-- The command that applies a posting of a kind; DAY_CLOSED is a kind of entry alone. -/
def PostKind.row : PostKind → Option Instr
  | .openAccount => some .openAccount
  | .setCredit => some .setCredit
  | .freeze => some .freeze
  | .thaw => some .thaw
  | .closeAccount => some .closeAccount
  | .transfer => some .transfer
  | .format => some .format
  | .registerCrate => some .registerCrate
  | .retireCrate => some .retireCrate
  | .writeOff => some .writeOff
  | .bayRelease => some .bayRelease
  | .dayClose => some .dayClose
  | .sell => some .sell
  | .withdraw => some .withdraw
  | .land => some .land
  | .iceHold => some .iceHold
  | .iceSettle => some .iceSettle
  | .lend => some .lend
  | .returnCrate => some .returnCrate
  | .dayClosed => none

/-- The account images of two accounts, in ascending account number (R37). -/
def twoAccounts (n : Nat) (a : AccountImage) (m : Nat) (b : AccountImage) : List Image :=
  if n ≤ m then [.account (BitVec.ofNat 8 n) a, .account (BitVec.ofNat 8 m) b]
  else [.account (BitVec.ofNat 8 m) b, .account (BitVec.ofNat 8 n) a]

/-- An account that trades: in use, and OPEN or FROZEN (R27, R28, R30). -/
abbrev AccountImage.trades (a : AccountImage) : Prop :=
  a.kind ≠ kindUnused ∧ (a.state = accountOpen ∨ a.state = accountFrozen)

/-- A balance moved by an amount stays in the range of R1. -/
abbrev AccountImage.takes (a : AccountImage) (d : Int) : Prop :=
  -2147483648 ≤ a.balance.toInt + d ∧ a.balance.toInt + d ≤ 2147483647

/-- The range check of a settlement of a boat's ice at a bay's rate and held cost (R160, R164). -/
abbrev AccountImage.settles (a hall : AccountImage) (r : BayRecord) (delivered : Word) : Prop :=
  a.takes (-(delivered.toNat * r.rate.toNat : Nat)) ∧ hall.takes (delivered.toNat * r.rate.toNat : Nat) ∧
    r.heldCost.toNat ≤ a.holds.toNat ∧ a.holds.toNat - r.heldCost.toNat ≤ 2147483647 ∧
    a.ice.toNat + delivered.toNat ≤ 4294967295

/-- The records that an image changes. -/
def Image.targets : Image → List RecordId
  | .account n _ => [.account n.toNat]
  | .lot slot _ _ => [.lot slot.toNat]
  | .crates ks _ _ _ _ => ks.map fun k => .crate k.toNat
  | .bay n _ => [.bay n.toNat]
  | .engine _ _ _ _ => [.engine]

/-- The words of one entry's slot. -/
abbrev State.slotRange (s : State) (seq : Word) (x : Nat) : Prop :=
  s.entryAddr (entrySlot seq) ≤ x ∧ x < s.entryAddr (entrySlot seq) + 256

/-- The bytes of the engine record. -/
abbrev State.engineRange (s : State) (x : Nat) : Prop := s.engineAddr ≤ x ∧ x < s.engineAddr + 16

/-- An image whose list of words, crates and mask agree, so that its words spell it back (R39,
chapter 11). -/
def Image.wellFormed : Image → Bool
  | .lot _ mask ws => ws.length == maskCount mask
  | .crates ks _ _ _ _ => decide (1 ≤ ks.length) && decide (ks.length ≤ 16)
  | _ => true

end Sys2Proof.Machine
end

