-- ==== Sys2Proof/Certificates/Slice0/Obligations.lean ====
section
/-! DEFINITION. The statements for the provers. -/

open Sys2Proof Sys2Proof.Machine

/-! ## The machine -/

/-- A step takes the command at the front of the queue and runs it on the queue's rest. -/
def Obligations.StepTakesFrontCommand : Prop :=
  ∀ (c : Instr) (cs : List Instr) (s : State),
    step { s with pending := c :: cs } = exec c { s with pending := cs }

/-- What reset leaves in the channels, the queue, the guard, the fault record and the flags; and the
invariants hold there. -/
def Obligations.ResetLeavesChannelsClear : Prop :=
  (State.reset.part = .starting ∧ State.reset.engine.queue = [] ∧ State.reset.engine.guard = [] ∧
    State.reset.engine.mode = .setup ∧ State.reset.engine.pointer = 0 ∧
    State.reset.fault = ⟨none, false⟩ ∧ State.reset.notices.flags = 0 ∧
    State.reset.notices.quayFlags = 0 ∧ State.reset.clock.request = .none ∧
    (∀ p : PortId, State.reset.path p = Path.reset) ∧
    (∀ n : Fin 8, State.reset.scale n =
      { state := .empty, reference := 0, run := 0, block := 0, misses := 0, weight := 0, load := 0,
        commit := .opened, tray := [], testMiss := false, status := Status.reset }) ∧
    (∀ r : Fin 12, State.reset.reader r =
      { history := [], last := none, zeroRun := 0, held := false, pending := none,
        status := Status.reset }) ∧
    (∀ b : Fin 6, (State.reset.bay b).pending = none ∧ (State.reset.bay b).held = [] ∧
      (State.reset.bay b).status = Status.reset) ∧
    (∀ slot : Fin 3, State.reset.desk.get slot = Status.reset) ∧
    (∀ e : Fin 16, State.reset.cache.entries.get e = .free)) ∧
  StoreCanonical State.reset ∧ QueueLaw State.reset ∧ TrayLaw State.reset ∧ ReaderLaw State.reset ∧
    TradingLaw State.reset ∧ JournalBound State.reset

/-- Every step keeps the store in its canonical form. -/
def Obligations.StepKeepsStoreCanonical : Prop :=
  ∀ s t : State, StoreCanonical s → step s = .next t → StoreCanonical t

/-- Every step keeps the posting queue within sixteen entries, and empty while the engine is IDLE. -/
def Obligations.StepKeepsQueueLaw : Prop :=
  ∀ s t : State, QueueLaw s → step s = .next t → QueueLaw t

/-- Every step keeps each tray within sixteen codes, no two with one crate number, and empty in EMPTY. -/
def Obligations.StepKeepsTrayLaw : Prop :=
  ∀ s t : State, TrayLaw s → step s = .next t → TrayLaw t

/-- Every step keeps each reader's history and zero run within the bounds of its mode. -/
def Obligations.StepKeepsReaderLaw : Prop :=
  ∀ s t : State, ReaderLaw s → step s = .next t → ReaderLaw t

/-- Every step keeps the law that a TRADING hall is FORMATTED. -/
def Obligations.StepKeepsTradingLaw : Prop :=
  ∀ s t : State, TradingLaw s → step s = .next t → TradingLaw t

/-- Every step but one that runs start-up or repeats a struck redo keeps the journal within 256 entries
from the tail to the head. Redo keeps it as well, where the entry it completes carries the head one on
and a slot was free, as every entry the engine writes does. -/
def Obligations.StepKeepsJournalBound : Prop :=
  (∀ s t : State, JournalBound s → s.startsUp = false → s.repeatsRedo = false → step s = .next t →
    JournalBound t) ∧
  (∀ s t : State, JournalBound s → s.redo = some t →
    (∀ d h n y, Image.engine d h n y ∈ entryImages s.store (s.entryAddr (entrySlot s.engine.copy.head)) →
      h = s.engine.copy.head + 1 ∧ s.journalFull = false) →
    JournalBound t)

/-- The words of an image list spell the list back, whatever words follow them. The state and check word
of an engine record carries the day state, the format state and the check of R205. -/
def Obligations.ImageWordsReadBack : Prop :=
  (∀ (is : List Image) (rest : List Word), (∀ i ∈ is, i.wellFormed = true) →
    readImages is.length (imageWords is ++ rest) = is) ∧
  (∀ r : EngineRecord,
    field r.stateWord 0 8 = r.dayState ∧ field r.stateWord 8 8 = r.formatState ∧
    field r.stateWord 16 16 = field r.stateWord 0 16 ^^^ 0xA55A#16)

/-! ## Accesses -/

/-- The Store Arbiter. It grants a request whenever there is one: to the requester that stands first at or
after its pointer in the order office, quay, internal, and inside the internal requester to the block that
stands first at or after the second pointer in the order Posting Engine, Descriptor Cache, Ice Unit,
Profile Loader. Each pointer moves to the position after what it granted, and a path's grant leaves the
second. A path's request is one of the next three grants, whatever else requests. After reset both pointers
stand at their first position. When the Ice Unit's words and a path's word stand together, the path's word
is written first, or after one word of the Ice Unit's. -/
def Obligations.ArbiterGrants : Prop :=
  let place : Grantee → Nat
    | .path .office => 0
    | .path .quay => 1
    | .inner _ => 2
  let pointer : Requester → Nat
    | .office => 0
    | .quay => 1
    | .internal => 2
  let turn : Block → Nat
    | .engine => 0
    | .cache => 1
    | .ice => 2
    | .loader => 3
  (∀ (a : Arbiter) (asks : Grantee → Bool),
    (a.choose asks = none ↔ ∀ g : Grantee, asks g = false) ∧
    (∀ g : Grantee, a.choose asks = some g → asks g = true ∧
      (∀ h : Grantee, asks h = true →
        (place g + 3 - pointer a.port) % 3 ≤ (place h + 3 - pointer a.port) % 3) ∧
      pointer (a.grant g).port = (place g + 1) % 3 ∧
      (∀ d : Side, g = .path d → (a.grant g).inner = a.inner) ∧
      (∀ b : Block, g = .inner b → turn (a.grant g).inner = (turn b + 1) % 4 ∧
        ∀ c : Block, asks (.inner c) = true →
          (turn b + 4 - turn a.inner) % 4 ≤ (turn c + 4 - turn a.inner) % 4)) ∧
    (∀ (d : Side) (g h : Grantee) (asks' asks'' : Grantee → Bool), asks (.path d) = true →
      asks' (.path d) = true → asks'' (.path d) = true → a.choose asks = some g →
      (a.grant g).choose asks' = some h → g ≠ .path d → h ≠ .path d →
      ((a.grant g).grant h).choose asks'' = some (.path d))) ∧
  State.reset.arbiter = ⟨.office, .engine⟩ ∧
  (∀ (s : State) (d : Side) (w v : Nat × Word) (vs : List (Nat × Word)),
    s.serve (requests (.inner .ice) (v :: vs) ++ [(.path d, w)]) =
      if s.arbiter.port = .office ∨ (s.arbiter.port = .quay ∧ d = .quay) then
        (s.write (.path d) [w]).write (.inner .ice) (v :: vs)
      else ((s.write (.inner .ice) [v]).write (.path d) [w]).write (.inner .ice) vs)

/-- A faulted access changes the fault record, the FAULT notice and its own port's answer alone: in
NO_PROFILE every access; in RUNNING an access to a special book, or to a plain book whose descriptor is
HELD, that fails a check, with the reason of the first it fails; and, once the store port has granted it,
a read that meets a parity error. -/
def Obligations.FaultedAccessChangesRecordAlone : Prop :=
  ∀ (s : State) (p : PortId) (a : Access), (s.path p).wait = .free →
    let book := addrBook a.addr
    (s.part = .noProfile → s.arrive p a = s.faulted p a .noProfile) ∧
    (s.part = .running → ∀ h : book.toNat < 7,
      (∀ r : FaultReason, firstFail (s.specialChecks (s.side p) ⟨book.toNat, h⟩ a) = some r →
        s.arrive p a = s.faulted p a r) ∧
      (firstFail (s.specialChecks (s.side p) ⟨book.toNat, h⟩ a) = none → a.write = none →
        s.liveWord (specialWordAt ⟨book.toNat, h⟩ a.offset) = none → isLatching ⟨book.toNat, h⟩ a = false →
        (s.path p).snapshotWord ⟨book.toNat, h⟩ a = none →
        s.readGuarded ⟨book.toNat, h⟩ a.offset = false →
        s.store.failing (s.base ⟨book.toNat, h⟩ + a.offset) (sizeBytes a.size) = true →
        s.arrive p a = (s.granted (s.grantee p)).faulted p a .storeParity)) ∧
    (s.part = .running → 7 ≤ book.toNat → ∀ d : Descriptor, s.cache.find book = some (.held book d) →
      let checks : List (Bool × FaultReason) :=
        [ (d.valid, .noBook),
          (decide (a.offset + sizeBytes a.size ≤ d.limit.toNat), .limit),
          (decide (s.side p = d.owner ∨ d.other = 2 ∨ (d.other = 1 ∧ a.isWrite = false)), .rights),
          (decide (a.isWrite = false ∨ d.lock = false), .writeLock),
          (decide (a.offset % sizeBytes a.size = 0), .misaligned) ]
      (∀ r : FaultReason, firstFail checks = some r → s.arrive p a = s.faulted p a r) ∧
      (firstFail checks = none → a.write = none →
        s.store.failing (d.base.toNat * 1024 + a.offset) (sizeBytes a.size) = true →
        s.arrive p a = (s.granted (s.grantee p)).faulted p a .storeParity))

/-- HALL_MODE: a write of TRADING is taken in a FORMATTED hall and faults NOT_FORMATTED in any other
that is in SETUP; one of SETUP is taken in a quiet hall and faults NOT_QUIET in any other that is in
TRADING; a write of the present mode is taken; the mode changes, and nothing else but the port's own
answer and snapshot. Besides, the clearing writes of NOTICE_FLAGS and of the fault record, and the write
of TARIFF_BAND. -/
def Obligations.LiveControlWrites : Prop :=
  ∀ (s : State) (p : PortId) (data : Word), s.owns p 0 →
    (s.isFormatted = true ∨ s.engine.mode = .trading →
      exec (.hallModeTrading p) s =
        .next (({ s with engine := { s.engine with mode := .trading } }).wrote p)) ∧
    (s.isFormatted = false ∧ s.engine.mode = .setup →
      exec (.hallModeTrading p) s =
        .next (s.faultAccess p ⟨portAddr 0 0, .word, some 2⟩ .notFormatted)) ∧
    (s.quiet = true ∨ s.engine.mode = .setup →
      exec (.hallModeSetup p) s =
        .next (({ s with engine := { s.engine with mode := .setup } }).wrote p)) ∧
    (s.quiet = false ∧ s.engine.mode = .trading →
      exec (.hallModeSetup p) s = .next (s.faultAccess p ⟨portAddr 0 0, .word, some 1⟩ .notQuiet)) ∧
    exec (.noticeFlagsClear p data) s = .next
      (({ s with notices := { s.notices with
          flags := s.notices.flags &&& ~~~(field data 0 10) } }).wrote p) ∧
    exec (.faultRecordClear p) s = .next (({ s with fault := ⟨none, false⟩ }).wrote p) ∧
    exec (.tariffBandWrite p 0) s = .next (({ s with ice := { s.ice with band := .a } }).wrote p) ∧
    exec (.tariffBandWrite p 1) s = .next (({ s with ice := { s.ice with band := .b } }).wrote p) ∧
    (2 ≤ data.toNat → exec (.tariffBandWrite p data) s = .next
      (s.faultAccess p ⟨portAddr 0 0x01C, .word, some data⟩ .badValue))

/-- COMMAND taken with 0 does nothing; with INVALIDATE_ALL every HELD entry becomes FREE, every
FETCHING entry gets its repeat mark, and the victim pointer names the first enabled entry. A descriptor
write drops the book's HELD entry, marks its FETCHING entry to repeat, leaves every other entry, and
stands in the book table. -/
def Obligations.DescriptorCacheWrites : Prop :=
  ∀ (s : State) (p : PortId), s.owns p 0 →
    exec (.commandZero p) s = .next (s.wrote p) ∧
    (∃ c : Cache, exec (.invalidateAll p) s = .next (({ s with cache := c }).wrote p) ∧
      c.victim = firstEntry s.cacheSets ∧
      ∀ e : Fin 16, c.entries.get e =
        match s.cache.entries.get e with
        | .fetching b _ => .fetching b true
        | _ => .free) ∧
    (∀ (slot : Fin 57) (second : Fin 2) (data : Word),
      ∃ c : Cache, exec (.descriptorWordWrite p slot second data) s = .next
          (({ s with cache := c }).wroteWord p 0 (0x200 + 8 * slot.val + 4 * second.val) data) ∧
        c.victim = s.cache.victim ∧
        ∀ e : Fin 16, c.entries.get e =
          match s.cache.entries.get e with
          | .held b d => if b = tableBook slot then .free else .held b d
          | .fetching b m => .fetching b (m || b == tableBook slot)
          | .free => .free)

/-- STEP, taken while PAUSED, and ENGINE_RESUME, taken while a posting has the engine HALTED, take the
queue head or leave the engine IDLE; in any other state each does nothing. ENGINE_RESUME after a struck
redo repeats the redo: struck again, the engine stays HALTED and HALTED is raised again; else a close in
progress is resumed, with the schedule as its source and the resumed mark, or the queue head is taken.
ENGINE_RESUME of a halted close resumes it: with room in the journal and no parity error every lot on the
floor is withdrawn, the next day is opened, and its report goes to its own source, the desk or the
schedule. -/
def Obligations.StepAndResumeCommands : Prop :=
  ∀ (s : State) (p : PortId), s.owns p 0 →
    (∀ (q : Posting) (qs : List Posting), s.engine.state = .paused → s.engine.queue = q :: qs →
      exec (.step p) s = .next
        (({ s with engine := { s.engine with state := .applying, work := .taken q, queue := qs } }).wrote
          p)) ∧
    (s.engine.state = .paused → s.engine.queue = [] →
      exec (.step p) s = .next
        (({ s with engine := { s.engine with state := .idle, work := .none } }).wrote p)) ∧
    (s.engine.state ≠ .paused → exec (.step p) s = .next (s.wrote p)) ∧
    (∀ (q : Posting) (qs : List Posting), s.engine.state = .halted → s.engine.halt = some .posting →
      s.engine.queue = q :: qs →
      exec (.engineResume p) s = .next
        (({ s with engine := { s.engine with
            state := .applying, work := .taken q, queue := qs, halt := none } }).wrote p)) ∧
    (s.engine.state = .halted → s.engine.halt = some .posting → s.engine.queue = [] →
      exec (.engineResume p) s = .next
        (({ s with engine := { s.engine with state := .idle, work := .none, halt := none } }).wrote p)) ∧
    (s.engine.state ≠ .halted → exec (.engineResume p) s = .next (s.wrote p)) ∧
    (s.engine.state = .halted → s.engine.halt = some .redo →
      let u : State := { s.dropSnapshot p with engine := { s.engine with halt := none } }
      (u.redo = none → exec (.engineResume p) s = .next ((s.raise .halted).wrote p)) ∧
      (∀ t : State, u.redo = some t → t.isClosing = false →
        exec (.engineResume p) s = .next (t.takeNext.answer p .done)) ∧
      (∀ t : State, u.redo = some t → t.isClosing = true →
        exec (.engineResume p) s = .next ((t.runClose
          { source := .schedule, stamp := t.stamp, day := t.engine.copy.day, lots := 0, sold := 0,
            resumed := true, reports := false } undisturbed).answer p .done))) ∧
    (∀ (c : CloseWork) (r : Profile), s.engine.state = .halted → s.engine.halt = some (.close c) →
      s.profile = some r → r.isValid = true → s.store.fuse = none → s.store.bad = [] →
      let lots := (List.range 2048).countP fun slot => (s.lot slot).state == lotOnFloor
      (s.engine.copy.head - s.engine.tail).toNat + lots < 256 →
      ∃ t : State, exec (.engineResume p) s = .next t ∧ (t.path p).answer = .done ∧
        t.engine.copy =
          { s.engine.copy with
            head := s.engine.copy.head + BitVec.ofNat 32 (lots + 1), day := dayAfter c.day,
            dayState := dayOpen } ∧
        t.engine.guard = [] ∧ t.engine.halt = none ∧ t.noticed .dayClosed = true ∧
        (∀ slot : Nat, slot < 2048 → (t.lot slot).state =
          if (s.lot slot).state = lotOnFloor then lotWithdrawn else (s.lot slot).state) ∧
        (c.reports = true → c.source = .desk → t.desk.get deskSlot =
          ⟨.applied, none, some (s.engine.copy.head + BitVec.ofNat 32 lots), some c.day, false, 0⟩) ∧
        (c.reports = true → c.source = .schedule → t.clock.request = .none))

/-- ENGINE_FORMAT, taken while a struck redo or a halted close has the engine HALTED, is answered DONE and
builds an empty hall in either mode: the engine record copy is FORMATTED for day 1 with head 1, the tail is
0, the guard is empty and every bay copy is IDLE. Tail writes within its FORMAT leave all of this but the
tail. One of the same port before step 8 is accepted of 0 alone; one after it is accepted of 0 and 1, and
then is the tail. That a tail write carries the FORMAT it falls within is the model's choice (log 49). -/
def Obligations.EngineFormatCommand : Prop :=
  ∀ (s : State) (p : PortId), s.owns p 0 → s.engine.state = .halted →
    (s.engine.halt = some .redo ∨ ∃ c, s.engine.halt = some (.close c)) →
    let empty (t : State) : Prop :=
      t.engine.copy = ⟨1, 1, 1, dayOpen, formatted⟩ ∧ t.engine.guard = [] ∧ t.engine.halt = none ∧
        t.engine.mode = s.engine.mode ∧ ∀ b : Fin 6, (t.bay b).copy = BayRecord.zero
    let leaves (point : RunPoint) (w tail : Word) (answer : Answer) : Prop :=
      ∃ t : State, exec (.tailWrite p ⟨w, some ⟨.engineFormat p, point, []⟩⟩) s = .next t ∧
        t.engine.tail = tail ∧ (t.path p).answer = answer
    (∃ t : State, exec (.engineFormat p) s = .next t ∧ empty t ∧ t.engine.tail = 0 ∧
      (t.path p).answer = .done) ∧
    (∀ (q : PortId) (w : Word) (point : RunPoint) (later : List (RunPoint × PortId × Word)),
      ∃ t : State, exec (.tailWrite q ⟨w, some ⟨.engineFormat p, point, later⟩⟩) s = .next t ∧ empty t) ∧
    (∀ w : Word,
      leaves .before8 w 0 (if w = 0 then .done else .fault .badValue) ∧
      leaves .before9 w (if w = 1 then 1 else 0) (if w.toNat ≤ 1 then .done else .fault .badValue))

/-- Writes of CLOCK_CONTROL: hold turned on stops the prescaler half a second before a tick, sets the
clock-fail flag and raises CLOCK_FAIL; a hold that is on already stays; hold turned off leaves the
prescaler; a clear-fail request clears the flag when hold is off and the crystal runs; each matched
flag is cleared by its request, whose place in the word is the model's choice (log 50). Setting the date or the time of a held clock replaces that part alone and
clears every previous match; a bad value faults BAD_VALUE whether the clock is held or not, and a good
one faults CLOCK_RUNNING with hold off. -/
def Obligations.ClockWrites : Prop :=
  ∀ (s : State) (p : PortId) (data : Word), s.owns p 0 →
    (s.clock.hold = false → ∃ m, exec (.clockHoldOn p data) s = .next
      ((({ s with clock := { s.clock with
          hold := true, prescaler := 16384, fail := true, matched := m } }).raise .clockFail).wrote p) ∧
      ∀ k : Fin 4, m.get k = (s.clock.matched.get k && !data.getLsbD (matchedPlace k))) ∧
    (s.clock.hold = true → ∃ m, exec (.clockHoldOn p data) s = .next
      (({ s with clock := { s.clock with matched := m } }).wrote p) ∧
      ∀ k : Fin 4, m.get k = (s.clock.matched.get k && !data.getLsbD (matchedPlace k))) ∧
    (∃ m, exec (.clockHoldOff p data) s = .next
      (({ s with clock := { s.clock with
          hold := false, matched := m,
          fail := s.clock.fail && !(data.getLsbD 1 && s.clock.crystal) } }).wrote p) ∧
      ∀ k : Fin 4, m.get k = (s.clock.matched.get k && !data.getLsbD (matchedPlace k))) ∧
    (s.clock.hold = false → data.getLsbD 0 = false → ∃ m, exec (.clearFail p data) s = .next
      (({ s with clock := { s.clock with
          matched := m, fail := s.clock.fail && !s.clock.crystal } }).wrote p) ∧
      ∀ k : Fin 4, m.get k = (s.clock.matched.get k && !data.getLsbD (matchedPlace k))) ∧
    (data.getLsbD 0 = s.clock.hold → data.getLsbD 1 = false →
      ∃ m, exec (.clearMatched p data) s = .next
        (({ s with clock := { s.clock with matched := m } }).wrote p) ∧
      ∀ k : Fin 4, m.get k = (s.clock.matched.get k && !data.getLsbD (matchedPlace k))) ∧
    ((dateOfWord data).valid = false → exec (.clockDateWrite p data) s = .next
      (s.faultAccess p ⟨portAddr 0 0x014, .word, some data⟩ .badValue)) ∧
    ((dateOfWord data).valid = true →
      (s.clock.hold = true → exec (.clockDateWrite p data) s = .next
        (({ s with clock := { s.clock with
            date := dateOfWord data, previous := Vector.replicate 4 false } }).wrote p)) ∧
      (s.clock.hold = false → exec (.clockDateWrite p data) s = .next
        (s.faultAccess p ⟨portAddr 0 0x014, .word, some data⟩ .clockRunning))) ∧
    ((timeOfWord data).valid = false → exec (.clockTimeWrite p data) s = .next
      (s.faultAccess p ⟨portAddr 0 0x018, .word, some data⟩ .badValue)) ∧
    ((timeOfWord data).valid = true → field data 24 8 = 0 →
      (s.clock.hold = true → exec (.clockTimeWrite p data) s = .next
        (({ s with clock := { s.clock with
            time := timeOfWord data, previous := Vector.replicate 4 false } }).wrote p)) ∧
      (s.clock.hold = false → exec (.clockTimeWrite p data) s = .next
        (s.faultAccess p ⟨portAddr 0 0x018, .word, some data⟩ .clockRunning)))

/-- An accepted write of a configuration word of book 0 updates the copy of the block that keeps it and
stands in the store; so do the rows with a word of their own, NOTICE_ENABLE, the owner words, SCHEDULE,
STEP_MODE and DECLARE_MODE. DECLARE_MODE is written in SETUP alone; a change of mode, either way, empties
every reader's history and leaves the last declared codes and the zero runs, and a write of the present
mode leaves the readers. -/
def Obligations.ConfigurationWrites : Prop :=
  ∀ (s : State) (p : PortId) (data : Word), s.owns p 0 →
    (∀ c : ConfigWord,
      c.takes s.weigh.settle.window.toNat s.weigh.settle.brk.toNat data = true →
      ((SpecialWord.config c).setupOnly = false ∨ s.engine.mode = .setup) →
      exec (.portWrite p c.addr .word data) s =
        .next ((s.setCopy c data).wroteWord p 0 c.offset data)) ∧
    (data.toNat ≤ 200 → exec (.portWrite p ConfigWord.feeRate.addr .word data) s = .next
      (({ s with engine := { s.engine with feeRate := data } }).wroteWord p 0 0x0B4 data)) ∧
    exec (.noticeEnableWrite p data) s = .next
      (({ s with notices := { s.notices with enable := field data 0 10 } }).wroteWord p 0 0x00C data) ∧
    (data = 0 → exec (.ownerWrite p .quayside data) s = .next
      (({ s with copies := { s.copies with quaysideOwner := .office } }).wroteWord p 0 0x0A4 data)) ∧
    (data = 1 → exec (.ownerWrite p .desk data) s = .next
      (({ s with copies := { s.copies with deskOwner := .quay } }).wroteWord p 0 0x0A8 data)) ∧
    (∀ k : Fin 4, scheduleValid data = true → exec (.scheduleWrite p k data) s = .next
      (({ s with clock := { s.clock with
          schedule := s.clock.schedule.set k data,
          previous := s.clock.previous.set k false } }).wroteWord p 0 (0x140 + 4 * k.val) data)) ∧
    (data = 1 → exec (.stepModeWrite p data) s = .next
      (({ s with engine := { s.engine with stepMode := true } }).wroteWord p 0 0x0B0 data)) ∧
    (data = 0 → s.engine.state ≠ .paused → exec (.stepModeWrite p data) s = .next
      (({ s with engine := { s.engine with stepMode := false } }).wroteWord p 0 0x0B0 data)) ∧
    (s.engine.mode = .setup →
      (s.tags.mode = .sure → ∃ rs, exec (.declareModeWrite p 0) s = .next
          (({ s with tags := { s.tags with mode := .fast, readers := rs } }).wroteWord p 0 0x0D8 0) ∧
        ∀ r : Fin 12, rs.get r = { s.reader r with history := [] }) ∧
      (s.tags.mode = .fast → ∃ rs, exec (.declareModeWrite p 1) s = .next
          (({ s with tags := { s.tags with mode := .sure, readers := rs } }).wroteWord p 0 0x0D8 1) ∧
        ∀ r : Fin 12, rs.get r = { s.reader r with history := [] }) ∧
      (s.tags.mode = .sure → exec (.declareModeWrite p 1) s = .next (s.wroteWord p 0 0x0D8 1)) ∧
      (s.tags.mode = .fast → exec (.declareModeWrite p 0) s = .next (s.wroteWord p 0 0x0D8 0))) ∧
    (s.engine.mode = .trading → data.toNat ≤ 1 →
      exec (.declareModeWrite p data) s = .next
        (s.faultAccess p ⟨portAddr 0 0x0D8, .word, some data⟩ .setupOnly))

/-- The TAIL rule: a whole-word office write of t is accepted when t lies between the old tail and the
head, counted forward, in either mode and in every engine state; it stands in the TAIL word and in the
engine's copy. Any other t faults BAD_VALUE, a byte or halfword write PARTIAL, a quay write RIGHTS. -/
def Obligations.TailWriteRule : Prop :=
  ∀ (s : State) (p : PortId) (t : Word), s.idlePort p →
    (s.side p = .office →
      (t - s.engine.tail).toNat ≤ (s.engine.copy.head - s.engine.tail).toNat →
      ∃ u : State, exec (.tailWrite p ⟨t, none⟩) s = .next u ∧ u.engine.tail = t ∧
        u.engine.copy = s.engine.copy ∧ (u.path p).answer = .done ∧
        u.store = s.store.putWord (s.controlAddr 0xA0) t) ∧
    (s.side p = .office →
      (s.engine.copy.head - s.engine.tail).toNat < (t - s.engine.tail).toNat →
      exec (.tailWrite p ⟨t, none⟩) s = .next
        (s.faultAccess p ⟨portAddr 0 0xA0, .word, some t⟩ .badValue)) ∧
    (s.side p = .office → ∀ size : Size, size ≠ .word →
      exec (.portWrite p (portAddr 0 0xA0) size t) s = .next
        (s.faultAccess p ⟨portAddr 0 0xA0, size, some t⟩ .partialWrite)) ∧
    (s.side p = .quay →
      exec (.tailWrite p ⟨t, none⟩) s = .next (s.faultAccess p ⟨portAddr 0 0xA0, .word, some t⟩ .rights))

/-! ## Stations -/

/-- The quay indication word clears the flags written with one; QUAY_RESTART empties every scale
channel and every reader, puts DISPENSING bays into STALLED and clears every indication. A bay put into
STALLED raises STALL, and its record in the store follows at once, or is left due while it is guarded; every
other bay record stays. An accepted
parameter write stands in the store and in the slot's shadow of that word alone. -/
def Obligations.QuaysideHeaderAndParameterWrites : Prop :=
  (∀ (s : State) (p : PortId) (data : Word), s.owns p 5 →
    exec (.quayIndicationClear p data) s = .next
      (({ s with notices := { s.notices with
          quayFlags := s.notices.quayFlags &&& ~~~(field data 0 26) } }).wrote p) ∧
    (∃ t : State, exec (.quayRestart p) s = .next t ∧ t.notices.quayFlags = 0 ∧
      t.engine = s.engine ∧ t.shadows = s.shadows ∧ t.desk = s.desk ∧ t.clock = s.clock ∧
      (t.path p).answer = .done ∧
      (∀ n : Fin 8, t.scale n = { s.scale n with
        state := .empty, tray := [], reference := 0, run := 0, block := 0, misses := 0, weight := 0,
        testMiss := false, commit := match (s.scale n).commit with
          | .committed => .opened
          | c => c }) ∧
      (∀ r : Fin 12, t.reader r = { s.reader r with history := [], last := none, zeroRun := 0 }) ∧
      (∀ b : Fin 6, (t.bay b).copy.state =
          (if s.bayFitted b = true ∧ (s.bay b).copy.state = bayDispensing then bayStalled
            else (s.bay b).copy.state) ∧
        (t.bay b).status = (s.bay b).status ∧ (t.bay b).pending = (s.bay b).pending ∧
        (t.bay b).held = (s.bay b).held) ∧
      (∀ b : Fin 6, let restarts := s.bayFitted b = true ∧ (s.bay b).copy.state = bayDispensing
        (restarts → t.noticed .stall = true ∧
          (s.guarded (.bay b.val) = true → (t.bay b).writeDue = true ∧
            t.bayRecord b.val = s.bayRecord b.val) ∧
          (s.guarded (.bay b.val) = false → s.store.fuse = none →
            t.bayRecord b.val = { s.bayRecord b.val with
              state := bayStalled, unsure := (s.bay b).copy.unsure })) ∧
        (¬ restarts → t.bayRecord b.val = s.bayRecord b.val)))) ∧
  (∀ (s : State) (p : PortId) (w : ParamWord) (data : Word) (book : Fin 7),
    (paramPlace w).1 = book.val → s.owns p book → s.wordFitted (.param w) = true →
    exec (.slotParameterWrite p w data) s =
        .next (({ s with shadows := s.shadows.set w data }).wroteWord p book (paramPlace w).2 data) ∧
      (s.shadows.set w data).word w = data ∧
      ∀ v : ParamWord, v ≠ w → (s.shadows.set w data).word v = s.shadows.word v)

/-- A sample below the empty threshold: in UNSETTLED or SETTLED the load leaves the pan, a COMMITTED
commit state becomes OPEN, a PENDING one stays, the load number is kept, and the indication is set; in
EMPTY nothing changes. -/
def Obligations.SampleBelowThreshold : Prop :=
  ∀ (s : State) (p : PortId) (n : Fin 8) (v : Word), s.owns p 5 → s.scaleFitted n.val = true →
    v.toNat ≤ 500000 → v.toNat < s.weigh.settle.empty.toNat →
    ((s.scale n).state = .empty →
      exec (.sample p n v) s = .next (s.wroteWord p 5 (0x110 + 64 * n.val) v)) ∧
    ((s.scale n).state ≠ .empty →
      exec (.sample p n v) s = .next
        (((s.wroteWord p 5 (0x110 + 64 * n.val) v).setScale n { s.scale n with
            state := .empty, tray := [], reference := 0, run := 0, block := 0, misses := 0, weight := 0,
            commit := match (s.scale n).commit with
              | .committed => .opened
              | c => c }).indicate (scalePlace n)))

/-- A sample at or above the empty threshold that arrives in EMPTY begins a new load: UNSETTLED, the
load number up by one with wrapping, the reference v, the run count 1, the indication set. TEST sets the
channel's test miss flag, whatever its state. -/
def Obligations.SampleBeginsLoadAndTest : Prop :=
  ∀ (s : State) (p : PortId) (n : Fin 8) (v : Word), s.owns p 5 → s.scaleFitted n.val = true →
    (v.toNat ≤ 500000 → s.weigh.settle.empty.toNat ≤ v.toNat → (s.scale n).state = .empty →
      exec (.sample p n v) s = .next
        (((s.wroteWord p 5 (0x110 + 64 * n.val) v).setScale n { s.scale n with
            state := .unsettled, load := (s.scale n).load + 1, reference := v.toNat,
            run := 1 }).indicate (scalePlace n))) ∧
    exec (.test p n v) s = .next
      ((s.wroteWord p 5 (0x114 + 64 * n.val) v).setScale n { s.scale n with testMiss := true })

/-- A sample at or above the empty threshold in UNSETTLED: a passed band test raises the run count, a
failed one restarts the run at v; a run count at S or above settles the channel at v, which sets the
indication. The test uses up the test miss flag. -/
def Obligations.SampleInUnsettled : Prop :=
  ∀ (s : State) (p : PortId) (n : Fin 8) (v : Word), s.owns p 5 → s.scaleFitted n.val = true →
    v.toNat ≤ 500000 → s.weigh.settle.empty.toNat ≤ v.toNat → (s.scale n).state = .unsettled →
    let c := s.scale n
    let pass := c.testMiss = false ∧ distance v.toNat c.reference ≤ s.weigh.settle.band.toNat
    let run := if pass then c.run + 1 else 1
    let reference := if pass then c.reference else v.toNat
    exec (.sample p n v) s = .next
      (if s.weigh.settle.count.toNat ≤ run then
        ((s.wroteWord p 5 (0x110 + 64 * n.val) v).setScale n { c with
            state := .settled, weight := v.toNat, block := 0, misses := 0, run := run,
            reference := reference, testMiss := false }).indicate (scalePlace n)
      else
        (s.wroteWord p 5 (0x110 + 64 * n.val) v).setScale n { c with
            run := run, reference := reference, testMiss := false })

/-- A sample at or above the empty threshold in SETTLED: the block count rises by one, a failed band
test raises misses by one; misses at E or above unsettle the channel at v, which sets the indication;
else a block count at W or above ends the window; else the new counts stand. -/
def Obligations.SampleInSettled : Prop :=
  ∀ (s : State) (p : PortId) (n : Fin 8) (v : Word), s.owns p 5 → s.scaleFitted n.val = true →
    v.toNat ≤ 500000 → s.weigh.settle.empty.toNat ≤ v.toNat → (s.scale n).state = .settled →
    let c := s.scale n
    let pass := c.testMiss = false ∧ distance v.toNat c.weight ≤ s.weigh.settle.band.toNat
    let misses := if pass then c.misses else c.misses + 1
    exec (.sample p n v) s = .next
      (if s.weigh.settle.brk.toNat ≤ misses then
        ((s.wroteWord p 5 (0x110 + 64 * n.val) v).setScale n { c with
            state := .unsettled, reference := v.toNat, run := 1, block := 0, misses := 0,
            testMiss := false }).indicate (scalePlace n)
      else if s.weigh.settle.window.toNat ≤ c.block + 1 then
        (s.wroteWord p 5 (0x110 + 64 * n.val) v).setScale n { c with
            block := 0, misses := 0, testMiss := false }
      else
        (s.wroteWord p 5 (0x110 + 64 * n.val) v).setScale n { c with
            block := c.block + 1, misses := misses, testMiss := false })

/-- COMMIT with a shadow out of its range faults BAD_VALUE, and while the commit state is PENDING it
faults SLOT_BUSY. In TRADING at a SETTLED, OPEN channel the LAND captures boat, species, grade, load
number, gross, tray and stamp, and joins the queue when it holds fewer than twelve, with STATUS TAKEN and
the commit state PENDING; else STATUS is BUSY. The intake refusals come before, in the order HALL_SETUP,
NOT_SETTLED, DUPLICATE. -/
def Obligations.CommitIntake : Prop :=
  ∀ (s : State) (p : PortId) (n : Fin 8) (v : Word), s.owns p 5 → s.scaleFitted n.val = true →
    let sh := s.shadows.scale.get n
    let c := s.scale n
    let t := s.wroteWord p 5 (0x10C + 64 * n.val) v
    let a : Access := ⟨portAddr 5 (0x10C + 64 * n.val), .word, some v⟩
    (255 < sh.boat.toNat ∨ 255 < sh.species.toNat ∨ 7 < sh.grade.toNat →
      exec (.commit p n v) s = .next (s.faultAccess p a .badValue)) ∧
    (sh.boat.toNat ≤ 255 → sh.species.toNat ≤ 255 → sh.grade.toNat ≤ 7 →
      (∀ l, c.commit = .pending l → exec (.commit p n v) s = .next (s.faultAccess p a .slotBusy)) ∧
      ((∀ l, c.commit ≠ .pending l) →
        (s.engine.mode = .setup → exec (.commit p n v) s = .next
          (t.setScale n { c with status := ⟨.refused, some .hallSetup, none, none, false, 0⟩ })) ∧
        (s.engine.mode = .trading → c.state ≠ .settled → exec (.commit p n v) s = .next
          (t.setScale n { c with status := ⟨.refused, some .notSettled, none, none, false, 0⟩ })) ∧
        (s.engine.mode = .trading → c.state = .settled → c.commit = .committed →
          exec (.commit p n v) s = .next
            (t.setScale n { c with status := ⟨.refused, some .duplicate, none, none, false, 0⟩ })) ∧
        (s.engine.mode = .trading → c.state = .settled → c.commit = .opened →
          s.engine.queue.length < 12 → ∃ q : Posting,
            exec (.commit p n v) s = .next
              ((t.setScale n { c with
                  status := ⟨.taken, none, none, none, false, 0⟩, commit := .pending c.load }).enqueue q) ∧
            q.kind = PostKind.land.code ∧ q.source = .scale n ∧ q.tray = c.tray ∧ q.stamp = s.stamp ∧
            (landBoat q).toNat = sh.boat.toNat ∧ (landSpecies q).toNat = sh.species.toNat ∧
            (landGrade q).toNat = sh.grade.toNat ∧
            q.params.w1 = c.load.setWidth 32 ∧ (c.weight ≤ 500000 → landGross q = c.weight)) ∧
        (s.engine.mode = .trading → c.state = .settled → c.commit = .opened →
          12 ≤ s.engine.queue.length → exec (.commit p n v) s = .next
            (t.setScale n { c with status := ⟨.busy, none, none, none, false, 0⟩ }))))

/-- A raw read of no tag: the zero run rises by one up to fifteen; at or above the clear count the last
declared code becomes none; the 0 is entered into the history. Nothing is declared, and no STATUS and
no indication changes. -/
def Obligations.RawReadOfNoTag : Prop :=
  ∀ (s : State) (p : PortId) (r : Fin 12), s.owns p 5 → s.readerFitted r = true →
    let c := s.reader r
    let run := min 15 (c.zeroRun + 1)
    exec (.raw p r 0) s = .next
      ((s.wroteWord p 5 (0x300 + 32 * r.val) 0).setReader r { c with
        zeroRun := run
        last := if s.tags.clearCount.toNat ≤ run then none else c.last
        history := pushRead s.tags.mode.history c.history 0 })

/-- A raw read of a tag enters it into the history and sets the zero run to 0. It declares nothing when
its count is below the threshold, when it is the last declared code, or when the reader is HELD. -/
def Obligations.RawReadWithoutDeclaration : Prop :=
  ∀ (s : State) (p : PortId) (r : Fin 12) (v : Word), s.owns p 5 → s.readerFitted r = true → v ≠ 0 →
    let c := s.reader r
    let h := pushRead s.tags.mode.history c.history v
    (h.count v < s.tags.mode.threshold ∨ c.last = some v ∨ c.held = true) →
    exec (.raw p r v) s = .next
      ((s.wroteWord p 5 (0x300 + 32 * r.val) v).setReader r { c with zeroRun := 0, history := h })

/-- A code declared at a gate in TRADING forms a RETURN at an INBOUND gate and a LEND to the HOLDER
shadow at an OUTBOUND one; the reader is HELD, and its STATUS shows the crate. Declared in SETUP it forms
no posting: the STATUS is REFUSED HALL_SETUP with the crate, and the reader is not HELD. A code declared at
a scale reader is claimed by the scale's tray: IGNORED in EMPTY or when the commit state is not OPEN,
DUPLICATE when the tray holds its crate, TRAY_FULL at sixteen codes, else ADDED at the tray's end. The
reader shows the answer and the crate; the history is kept. Which bit of GATE_DIRECTION is a gate's is the
model's choice (log 50). -/
def Obligations.RawReadDeclared : Prop :=
  ∀ (s : State) (p : PortId) (v : Word), s.owns p 5 →
    (∀ g : Fin 4, s.readerFitted (gateReader g) = true → v ≠ 0 →
      let c := s.reader (gateReader g)
      let h := pushRead s.tags.mode.history c.history v
      s.tags.mode.threshold ≤ h.count v → c.last ≠ some v → c.held = false →
      let post : Posting :=
        { kind := if s.outbound g then PostKind.lend.code else PostKind.returnCrate.code
          source := .gate g
          params := ⟨v, if s.outbound g then s.shadows.holder.get g else 0, 0, 0⟩
          tray := [], stamp := s.stamp }
      (s.engine.mode = .trading → exec (.raw p (gateReader g) v) s = .next
        (((s.wroteWord p 5 (0x400 + 32 * g.val) v).setReader (gateReader g) { c with
            zeroRun := 0, history := h, last := some v, held := true, pending := some post,
            status := ⟨.held, none, none, none, false, tagCrate v⟩ }).indicate (readerPlace (gateReader g)))) ∧
      (s.engine.mode = .setup → exec (.raw p (gateReader g) v) s = .next
        (((s.wroteWord p 5 (0x400 + 32 * g.val) v).setReader (gateReader g) { c with
            zeroRun := 0, history := h, last := some v,
            status := ⟨.refused, some .hallSetup, none, none, false, tagCrate v⟩ }).indicate (readerPlace (gateReader g))))) ∧
    (∀ n : Fin 8, s.scaleFitted n.val = true → v ≠ 0 →
      let r : Fin 12 := ⟨n.val, by omega⟩
      let c := s.reader r
      let h := pushRead s.tags.mode.history c.history v
      s.tags.mode.threshold ≤ h.count v → c.last ≠ some v → c.held = false →
      let k := s.scale n
      let outcome : SlotOutcome :=
        if k.state = .empty ∨ k.commit ≠ .opened then .ignored
        else if tagCrate v ∈ k.tray.map tagCrate then .duplicate
        else if 16 ≤ k.tray.length then .trayFull
        else .added
      exec (.raw p r v) s = .next
        ((((s.wroteWord p 5 (0x300 + 32 * n.val) v).setScale n
            (if outcome = .added then { k with tray := k.tray ++ [v] } else k)).setReader r { c with
              zeroRun := 0, history := h, last := some v,
              status := ⟨outcome, none, none, none, false, tagCrate v⟩ }).indicate (readerPlace r)))


/-- A REQUEST with shadows in range: while the bay's record is guarded it is held, with no answer and no
store access. Else in SETUP it is REFUSED HALL_SETUP, at a bay that is not IDLE REFUSED BAY_BUSY, and with
twelve postings queued BUSY. With fewer the bay enters HOLD_PENDING with boat, requested kg, rate and held
cost written and delivered kg and elapsed seconds 0, its start time kept, in copy and record, STATUS
TAKEN, the write answered DONE, and the ICE_HOLD joins the queue. That an outcome equal to the STATUS
before sets the indication is the model's choice (log 40), and so is what a held trigger keeps (log 26). -/
def Obligations.BayRequestIntake : Prop :=
  ∀ (s : State) (p : PortId) (b : Fin 6) (v : Word), s.owns p 5 → s.bayFitted b = true →
    (s.shadows.bay.get b).boat.toNat ≤ 255 →
    1 ≤ (s.shadows.bay.get b).kg.toNat → (s.shadows.bay.get b).kg.toNat ≤ 5000 →
    let sh := s.shadows.bay.get b
    let c := s.bay b
    (s.guarded (.bay b.val) = true → exec (.bayRequest p b v) s = .next
      (((s.dropSnapshot p).setBay b { c with held := c.held ++ [⟨p, false, sh, v⟩] }).setWait p
        (.bay b))) ∧
    (s.guarded (.bay b.val) = false →
      (s.engine.mode = .setup → exec (.bayRequest p b v) s = .next
        (((s.wroteWord p 5 (0x52C + 64 * b.val) v).setBay b { c with
            status := ⟨.refused, some .hallSetup, none, none, false, 0⟩ }).indicate (bayPlace b))) ∧
      (s.engine.mode = .trading → c.copy.state ≠ bayIdle → exec (.bayRequest p b v) s = .next
        (((s.wroteWord p 5 (0x52C + 64 * b.val) v).setBay b { c with
            status := ⟨.refused, some .bayBusy, none, none, false, 0⟩ }).indicate (bayPlace b))) ∧
      (s.engine.mode = .trading → c.copy.state = bayIdle → 12 ≤ s.engine.queue.length →
        exec (.bayRequest p b v) s = .next
          (((s.wroteWord p 5 (0x52C + 64 * b.val) v).setBay b { c with
              status := ⟨.busy, none, none, none, false, 0⟩ }).indicate (bayPlace b))) ∧
      (s.engine.mode = .trading → c.copy.state = bayIdle → s.engine.queue.length < 12 →
        ∃ t : State, exec (.bayRequest p b v) s = .next (t.enqueue
            { kind := PostKind.iceHold.code, source := .bay b,
              params := ⟨BitVec.ofNat 32 b.val, sh.boat, sh.kg, s.tariff⟩, tray := [],
              stamp := s.stamp }) ∧
          t.engine = s.engine ∧ t.tags = s.tags ∧ t.weigh = s.weigh ∧ t.desk = s.desk ∧
          (t.path p).answer = .done ∧
          t.bay b = { c with
            status := ⟨.taken, none, none, none, false, 0⟩
            copy := { c.copy with
              state := bayHoldPending, boat := sh.boat, requested := sh.kg, rate := s.tariff,
              heldCost := sh.kg * s.tariff, delivered := 0, elapsed := 0 } } ∧
          (∀ d : Fin 6, d ≠ b → t.bay d = s.bay d) ∧
          (s.store.fuse = none →
            t.bayRecord b.val = { s.bayRecord b.val with
              state := bayHoldPending, unsure := c.copy.unsure, boat := sh.boat, requested := sh.kg,
              rate := s.tariff, heldCost := sh.kg * s.tariff, delivered := 0, elapsed := 0 } ∧
            t.store.word (s.base 5 + (0x52C + 64 * b.val)) = v)))

/-- A DONE with its shadow in range: while the bay's record is guarded it is held, with no answer and no
store access. Else, at a DISPENSING or STALLED bay: SETTLE_PENDING with the delivered kg, in copy and
record, an ICE_SETTLE pending in the channel, the STATUS as it was, the write answered DONE; in every
other state STATUS is REFUSED NOT_DISPENSING and the bay is as it was. That an outcome equal to the STATUS
before sets the indication is the model's choice (log 40), and so is what a held trigger keeps (log 26). -/
def Obligations.BayDoneIntake : Prop :=
  ∀ (s : State) (p : PortId) (b : Fin 6) (v : Word), s.owns p 5 → s.bayFitted b = true →
    (s.shadows.bay.get b).delivered.toNat ≤ 6000 →
    let sh := s.shadows.bay.get b
    let c := s.bay b
    (s.guarded (.bay b.val) = true → exec (.bayDone p b v) s = .next
      (((s.dropSnapshot p).setBay b { c with held := c.held ++ [⟨p, true, sh, v⟩] }).setWait p
        (.bay b))) ∧
    (s.guarded (.bay b.val) = false →
      (c.copy.state = bayDispensing ∨ c.copy.state = bayStalled →
        ∃ t : State, exec (.bayDone p b v) s = .next t ∧ t.engine = s.engine ∧ t.weigh = s.weigh ∧
          t.tags = s.tags ∧ t.desk = s.desk ∧ (t.path p).answer = .done ∧
          t.bay b = { c with
            copy := { c.copy with state := baySettlePending, delivered := sh.delivered }
            pending := some
              { kind := PostKind.iceSettle.code, source := .bay b,
                params := ⟨BitVec.ofNat 32 b.val, c.copy.boat, sh.delivered, 0⟩, tray := [],
                stamp := s.stamp } } ∧
          (∀ d : Fin 6, d ≠ b → t.bay d = s.bay d) ∧
          (s.store.fuse = none →
            t.bayRecord b.val = { s.bayRecord b.val with
              state := baySettlePending, unsure := c.copy.unsure, delivered := sh.delivered } ∧
            t.store.word (s.base 5 + (0x530 + 64 * b.val)) = v)) ∧
      (c.copy.state ≠ bayDispensing → c.copy.state ≠ bayStalled →
        exec (.bayDone p b v) s = .next
          (((s.wroteWord p 5 (0x530 + 64 * b.val) v).setBay b { c with
              status := ⟨.refused, some .notDispensing, none, none, false, 0⟩ }).indicate (bayPlace b))))

/-- A rostrum or desk TRIGGER on a free slot forms a posting of the written kind from the shadows and
joins the queue when it holds fewer than twelve, else STATUS is BUSY; a rostrum trigger in SETUP is
REFUSED HALL_SETUP; a slot whose posting is outstanding, rostrum or desk, faults SLOT_BUSY. -/
def Obligations.DeskBookTriggers : Prop :=
  ∀ (s : State) (p : PortId) (v : Word), s.owns p 6 →
    (∀ r : Fin 2, s.slotFree (.trigger (rostrumSlot r)) = true →
      (s.engine.mode = .setup → exec (.rostrumTrigger p r v) s = .next
        ((s.wroteWord p 6 (0x10 + 32 * r.val) v).setDesk (rostrumSlot r)
          ⟨.refused, some .hallSetup, none, none, false, 0⟩)) ∧
      (s.engine.mode = .trading → s.engine.queue.length < 12 → exec (.rostrumTrigger p r v) s = .next
        (((s.wroteWord p 6 (0x10 + 32 * r.val) v).setDesk (rostrumSlot r)
            ⟨.taken, none, none, none, false, 0⟩).enqueue
          { kind := v, source := .rostrum r, params := s.shadows.desk.get (rostrumSlot r), tray := [],
            stamp := s.stamp })) ∧
      (s.engine.mode = .trading → 12 ≤ s.engine.queue.length → exec (.rostrumTrigger p r v) s = .next
        ((s.wroteWord p 6 (0x10 + 32 * r.val) v).setDesk (rostrumSlot r)
          ⟨.busy, none, none, none, false, 0⟩))) ∧
    (∀ r : Fin 2, s.slotFree (.trigger (rostrumSlot r)) = false → exec (.rostrumTrigger p r v) s = .next
      (s.faultAccess p ⟨portAddr 6 (0x10 + 32 * r.val), .word, some v⟩ .slotBusy)) ∧
    (s.slotFree (.trigger deskSlot) = true →
      (s.engine.queue.length < 12 → exec (.deskTrigger p v) s = .next
        (((s.wroteWord p 6 0x50 v).setDesk deskSlot ⟨.taken, none, none, none, false, 0⟩).enqueue
          { kind := v, source := .desk, params := s.shadows.desk.get deskSlot, tray := [],
            stamp := s.stamp })) ∧
      (12 ≤ s.engine.queue.length → exec (.deskTrigger p v) s = .next
        ((s.wroteWord p 6 0x50 v).setDesk deskSlot ⟨.busy, none, none, none, false, 0⟩))) ∧
    (s.slotFree (.trigger deskSlot) = false → exec (.deskTrigger p v) s = .next
      (s.faultAccess p ⟨portAddr 6 0x50, .word, some v⟩ .slotBusy))

/-! ## Reads and plain books -/

/-- A word read of HALL_MODE, COMMAND or NOTICE_FLAGS is answered at once from the part's state, and so are
the live words of the stations: WEIGHT, or the substitute code while the channel is not SETTLED; STATE;
TRAY; DECLARED, or the substitute code with no declared code; and the words of each STATUS group. One of a
configuration word of book 0 is answered from the store, or faults STORE_PARITY. A read of CLOCK_DATE
answers the date and latches the time; the next read of CLOCK_TIME by that port answers the latched time
and empties the latch; with the latch empty it answers the live time. That a STATUS word reads 0 while its
sequence number or value is absent is the model's choice (log 48). -/
def Obligations.PortReadsAnswered : Prop :=
  ∀ (s : State) (p : PortId), s.idlePort p →
    let reads (book off : Nat) (w : Word) : Prop :=
      exec (.portRead p (portAddr book off) .word) s = .next (s.answer p (.data w))
    let group (t : Status) (book off : Nat) : Prop :=
      (∃ w : Word, reads book off w ∧ field w 0 8 = t.outcome.code ∧ field w 8 8 = reasonCode t.reason ∧
        w.getLsbD 16 = t.seq.isSome ∧ w.getLsbD 17 = t.value.isSome ∧ w.getLsbD 18 = t.overMark ∧
        w.getLsbD 19 = false ∧ field w 20 12 = t.crate) ∧
      reads book (off + 4) (t.seq.getD 0)
    (∀ n : Fin 8, let c := s.scale n
      reads 5 (0x118 + 64 * n.val)
        (if c.state = .settled then BitVec.ofNat 32 c.weight else s.copies.substitute) ∧
      (∃ w : Word, reads 5 (0x11C + 64 * n.val) w ∧
        field w 0 2 = (match c.state with | .empty => 0 | .unsettled => 1 | .settled => 2) ∧
        field w 2 2 = (match c.commit with | .opened => 0 | .pending _ => 1 | .committed => 2) ∧
        w.getLsbD 4 = c.testMiss ∧ field w 5 11 = 0 ∧ field w 16 16 = c.load) ∧
      (∃ w : Word, reads 5 (0x120 + 64 * n.val) w ∧ field w 0 5 = BitVec.ofNat 5 c.tray.length ∧
        field w 5 11 = 0 ∧ field w 16 12 = (match c.tray.getLast? with | none => 0 | some v => tagCrate v) ∧
        field w 28 4 = 0) ∧
      group c.status 5 (0x124 + 64 * n.val) ∧ reads 5 (0x12C + 64 * n.val) (c.status.value.getD 0)) ∧
    (∀ r : Fin 12,
      reads 5 (0x308 + 32 * r.val) ((s.reader r).last.getD s.copies.substitute) ∧
      group (s.reader r).status 5 (0x30C + 32 * r.val)) ∧
    (∀ b : Fin 6, group (s.bay b).status 5 (0x534 + 64 * b.val)) ∧
    (∀ slot : Fin 3, group (s.desk.get slot) 6 (0x14 + 32 * slot.val) ∧
      reads 6 (0x1C + 32 * slot.val) ((s.desk.get slot).value.getD 0)) ∧
    exec (.portRead p (portAddr 0 0x000) .word) s = .next (s.answer p (.data s.engine.mode.code)) ∧
    exec (.portRead p (portAddr 0 0x004) .word) s = .next (s.answer p (.data 0)) ∧
    exec (.portRead p (portAddr 0 0x008) .word) s =
      .next (s.answer p (.data (s.notices.flags.setWidth 32))) ∧
    (∀ c : ConfigWord, s.store.failing (s.controlAddr c.offset) 4 = false →
      exec (.portRead p c.addr .word) s = .next
        ((s.granted (s.grantee p)).answer p (.data (s.store.word (s.controlAddr c.offset))))) ∧
    (∀ c : ConfigWord, s.store.failing (s.controlAddr c.offset) 4 = true →
      exec (.portRead p c.addr .word) s = .next
        ((s.granted (s.grantee p)).faultAccess p ⟨c.addr, .word, none⟩ .storeParity)) ∧
    exec (.clockDateRead p) s = .next
      (s.setPath p { s.path p with
        wait := .free, clock := some s.clock.time, answer := .data s.clock.date.word }) ∧
    exec (.clockTimeRead p) s = .next
      (s.setPath p { s.path p with
        wait := .free, clock := none,
        answer := .data ((s.path p).clock.getD s.clock.time).word })

/-- A latching read of an unguarded account or lot record takes its sixteen words into the port's
snapshot and answers word 0; a parity error leaves the snapshot invalid and faults STORE_PARITY; a
guarded record makes it wait, with the snapshot invalid meanwhile, which is the model's choice (log 39).
While the snapshot is valid for the record, every read of the record but one at its offset 0 is answered
from it, whether the record is guarded or its store words are struck or not, and a byte or halfword read at
offset 0 goes to the store and leaves it. The place of a sub-word read's bytes in the answer is the model's
choice (log 29). -/
def Obligations.LatchingReadTakesRecord : Prop :=
  ∀ (s : State) (p : PortId) (book : LatchBook) (n : BitVec 12), s.idlePort p →
    let limit := match book with | .accounts => 256 | .lots => 2048
    let record : RecordId := match book with | .accounts => .account n.toNat | .lots => .lot n.toNat
    let base := match book with | .accounts => s.accountAddr n.toNat | .lots => s.lotAddr n.toNat
    let a : Access :=
      ⟨portAddr (match book with | .accounts => 1 | .lots => 2) (64 * n.toNat), .word, none⟩
    n.toNat < limit →
    (s.guarded record = false → s.store.failing base 64 = false →
      exec (.latchingRead p book n) s = .next
        ((s.granted (s.grantee p)).setPath p { s.path p with
          wait := .free
          snapshot := some ⟨book, n.toNat, s.store.words base 16⟩
          answer := .data (s.store.word base) })) ∧
    (s.guarded record = false → s.store.failing base 64 = true →
      exec (.latchingRead p book n) s = .next
        (((s.granted (s.grantee p)).dropSnapshot p).faultAccess p a .storeParity)) ∧
    (s.guarded record = true →
      exec (.latchingRead p book n) s = .next
        (s.setPath p { s.path p with wait := .guard a, snapshot := none })) ∧
    (∀ (off : Nat) (size : Size), off + sizeBytes size ≤ 64 → off % sizeBytes size = 0 →
      let addr := portAddr (match book with | .accounts => 1 | .lots => 2) (64 * n.toNat + off)
      (∀ words : List Word, (s.path p).snapshot = some ⟨book, n.toNat, words⟩ → off ≠ 0 →
        exec (.portRead p addr size) s = .next
          (s.answer p (.data (piece (words.getD (off / 4) 0) (64 * n.toNat + off) size)))) ∧
      (off = 0 → size ≠ .word → s.guarded record = false →
        s.store.failing base (sizeBytes size) = false →
        exec (.portRead p addr size) s = .next ((s.granted (s.grantee p)).answer p
          (.data (piece (s.store.word base) (64 * n.toNat) size)))))

/-- A word read that waits on the guard goes on waiting while its record is guarded; once the record is
released it is answered from the store, and a latching read takes its record. -/
def Obligations.GuardedReadResumes : Prop :=
  ∀ (s : State) (p : PortId) (book : Fin 7) (off : Nat) (record : RecordId),
    off + 4 ≤ bookLimit book → off % 4 = 0 → guardRecord book off = some record →
    let a : Access := ⟨portAddr book off, .word, none⟩
    let base := s.base book + off
    (s.path p).wait = .guard a →
    (s.guarded record = true → exec (.guardedReadResume p) s = .next s) ∧
    (s.guarded record = false → isLatching book a = false → s.store.failing base 4 = false →
      exec (.guardedReadResume p) s = .next
        ((s.granted (s.grantee p)).answer p (.data (s.store.word base)))) ∧
    (∀ b : LatchBook, s.guarded record = false → isLatching book a = true → latchBook book = some b →
      s.store.failing base 64 = false →
      exec (.guardedReadResume p) s = .next
        ((s.granted (s.grantee p)).setPath p { s.path p with
          wait := .free
          snapshot := some ⟨b, off / 64, s.store.words base 16⟩
          answer := .data (s.store.word base) }))

/-- A fetch that ends without a parity error: without its repeat mark its entry becomes HELD with the
descriptor of the book table, with the mark it is issued again. A parity error ends the fetch whatever
its mark, and its entry becomes FREE. Every access that waits on the fetch goes on waiting when it is
issued again, is checked as an access that then arrives when its entry is HELD, and is answered FAULT
STORE_PARITY after a parity error. That the office port's access comes before the quay port's is the
model's choice (log 24). -/
def Obligations.DescriptorFetchEnds : Prop :=
  ∀ (s : State) (book : BitVec 6) (again : Bool), 7 ≤ book.toNat →
    s.cache.find book = some (.fetching book again) →
    let a := s.descriptorAddr book
    (again = true → s.store.failing a 8 = false → ∃ c, exec (.descriptorFetchDone book) s =
        .next { s.granted (.inner .cache) with cache := c } ∧
      c.victim = s.cache.victim ∧ c.find book = some (.fetching book false)) ∧
    (again = false ∨ s.store.failing a 8 = true → ∃ t, exec (.descriptorFetchDone book) s = .next t ∧
      t.cache.victim = s.cache.victim ∧ t.engine = s.engine ∧
      (s.store.failing a 8 = true → t.cache.find book = none) ∧
      (s.store.failing a 8 = false → t.cache.find book =
        some (.held book (s.decodeDescriptor (s.store.word a) (s.store.word (a + 4))))) ∧
      (s.part = .running →
        let settle (v : State) (p : PortId) : State :=
          match (s.path p).wait with
          | .fetch x =>
            if addrBook x.addr ≠ book then v
            else if s.store.failing a 8 = true then v.faultAccess p x .storeParity
            else (v.setWait p .free).arrive p x
          | _ => v
        ∃ c : Cache,
          t = settle (settle { s.granted (.inner .cache) with cache := c } (s.portOf .office))
            (s.portOf .quay) ∧
          ∀ e : Fin 16, (s.cache.entries.get e).names book = false →
            c.entries.get e = s.cache.entries.get e))

/-- An access to a plain book whose descriptor is HELD: it faults with the reason of the first check it
fails, in the order NO_BOOK, LIMIT, RIGHTS, WRITE_LOCK, MISALIGNED; an accepted read is answered from the
store, an accepted write changes the bytes written and no other. With no entry for the book the access
waits on a fetch: the victim is the first enabled entry at or after the pointer that is not FETCHING, it
becomes FETCHING for the book, the pointer moves past it and no other entry changes. The place of a
sub-word read's bytes in the answer is the model's choice (log 29). -/
def Obligations.PlainBookAccess : Prop :=
  ∀ (s : State) (p : PortId) (addr : BitVec 24) (size : Size) (data : Word) (d : Descriptor),
    s.idlePort p → 7 ≤ (addrBook addr).toNat →
    let book := addrBook addr
    let off := addrOffset addr
    let at_ := d.base.toNat * 1024 + off
    let checks (isWrite : Bool) : List (Bool × FaultReason) :=
      [ (d.valid, .noBook), (decide (off + sizeBytes size ≤ d.limit.toNat), .limit),
        (decide (s.side p = d.owner ∨ d.other = 2 ∨ (d.other = 1 ∧ isWrite = false)), .rights),
        (decide (isWrite = false ∨ d.lock = false), .writeLock),
        (decide (off % sizeBytes size = 0), .misaligned) ]
    (s.cache.find book = some (.held book d) →
      (∀ r : FaultReason, firstFail (checks false) = some r →
        exec (.portRead p addr size) s = .next (s.faultAccess p ⟨addr, size, none⟩ r)) ∧
      (∀ r : FaultReason, firstFail (checks true) = some r →
        exec (.portWrite p addr size data) s = .next (s.faultAccess p ⟨addr, size, some data⟩ r)) ∧
      (firstFail (checks false) = none → s.store.failing at_ (sizeBytes size) = false →
        exec (.portRead p addr size) s = .next ((s.granted (s.grantee p)).answer p
          (.data (piece (s.store.word (d.base.toNat * 1024 + off / 4 * 4)) off size)))) ∧
      (firstFail (checks true) = none →
        exec (.portWrite p addr size data) s = .next
          ((({ s with store := s.store.putBytes at_ ((wordBytes data).take (sizeBytes size)) }).dropSnapshot
            p).granted (s.grantee p) |>.answer p .done))) ∧
    (s.cache.find book = none → ∀ k : Nat, k < 16 →
      let e := passed s.cacheSets k s.cache.victim
      (s.cache.entries.get e).isFetching = false →
      (∀ j : Nat, j < k →
        (s.cache.entries.get (passed s.cacheSets j s.cache.victim)).isFetching = true) →
      ∃ c : Cache, exec (.portRead p addr size) s = .next
          (({ s with cache := c }).setWait p (.fetch ⟨addr, size, none⟩)) ∧
        exec (.portWrite p addr size data) s = .next
          (({ s with cache := c }).setWait p (.fetch ⟨addr, size, some data⟩)) ∧
        c.find book = some (.fetching book false) ∧
        c.entries.get e = .fetching book false ∧ c.victim = nextEntry s.cacheSets e ∧
        ∀ x : Fin 16, x ≠ e → c.entries.get x = s.cache.entries.get x)

/-- The notice lines: the office line is asserted while a notice flag stands whose enable is set, and the
quay line while an indication stands whose enable is set. Each follows an enable write, a clearing write and
a raised flag at once. Both are deasserted after a reset until start-up loads their enables, and the quay line
after every power-up. -/
def Obligations.NoticeLines : Prop :=
  ∀ s : State,
    (s.officeLine = true ↔ ∃ i : Nat, i < 10 ∧ s.notices.flags.getLsbD i = true ∧
      s.notices.enable.getLsbD i = true) ∧
    (s.quayLine = true ↔ ∃ i : Nat, i < 26 ∧ s.notices.quayFlags.getLsbD i = true ∧
      s.notices.quayEnable.getLsbD i = true) ∧
    (∀ n : Notice, (s.raise n).officeLine =
      (s.officeLine || decide (s.notices.enable &&& n.mask ≠ 0))) ∧
    (∀ (p : PortId) (data : Word), s.owns p 0 →
      (∃ t : State, exec (.noticeEnableWrite p data) s = .next t ∧
        t.officeLine = (s.notices.flags &&& field data 0 10 != 0) ∧ t.quayLine = s.quayLine) ∧
      (∃ t : State, exec (.noticeFlagsClear p data) s = .next t ∧
        t.officeLine = (s.notices.flags &&& ~~~(field data 0 10) &&& s.notices.enable != 0) ∧
        t.quayLine = s.quayLine)) ∧
    (∀ (p : PortId) (data : Word), s.owns p 5 →
      exec (.portWrite p (portAddr 5 4) .word data) s = .next
        (({ s with notices := { s.notices with quayEnable := field data 0 26 } }).wroteWord p 5 4 data) ∧
      (∃ t : State, exec (.portWrite p (portAddr 5 4) .word data) s = .next t ∧
        t.quayLine = (s.notices.quayFlags &&& field data 0 26 != 0) ∧ t.officeLine = s.officeLine) ∧
      (∃ t : State, exec (.quayIndicationClear p data) s = .next t ∧
        t.quayLine = (s.notices.quayFlags &&& ~~~(field data 0 26) &&& s.notices.quayEnable != 0) ∧
        t.officeLine = s.officeLine)) ∧
    (s.part ≠ .unpowered → ∀ cut : Cut, ∃ t : State, exec (.reset ⟨cut, false⟩) s = .next t ∧
      t.officeLine = false ∧ t.quayLine = false) ∧
    (s.part = .unpowered → ∃ t : State, exec .powerUp s = .next t ∧ t.quayLine = false)

/-! ## Clock, power, start-up and the part's own steps -/

/-- A second tick while RUNNING moves hall time on by one second, zeroes the prescaler, counts one
second in every fitted DISPENSING bay, stalls those that reach the dispense limit, and matches the
schedule; with hold on or the crystal stopped there is none. The tick that stalls bay b is a second
tick, which is the model's choice (log 10), as are the prescaler's 0 after a tick and the count that
the crystal's stop carries (log 9). The stop sets the clock-fail flag and raises CLOCK_FAIL; the return of
the crystal sets no flag. While STARTING, in NO_PROFILE or on the backup supply a tick moves hall time
alone, with the clock-fail flag at its wrap, which raises CLOCK_FAIL under main power; a clock without any
supply has no tick, from the loss that log 34 marks. -/
def Obligations.TicksAndCrystal : Prop :=
  ∀ s : State,
    (s.part ≠ .running →
      (∀ b : Fin 6, exec (.stallTimeout b) s = .next s) ∧
      (s.clock.hold = true ∨ s.clock.crystal = false ∨ (s.part = .unpowered ∧ s.clock.backupLost = true) →
        exec .secondTick s = .next s) ∧
      (s.clock.hold = false → s.clock.crystal = true → s.part ≠ .unpowered ∨ s.clock.backupLost = false →
        let u : State := { s with clock := { s.clock with
          time := s.clock.time.next.1
          date := if s.clock.time.next.2 then s.clock.date.next else s.clock.date
          prescaler := 0
          fail := s.clock.fail || s.clock.wraps } }
        exec .secondTick s =
          .next (if s.clock.wraps = true ∧ s.part ≠ .unpowered then u.raise .clockFail else u))) ∧
    (s.part = .running →
    (s.clock.hold = false → s.clock.crystal = true → ∃ t : State, exec .secondTick s = .next t ∧
      t.clock.time = s.clock.time.next.1 ∧
      t.clock.date = (if s.clock.time.next.2 then s.clock.date.next else s.clock.date) ∧
      t.clock.prescaler = 0 ∧ t.clock.fail = (s.clock.fail || s.clock.wraps) ∧
      t.engine = s.engine ∧ t.weigh = s.weigh ∧ t.tags = s.tags ∧ t.desk = s.desk ∧
      t.shadows = s.shadows ∧
      (∀ k : Fin 4, t.clock.previous.get k = entryMatches (s.clock.schedule.get k) t.clock.time ∧
        t.clock.matched.get k =
          (s.clock.matched.get k || entryMatches (s.clock.schedule.get k) t.clock.time)) ∧
      (∀ b : Fin 6, (t.bay b).copy =
        let c := (s.bay b).copy
        if s.bayFitted b = true ∧ c.state = bayDispensing then
          { c with
            elapsed := c.elapsed + 1
            state := if s.ice.limit.toNat ≤ (c.elapsed + 1).toNat then bayStalled else bayDispensing }
        else c) ∧
      ∀ b : Fin 6, s.bayFitted b = true → (s.bay b).copy.state = bayDispensing →
        s.ice.limit.toNat ≤ ((s.bay b).copy.elapsed + 1).toNat →
        exec (.stallTimeout b) s = .next t ∧ t.noticed .stall = true) ∧
    (s.clock.hold = true ∨ s.clock.crystal = false → exec .secondTick s = .next s) ∧
    (∀ count : BitVec 15, s.clock.crystal = true → s.clock.hold = false →
      exec (.crystalStop count) s = .next (({ s with clock := { s.clock with
        crystal := false, fail := true, prescaler := count.toNat } }).raise .clockFail)) ∧
    exec .crystalRunsAgain s = .next { s with clock := { s.clock with crystal := true } })

/-- At a second tick the entries that match act in ascending order: the band of the highest matching
tariff entry becomes the current band; a NOTICE entry raises SCHEDULE; a DAY_CLOSE entry with hour and
minute given, that did not match at the tick before, in TRADING and with no request standing, forms the
DAY_CLOSE request with the engine copy's day and the new time's stamp. -/
def Obligations.ScheduleActions : Prop :=
  ∀ s : State, s.part = .running → s.clock.hold = false → s.clock.crystal = true →
    ∃ t : State, exec .secondTick s = .next t ∧
      let w (k : Fin 4) : Word := s.clock.schedule.get k
      let hit (k : Fin 4) : Prop := entryMatches (w k) s.clock.time.next.1 = true
      let tariff (k : Fin 4) : Prop := hit k ∧ (field (w k) 24 2 = 1 ∨ field (w k) 24 2 = 2)
      let forms (k : Fin 4) : Prop := hit k ∧ field (w k) 24 2 = 0 ∧ s.engine.mode = .trading ∧
        field (w k) 0 8 ≠ 255 ∧ field (w k) 8 8 ≠ 255 ∧ s.clock.previous.get k = false
      (∀ k : Fin 4, tariff k → (∀ j : Fin 4, k < j → ¬ tariff j) →
        t.ice.band = if field (w k) 24 2 = 1 then .a else .b) ∧
      ((∀ k : Fin 4, ¬ tariff k) → t.ice.band = s.ice.band) ∧
      ((∃ k : Fin 4, hit k ∧ field (w k) 24 2 = 3) → t.noticed .schedule = true) ∧
      ((∀ k : Fin 4, hit k → field (w k) 24 2 ≠ 3) → t.noticed .schedule = s.noticed .schedule) ∧
      (s.clock.request ≠ .none → t.clock.request = s.clock.request) ∧
      (s.clock.request = .none → (∀ k : Fin 4, ¬ forms k) → t.clock.request = .none) ∧
      (s.clock.request = .none → (∃ k : Fin 4, forms k) → t.clock.request = .waiting
        { kind := PostKind.dayClose.code, source := .schedule, params := ⟨s.engine.copy.day, 0, 0, 0⟩,
          tray := [], stamp := ⟨stampCount t.clock.date t.clock.time, t.clock.fail⟩ })

/-- On an empty queue a STARTING part runs its start-up and any other part idles. Power-up and RESET run
start-up into RUNNING in SETUP, or into NO_PROFILE when the ROM holds no valid profile, with an empty queue
and every scale and reader channel reset; a RESET whose start-up the next command finds still running
leaves the part STARTING. Hall time is kept; the loss of the backup supply while main power is off sets it
to 2000-01-01 with the clock-fail flag. Main power off stops the part. A reset or power off that falls
within the start-up of a power-up finds the part that the power-up gives. The model's choices here:
start-up on an empty queue and a start-up that has not ended (log 2), the engine's values before start-up
loads them (log 7), what a cut leaves (log 8), the mark of a lost backup (log 34), the crystal of an
unpowered clock (log 44), and commands out of time (log 1). -/
def Obligations.PowerAndReset : Prop :=
  ∀ s : State,
    let lost (t : State) : Prop :=
      t.clock.date = ⟨2000, 1, 1⟩ ∧ t.clock.time = ⟨0, 0, 0⟩ ∧ t.clock.hold = false ∧
        t.clock.prescaler = 16384 ∧ t.clock.fail = true ∧ t.clock.crystal = true
    let sameClock (t u : State) : Prop :=
      t.clock.date = u.clock.date ∧ t.clock.time = u.clock.time ∧ t.clock.hold = u.clock.hold ∧
        t.clock.prescaler = u.clock.prescaler ∧ t.clock.fail = u.clock.fail
    let powers (cut : Cut) : Prop :=
      cut.work = .powerUp ∨ ∃ p v point later, cut.work = .tailWithin p v ⟨.startUp, point, later⟩
    let taken (cut : Cut) : Prop := s.part ≠ .unpowered ∨ powers cut
    (s.pending = [] → step s = .next (if s.part = .starting then s.startUp else s)) ∧
    (∀ (i : Instr) (u : State),
      (i = .powerUp ∧ s.part = .unpowered ∧ u = s) ∨
        (∃ cut, i = .reset ⟨cut, true⟩ ∧ taken cut ∧ u = s.afterCut cut) →
      ∃ t : State, exec i s = .next t ∧ t.pending = s.pending ∧ t.rom = s.rom ∧
        (∀ r, s.rom = some r → r.isValid = true → t.part = .running ∧ t.profile = some r) ∧
        ((s.rom = none ∨ ∃ r, s.rom = some r ∧ r.isValid = false) →
          t.part = .noProfile ∧ t.profile = none) ∧
        t.engine.mode = .setup ∧ t.engine.queue = [] ∧ t.fault = ⟨none, false⟩ ∧
        (∀ n : Fin 8, t.scale n = ScaleChannel.reset) ∧
        (∀ r : Fin 12, t.reader r = ReaderChannel.reset) ∧
        (i ≠ .powerUp ∨ s.clock.backupLost = false → sameClock t u) ∧
        (i = .powerUp → s.clock.backupLost = true → lost t ∧ t.noticed .clockFail = true)) ∧
    (∀ cut : Cut, taken cut → ∃ t : State, exec (.reset ⟨cut, false⟩) s = .next t ∧
      t.pending = s.pending ∧ t.part = .starting ∧ t.profile = none ∧ t.engine = Engine.reset ∧
      t.store = (s.afterCut cut).store ∧ sameClock t (s.afterCut cut)) ∧
    (∀ cut : Cut, taken cut → ∃ t : State, exec (.mainPowerOff cut) s = .next t ∧
      t.pending = s.pending ∧ t.part = .unpowered ∧ t.engine = Engine.reset ∧
      t.store = (s.afterCut cut).store ∧ sameClock t (s.afterCut cut)) ∧
    (∀ n : Nat, sameClock (s.afterCut ⟨.inHand, n⟩) s ∧
      (s.part = .running → s.engine.work = .none ∨ s.engine.state = .journalWait →
        s.store.fuse = none → (s.afterCut ⟨.inHand, n⟩).store = s.store)) ∧
    (∀ cut : Cut, powers cut → s.part = .unpowered →
      (s.clock.backupLost = false → sameClock (s.afterCut cut) s) ∧
      (s.clock.backupLost = true → lost (s.afterCut cut)) ∧
      (s.afterCut cut).clock.backupLost = false) ∧
    (s.part = .unpowered → exec .backupSupplyLost s =
      .next { s with clock := { s.clock with backupLost := true } }) ∧
    (s.part = .unpowered → s.clock.backupLost = true → exec .crystalRunsAgain s = .next s ∧
      ∀ count : BitVec 15, exec (.crystalStop count) s = .next s) ∧
    (s.part = .unpowered → ∀ cut : Cut, ¬ powers cut →
      (∀ ends : Bool, exec (.reset ⟨cut, ends⟩) s = .next s) ∧ exec (.mainPowerOff cut) s = .next s) ∧
    (s.part ≠ .unpowered → exec .powerUp s = .next s)

/-- Configuration normalisation: a word out of range, or read with a parity error, takes its default and
every other word stays; a descriptor out of range, with an unassigned bit set, or struck is written not
valid, its other fields kept and the unassigned bits of its word zero;
TAIL moves to the head when it is struck or more than 256 behind; every copy then stands at its word, and
nothing outside book 0 changes. The order of the normalisation and the words a struck descriptor keeps are
the model's choice (log 22), as is TAIL's dependence on a good engine record (log 21). -/
def Obligations.StartUpNormalises : Prop :=
  ∀ s : State, s.store.fuse = none →
    let t := s.normalise
    let stored (c : ConfigWord) : Word := s.store.word (s.controlAddr c.offset)
    let now (c : ConfigWord) : Word := t.store.word (s.controlAddr c.offset)
    (∀ c : ConfigWord, now c =
      if c = .noticeEnable ∨ c = .substitute then stored c
      else if s.store.failing (s.controlAddr c.offset) 4 = true ∨
          c.takes (now .settleWindow).toNat 0 (stored c) = false then c.default
      else stored c) ∧
    (∀ slot : Fin 57,
      let a := s.tableAddr slot
      let w := s.store.word a
      let limit := (s.store.word (a + 4)).toNat
      t.store.word (a + 4) = s.store.word (a + 4) ∧
      t.store.word a =
        if s.store.failing a 8 = true ∨ field w 28 2 = 3 ∨ field w 14 12 ≠ 0 ∨ w.getLsbD 30 = true ∨
            limit = 0 ∨ 262144 < limit then
          w &&& 0x3C003FFF#32
        else w) ∧
    (let tail := s.store.word (s.controlAddr 0xA0)
      let head := s.engineRecord.head
      t.store.word (s.controlAddr 0xA0) =
        (if s.engineRecordGood = true ∧ s.engineRecord.formatState ≠ unformatted ∧
            (s.store.failing (s.controlAddr 0xA0) 4 = true ∨ 256 < (head - tail).toNat) then head
          else tail) ∧
      t.engine.tail = t.store.word (s.controlAddr 0xA0)) ∧
    t.notices.enable = field (now .noticeEnable) 0 10 ∧
    t.copies = ⟨ownerOf (now .quaysideOwner), ownerOf (now .deskOwner), now .substitute⟩ ∧
    t.engine.stepMode = (now .stepMode != 0) ∧ t.engine.feeRate = now .feeRate ∧
    (∀ k : Fin 16, t.engine.crateTypes.get k = now (.crateType k)) ∧
    t.ice.tariffA = now .tariffA ∧ t.ice.tariffB = now .tariffB ∧ t.ice.limit = now .dispenseLimit ∧
    t.weigh.settle = ⟨now .settleBand, now .settleCount, now .settleWindow, now .settleBreak,
      now .emptyThreshold⟩ ∧
    t.tags.mode = declareModeOf (now .declareMode) ∧ t.tags.clearCount = now .clearCount ∧
    t.tags.direction = field (now .gateDirection) 0 4 ∧
    (∀ k : Fin 4, t.clock.schedule.get k = now (.schedule k) ∧ t.clock.previous.get k = false) ∧
    (∀ x : Nat, x < s.controlAddr 0 ∨ s.controlAddr 4096 ≤ x → t.store.byte x = s.store.byte x)

/-- Start-up redo in a FORMATTED hall. An entry whose read meets a parity error halts the engine and
changes no byte. An entry that does not carry the head's own sequence number, or is neither PENDING nor
DONE, is left. A PENDING one has its images written, its bay images given to the fitted bays' copies, its
state made DONE and its engine record image written; a DONE one has the engine record image written alone.
JOURNAL is raised when the head advances. That the whole entry is read is the model's choice (log 16), and
that an unfitted bay keeps its copy (log 42). -/
def Obligations.StartUpRedo : Prop :=
  ∀ (s : State) (r : Profile), s.profile = some r → r.isValid = true → s.store.fuse = none →
    s.isFormatted = true →
    let t := s.startRedo
    let h := s.engine.copy.head
    let a := s.entryAddr (h.toNat % 256)
    let state := field (s.store.word a) 0 8
    (s.store.failing a 256 = true →
      t.engine.state = .halted ∧ t.engine.halt = some .redo ∧ t.store = s.store ∧
        t.noticed .halted = true) ∧
    (s.store.failing a 256 = false → s.store.word (a + 4) ≠ h ∨ (state ≠ 1 ∧ state ≠ 2) →
      t = s.granted (.inner .engine)) ∧
    (∀ (images : List Image) (d : Byte) (h' n y : Word),
      s.store.failing a 256 = false → s.store.word (a + 4) = h →
      entryImages s.store a = images ++ [.engine d h' n y] →
      (∀ i ∈ images, RecordId.engine ∉ i.targets) →
      images.Pairwise (fun i j => ∀ x ∈ i.targets, x ∉ j.targets) → state = 1 ∨ state = 2 →
      t.engine.copy = { s.engine.copy with dayState := d, head := h', nextLot := n, day := y } ∧
        (s.engineRecord = s.engine.copy → t.engineRecord = t.engine.copy) ∧
        (h' ≠ h → t.noticed .journal = true) ∧
        field (t.store.word a) 0 8 = 2 ∧
        (state = 1 → (∀ i ∈ images, ∀ w ∈ i.writes s h, t.store.word w.1 = w.2) ∧
          ∀ (b : Fin 6) (c : BayRecord), s.bayFitted b = true →
            Image.bay (BitVec.ofNat 8 b.val) c ∈ images → (t.bay b).copy = c) ∧
        (state = 2 → t.ice = s.ice ∧
          ∀ x : Nat, ¬ s.engineRange x → t.store.byte x = s.store.byte x))

/-- The bay fix-ups, and the REQUEST that waited for them. In an UNFORMATTED hall every bay record and copy
becomes IDLE and zero. Else a bay the profile does not fit is left; one whose record's read is struck is
out of service with every field zero and its record as it stands, and STALL is raised; of the others HOLD_PENDING becomes IDLE, DISPENSING
becomes STALLED with STALL raised, SETTLE_PENDING forms its ICE_SETTLE again, and every other state is
copied. That an unformatted hall's records are not read is the model's choice (log 38), and so is the copy
of a record whose state code is 5, 6 or 7, which R167 does not name (log 20). A REQUEST that waited through
start-up and meets SETUP: at a fitted bay its write is answered DONE and it is refused HALL_SETUP, whatever
the zeroed shadows would say, which the model takes from R167 over the check of R154 (log 43). One that
meets TRADING, which the other port's waiting access has opened, faults BAD_VALUE by its zeroed shadows. -/
def Obligations.BayFixUps : Prop :=
  (∀ (s : State) (r : Profile), s.profile = some r → s.store.fuse = none → s.engine.guard = [] →
    let t := s.fixBays
    (s.engine.copy.formatState = unformatted → ∀ b : Fin 6,
      (t.bay b).copy = BayRecord.zero ∧ t.bayRecord b.val = BayRecord.zero) ∧
    (s.engine.copy.formatState ≠ unformatted → ∀ b : Fin 6,
      let c := s.bayRecord b.val
      (r.bays.toNat ≤ b.val → t.bay b = s.bay b ∧ t.bayRecord b.val = c) ∧
      (b.val < r.bays.toNat → s.recordFails (.bay b.val) = true →
        t.bay b = { BayChannel.reset with outOfService := true } ∧ t.bayRecord b.val = c ∧
          t.noticed .stall = true) ∧
      (b.val < r.bays.toNat → s.recordFails (.bay b.val) = false →
        (c.state = bayHoldPending → t.bay b = { s.bay b with copy := { c with state := bayIdle } } ∧
          t.bayRecord b.val = { c with state := bayIdle }) ∧
        (c.state = bayDispensing → t.bay b = { s.bay b with copy := { c with state := bayStalled } } ∧
          t.bayRecord b.val = { c with state := bayStalled } ∧ t.noticed .stall = true) ∧
        (c.state = baySettlePending → t.bayRecord b.val = c ∧ t.bay b = { s.bay b with
          copy := c
          pending := some
            { kind := PostKind.iceSettle.code, source := .bay b,
              params := ⟨BitVec.ofNat 32 b.val, c.boat, c.delivered, 0⟩, tray := [],
              stamp := s.stamp } }) ∧
        (c.state ≠ bayHoldPending → c.state ≠ bayDispensing → c.state ≠ baySettlePending →
          t.bay b = { s.bay b with copy := c } ∧ t.bayRecord b.val = c)))) ∧
  (∀ (s : State) (p : PortId) (b : Fin 6) (v : Word), s.part = .running →
    let a : Access := ⟨portAddr 5 (0x52C + 64 * b.val), .word, some v⟩
    (s.path p).wait = .unchecked a → s.mayWrite (s.side p) 5 = true → s.bayFitted b = true →
    (s.engine.mode = .setup → s.guarded (.bay b.val) = false →
      s.checkWaiting p =
        ((((s.setWait p .free).wroteWord p 5 (0x52C + 64 * b.val) v).setBay b { s.bay b with
            status := ⟨.refused, some .hallSetup, none, none, false, 0⟩ }).indicate (bayPlace b))) ∧
    (s.engine.mode = .trading → (s.shadows.bay.get b).kg = 0 →
      s.checkWaiting p = (s.setWait p .free).faultAccess p a .badValue))

/-- A held bay trigger goes to intake once the bay's record is not guarded, with the shadows it holds, and it
leaves the bay. A DONE acts as at its own write: at a DISPENSING or STALLED bay SETTLE_PENDING with the
delivered kg, in copy and record, the ICE_SETTLE pending in the channel, the STATUS kept; at any other
REFUSED NOT_DISPENSING. A REQUEST acts as at its own write: refused HALL_SETUP in SETUP, BAY_BUSY at a bay
that is not IDLE, BUSY with twelve postings queued, else HOLD_PENDING in copy and record with the rate and
the held cost, STATUS TAKEN, and its ICE_HOLD in the queue. Its word then stands in the store and its write
is answered DONE. While the record is guarded it stays held. A due write of a bay record puts the Ice Unit's
copy into the store once the record is not guarded. The shadows a held trigger keeps and the order of
several are the model's choice (log 26), and so are these rows of their own (log 30) and the indication of
an outcome equal to the STATUS before (log 40). -/
def Obligations.BayBackgroundSteps : Prop :=
  ∀ (s : State) (b : Fin 6),
    (s.guarded (.bay b.val) = true → exec (.bayHeldTrigger b) s = .next s ∧
      exec (.bayRecordWriteBack b) s = .next s) ∧
    (s.guarded (.bay b.val) = false → (s.bay b).writeDue = true → s.store.fuse = none →
      ∃ t : State, exec (.bayRecordWriteBack b) s = .next t ∧ t.bayRecord b.val = (s.bay b).copy ∧
        (t.bay b) = { s.bay b with writeDue := false } ∧ t.engine = s.engine) ∧
    (∀ (h : HeldTrigger) (hs : List HeldTrigger), s.guarded (.bay b.val) = false →
      (s.bay b).held = h :: hs →
      let c := { s.bay b with held := hs }
      let ends (t : State) : Prop :=
        t.engine = s.engine ∧ t.tags = s.tags ∧ t.weigh = s.weigh ∧ t.desk = s.desk ∧
        (∀ d : Fin 6, d ≠ b → t.bay d = s.bay d) ∧
        (t.path h.port).answer = .done ∧ (t.path h.port).wait = .free ∧
        (s.store.fuse = none →
          t.store.word (s.base 5 + ((if h.isDone then 0x530 else 0x52C) + 64 * b.val)) = h.data)
      let refused (st : Status) : Prop :=
        ∃ t : State, exec (.bayHeldTrigger b) s = .next t ∧ ends t ∧ t.bay b = { c with status := st } ∧
          t.bayRecord b.val = s.bayRecord b.val ∧ t.notices.quayFlags.getLsbD (bayPlace b) = true
      (h.isDone = true →
        (c.copy.state = bayDispensing ∨ c.copy.state = bayStalled →
          ∃ t : State, exec (.bayHeldTrigger b) s = .next t ∧ ends t ∧
            t.bay b = { c with
              copy := { c.copy with state := baySettlePending, delivered := h.shadow.delivered }
              pending := some
                { kind := PostKind.iceSettle.code, source := .bay b,
                  params := ⟨BitVec.ofNat 32 b.val, c.copy.boat, h.shadow.delivered, 0⟩, tray := [],
                  stamp := s.stamp } } ∧
            (s.store.fuse = none → t.bayRecord b.val = { s.bayRecord b.val with
              state := baySettlePending, unsure := c.copy.unsure, delivered := h.shadow.delivered })) ∧
        (c.copy.state ≠ bayDispensing → c.copy.state ≠ bayStalled →
          refused ⟨.refused, some .notDispensing, none, none, false, 0⟩)) ∧
      (h.isDone = false →
        (s.engine.mode = .setup → refused ⟨.refused, some .hallSetup, none, none, false, 0⟩) ∧
        (s.engine.mode = .trading → c.copy.state ≠ bayIdle →
          refused ⟨.refused, some .bayBusy, none, none, false, 0⟩) ∧
        (s.engine.mode = .trading → c.copy.state = bayIdle → 12 ≤ s.engine.queue.length →
          refused ⟨.busy, none, none, none, false, 0⟩) ∧
        (s.engine.mode = .trading → c.copy.state = bayIdle → s.engine.queue.length < 12 →
          ∃ t : State, exec (.bayHeldTrigger b) s = .next (t.enqueue
              { kind := PostKind.iceHold.code, source := .bay b,
                params := ⟨BitVec.ofNat 32 b.val, h.shadow.boat, h.shadow.kg, s.tariff⟩, tray := [],
                stamp := s.stamp }) ∧ ends t ∧
            t.bay b = { c with
              status := ⟨.taken, none, none, none, false, 0⟩
              copy := { c.copy with
                state := bayHoldPending, boat := h.shadow.boat, requested := h.shadow.kg,
                rate := s.tariff, heldCost := h.shadow.kg * s.tariff, delivered := 0, elapsed := 0 } } ∧
            (s.store.fuse = none → t.bayRecord b.val = { s.bayRecord b.val with
              state := bayHoldPending, unsure := c.copy.unsure, boat := h.shadow.boat,
              requested := h.shadow.kg, rate := s.tariff, heldCost := h.shadow.kg * s.tariff,
              delivered := 0, elapsed := 0 }))))

/-- Internal admission takes the first waiting source at or after the pointer while the queue holds
fewer than sixteen postings: the posting leaves its source, the pointer moves past it, and the posting
joins the queue's tail or is taken by an IDLE engine. Nothing is admitted to a queue of sixteen. -/
def Obligations.InternalAdmissionStep : Prop :=
  ∀ s : State,
    (16 ≤ s.engine.queue.length → exec .internalAdmission s = .next s) ∧
    ((∀ i : Fin 11, s.waitingAt i = none) → exec .internalAdmission s = .next s) ∧
    (∀ (k : Fin 11) (p : Posting), s.engine.queue.length < 16 →
      (∀ j : Fin 11, j.val < k.val → s.waitingAt (s.engine.pointer + j) = none) →
      s.waitingAt (s.engine.pointer + k) = some p →
      ∃ t : State, exec .internalAdmission s = .next t ∧
        t.engine.pointer = s.engine.pointer + k + 1 ∧
        (∀ j : Fin 11, t.waitingAt j =
          if j = s.engine.pointer + k then none else s.waitingAt j) ∧
        (s.engine.state = .idle → t.engine.state = .applying ∧ t.engine.work = .taken p ∧
          t.engine.queue = s.engine.queue) ∧
        (s.engine.state ≠ .idle → t.engine.state = s.engine.state ∧ t.engine.work = s.engine.work ∧
          t.engine.queue = s.engine.queue ++ [p]))

/-! ## Postings -/

/-- JOURNAL_WAIT. A posting whose entry, of application or refusal, falls due in a full journal leaves the
engine in JOURNAL_WAIT with that entry as its work and its guard kept, the store as it was and JOURNAL_FULL
raised, where a free slot would have had the entry written; a close waits in the same way with its
withdrawal, with the refused entry of a struck step, or with its DAY_CLOSED entry. An accepted tail write that
makes room returns the engine to the state it came from, its work and guard kept. Once a slot is free, the
entry that waited is written at the head and its posting ends: the head advances by one, the guard set is empty, JOURNAL is raised and the source has its report. Of a close, a
waiting DAY_CLOSED entry ends it with the day moved on and its report; a waiting withdrawal is written and
the close goes on with the next lot slot; the refused entry of a struck step is written and the close
halts. While the engine still waits or the journal is full nothing happens. That the tail write and this
row divide the release is the model's choice (log 14), and so are the row out of time (log 1) and, in the
close, that a record's read is struck by any of its 64 bytes, the unassigned words among them (log 17). -/
def Obligations.JournalWaitAndRelease : Prop :=
  ∀ s : State,
    let u : State := { s with engine := { s.engine with work := .none } }
    let waits (i : Instr) (p : Posting) : Prop :=
      ∃ (d : Due) (g : List RecordId) (a : Arbiter), d.posting = p ∧ .engine ∈ g ∧
        exec i s = .next (({ s with
          arbiter := a
          engine := { s.engine with state := .journalWait, work := .due d, guard := g } }).raise
            .journalFull) ∧
        ∀ w : Word, s.engine.copy.head - w ≠ 256#32 →
          let v : State := { s with engine := { s.engine with tail := w } }
          exec i v = .next (v.writeDueEntry d)
    (s.isFormatted = true → s.journalFull = true → (∀ b : Fin 6, (s.bay b).writeDue = false) →
      (∀ (k : PostKind) (i : Instr) (p : Posting), k.row = some i → k ≠ .format → s.inHand k = some p →
        (k ≠ .dayClose ∨ s.engine.mode = .setup ∨ p.params.w0 = 0 ∨ p.params.w0 ≠ s.engine.copy.day) →
        waits i p) ∧
      (∀ p : Posting, s.inHand .format = some p →
        (s.engine.mode = .trading ∨ ∃ b : Fin 6, (s.bay b).copy.state ≠ bayIdle) → waits .format p) ∧
      (∀ p : Posting, s.engine.state = .applying → s.engine.work = .taken p → p.kindOf = none →
        waits .unknownKind p) ∧
      (∀ (p : Posting) (r : Profile), s.inHand .dayClose = some p → s.engine.mode = .trading →
        p.params.w0 = s.engine.copy.day → p.params.w0 ≠ 0 → s.part = .running → s.profile = some r →
        r.isValid = true → s.recordFails .engine = false →
        let c : CloseWork :=
          { source := p.source, stamp := p.stamp, day := s.engine.copy.day, lots := 0, sold := 0,
            resumed := false, reports := true }
        let closeWaits (c : CloseWork) (due : CloseDue) (g : List RecordId) (t : State) : Prop :=
          exec .dayClose s = .next t ∧ t.engine.state = .journalWait ∧ t.engine.work = .close c due ∧
            t.engine.copy = { s.engine.copy with dayState := dayClosing } ∧ t.noticed .journalFull = true ∧
            ∀ x ∈ g, x ∈ t.engine.guard
        (∀ slot : Nat, slot < 2048 →
          (∀ j : Nat, j < slot → s.recordFails (.lot j) = false ∧ (s.lot j).state ≠ lotOnFloor) →
          let l := s.lot slot
          let more : List RecordId := .account l.boat.toNat :: l.crates.map fun k => .crate k.toNat
          (s.recordFails (.lot slot) = true ∨
              (l.state = lotOnFloor ∧ s.anyFails more = true) →
            ∃ t : State, closeWaits c .struck [.engine, .lot slot] t ∧
              ∀ x : Nat, ¬ s.engineRange x → t.store.byte x = s.store.byte x) ∧
          (s.recordFails (.lot slot) = false → l.state = lotOnFloor → s.anyFails more = false →
            ∃ (t : State) (e : JournalEntry),
              closeWaits c (.withdrawal slot e) ([.engine, .lot slot] ++ more) t ∧
              e.kind = PostKind.withdraw.code ∧ e.params.w0 = l.number ∧
              ∀ x : Nat, ¬ s.engineRange x → t.store.byte x = s.store.byte x)) ∧
        (s.store.bad = [] → (∀ j : Nat, j < 2048 → (s.lot j).state ≠ lotOnFloor) →
          ∃ (t : State) (sold : Nat), closeWaits { c with sold := sold } .finish [.engine] t))) ∧
    (∀ (p : PortId) (w : Word), s.owns p 0 → s.engine.state = .journalWait →
      (w - s.engine.tail).toNat ≤ (s.engine.copy.head - s.engine.tail).toNat →
      ∃ t : State, exec (.tailWrite p ⟨w, none⟩) s = .next t ∧ t.engine.work = s.engine.work ∧
        t.engine.guard = s.engine.guard ∧
        (s.engine.copy.head - w = 256#32 → t.engine.state = .journalWait) ∧
        (s.engine.copy.head - w ≠ 256#32 → ∀ d : Due, s.engine.work = .due d →
          t.engine.state = .applying) ∧
        (s.engine.copy.head - w ≠ 256#32 → ∀ (c : CloseWork) (due : CloseDue),
          s.engine.work = .close c due → t.engine.state = .closingDay)) ∧
    (s.engine.state = .journalWait ∨ s.journalFull = true → exec .journalWaitRelease s = .next s) ∧
    (∀ d : Due, s.engine.state = .applying → s.engine.work = .due d → s.journalFull = false →
      ∃ t : State, exec .journalWaitRelease s = .next t ∧ t = u.writeDueEntry d ∧
        t.engine.copy = { s.engine.copy with head := s.engine.copy.head + 1, nextLot := d.nextLot } ∧
        t.engine.guard = [] ∧ t.noticed .journal = true ∧
        (d.posting.source = .desk → t.desk.get deskSlot =
          ⟨if d.entry.reason = none then .applied else .refused, d.entry.reason,
            some s.engine.copy.head, d.value, false, 0⟩)) ∧
    (∀ c : CloseWork, s.engine.state = .closingDay → s.engine.work = .close c .finish →
      s.journalFull = false → ∃ t : State, exec .journalWaitRelease s = .next t ∧
        t.engine.copy = { s.engine.copy with
          head := s.engine.copy.head + 1, day := dayAfter c.day, dayState := dayOpen } ∧
        t.engine.guard = [] ∧ t.noticed .dayClosed = true ∧
        (c.reports = true → c.source = .desk → t.desk.get deskSlot =
          ⟨.applied, none, some s.engine.copy.head, some c.day, false, 0⟩) ∧
        (c.reports = true → c.source = .schedule → t.clock.request = .none)) ∧
    (∀ (c : CloseWork) (slot : Nat) (e : JournalEntry), s.engine.state = .closingDay →
      s.engine.work = .close c (.withdrawal slot e) → s.journalFull = false →
      exec .journalWaitRelease s = .next
          ((u.writeWithdrawal e).withdrawLots { c with lots := c.lots + 1 } undisturbed (2047 - slot)) ∧
        (u.writeWithdrawal e).engine.copy =
          { s.engine.copy with head := s.engine.copy.head + 1 } ∧
        (u.writeWithdrawal e).engine.guard = [.engine]) ∧
    (∀ c : CloseWork, s.engine.state = .closingDay → s.engine.work = .close c .struck →
      s.journalFull = false → ∃ t : State, exec .journalWaitRelease s = .next t ∧
        t.engine.state = .halted ∧
        t.engine.halt = some (.close { c with lots := 0, sold := 0, resumed := true }) ∧
        t.engine.copy = { s.engine.copy with head := s.engine.copy.head + 1 } ∧
        t.engine.guard = [] ∧ t.noticed .journal = true ∧ t.noticed .halted = true ∧
        t.desk = s.desk ∧ t.clock = s.clock)

/-- The account postings, when their checks pass, change the fields their rules name and no other. TRANSFER
moves an amount from one account to another; POOL takes no part, and HALL and CASH are exempt from the
debit check. -/
def Obligations.AccountPostingsApply : Prop :=
  ∀ (s : State) (p : Posting),
    (let n := p.params.w0.toNat
    let a := s.account n
    let l := s.engine.copy.nextLot
    2 < n → n ≤ 255 → s.readable [.account n] →
    (s.applies .openAccount p → (p.params.w1 = 1 ∨ p.params.w1 = 2) →
      p.params.w2.toNat ≤ 2147483647 → (a.kind = kindUnused ∨ a.state = accountClosed) →
      completesWith .openAccount s p [.account (BitVec.ofNat 8 n)
        { kind := if p.params.w1 = 1 then kindBoat else kindBuyer, state := accountOpen,
          credit := p.params.w2, day := s.engine.copy.day, balance := 0, holds := 0, crates := 0,
          floor := 0, landed := 0, sales := 0, ice := 0 }] l none) ∧
    (s.applies .setCredit p → p.params.w1.toNat ≤ 2147483647 → a.trades →
      completesWith .setCredit s p [.account (BitVec.ofNat 8 n) { a with credit := p.params.w1 }] l none) ∧
    (s.applies .freeze p → a.trades →
      completesWith .freeze s p [.account (BitVec.ofNat 8 n) { a with state := accountFrozen }] l none) ∧
    (s.applies .thaw p → a.trades →
      completesWith .thaw s p [.account (BitVec.ofNat 8 n) { a with state := accountOpen }] l none) ∧
    (s.applies .closeAccount p → a.trades → a.balance = 0 → a.holds = 0 → a.crates = 0 → a.floor = 0 →
      completesWith .closeAccount s p [.account (BitVec.ofNat 8 n) { a with state := accountClosed }] l
        none)) ∧
    (let f := p.params.w0.toNat
    let t := p.params.w1.toNat
    let amount : Int := p.params.w2.toNat
    let a := s.account f
    let b := s.account t
    s.applies .transfer p → s.readable [.account f, .account t] →
    f ≤ 255 → t ≤ 255 → 1 ≤ amount → amount ≤ 2147483647 → f ≠ 1 → t ≠ 1 → f ≠ t →
    (f = 0 ∨ f = 2 ∨ (a.kind ≠ kindUnused ∧ a.state = accountOpen ∧
      amount ≤ a.balance.toInt + a.credit.toInt - a.holds.toInt)) →
    b.trades → a.takes (-amount) → b.takes amount →
    completesWith .transfer s p
      (twoAccounts f { a with balance := a.balance - p.params.w2 }
        t { b with balance := b.balance + p.params.w2 }) s.engine.copy.nextLot none)

/-- LAND makes a lot of the next number in its slot, puts the tray's crates on it, and counts the lot and
its net weight at the boat. -/
def Obligations.LandApplies : Prop :=
  ∀ (s : State) (p : Posting),
    let number := s.engine.copy.nextLot
    let slot := number.toNat % 2048
    let boat := landBoat p
    let a := s.account boat.toNat
    let ks := p.tray.map tagCrate
    let tare := (p.tray.map fun code => s.typeTare (s.crate (tagCrate code).toNat).type).sum
    let net := landGross p - tare
    s.applies .land p →
    s.readable ([.account boat.toNat, .lot slot] ++ ks.map fun k => .crate k.toNat) →
    a.kind = kindBoat → (a.state = accountOpen ∨ a.state = accountFrozen) →
    (∀ code ∈ p.tray, let c := s.crate (tagCrate code).toNat
      c.state = crateLent ∧ c.serial = tagSerial code ∧ c.holder = boat) →
    tare < landGross p → (s.lot slot).state ≠ lotOnFloor → a.landed.toNat + net ≤ 4294967295 →
    completesWith .land s p
      ([.account boat { a with floor := a.floor + 1, landed := a.landed + BitVec.ofNat 32 net },
        lotImage slot 0xFFFF
          { number := number, state := lotOnFloor, reason := 0, grade := (landGrade p).setWidth 3,
            scale := scaleOf p.source, count := BitVec.ofNat 5 ks.length, landUnsure := p.stamp.unsure,
            species := landSpecies p, boat := boat, gross := BitVec.ofNat 19 (landGross p),
            saleUnsure := false, buyer := 0, net := BitVec.ofNat 19 net, price := 0,
            tare := BitVec.ofNat 15 tare, value := 0, fee := 0, landing := p.stamp.count, sale := 0,
            places := (ks ++ List.replicate 16 0#12).take 16 }] ++
        (if ks = [] then [] else [.crates ks crateOnLot boat none none]))
      (if number = 0xFFFFFFFF then 1 else number + 1) (some number)

/-- SELL moves the value and the deposits from the buyer, the fee to HALL and the rest to the boat, and
hands the crates over. WITHDRAW takes the lot off the floor and gives its crates back to the boat. -/
def Obligations.LotPostingsApply : Prop :=
  ∀ (s : State) (p : Posting),
    let number := p.params.w0
    let slot := number.toNat % 2048
    let l := s.lot slot
    let boat := s.account l.boat.toNat
    let crates : List RecordId := l.crates.map fun k => .crate k.toNat
    number ≠ 0 → l.number = number → l.state = lotOnFloor →
    (s.applies .withdraw p → s.readable (.lot slot :: .account l.boat.toNat :: crates) →
      completesWith .withdraw s p
        ([.account l.boat { boat with floor := boat.floor - 1 },
          lotImage slot 0x0002 { l with state := lotWithdrawn, reason := withdrawnByDesk }] ++
          (if l.crates = [] then [] else [.crates l.crates crateLent l.boat none none]))
        s.engine.copy.nextLot (some number)) ∧
    (let b := p.params.w1.toNat
      let buyer := s.account b
      let hall := s.account 0
      let price := p.params.w2.toNat
      let value := l.net.toNat * price / 100
      let fee := value * s.engine.feeRate.toNat / 1000
      let deposits := (l.crates.map fun k => (s.crate k.toNat).deposit.toNat).sum
      let n : BitVec 13 := BitVec.ofNat 13 l.crates.length
      s.applies .sell p →
      s.readable ([.lot slot, .account b, .account 0, .account l.boat.toNat] ++ crates) →
      b ≤ 255 → buyer.kind = kindBuyer → buyer.state = accountOpen → 1 ≤ price → price ≤ 100000 →
      ((value + deposits : Nat) : Int) ≤
        buyer.balance.toInt + buyer.credit.toInt - buyer.holds.toInt →
      buyer.takes (-((value + deposits : Nat) : Int)) → boat.takes (value - fee + deposits) →
      hall.takes fee → buyer.sales.toNat + value ≤ 2147483647 →
      boat.sales.toNat + value ≤ 2147483647 → boat.kind = kindBoat → hall.kind = kindHall →
      completesWith .sell s p
        ([.account 0 { hall with balance := hall.balance + BitVec.ofNat 32 fee }] ++
          twoAccounts b
            { buyer with
              balance := buyer.balance - BitVec.ofNat 32 (value + deposits)
              crates := buyer.crates + n, sales := buyer.sales + BitVec.ofNat 32 value }
            l.boat.toNat
            { boat with
              balance := boat.balance + BitVec.ofInt 32 (value - fee + deposits)
              crates := boat.crates - n, floor := boat.floor - 1,
              sales := boat.sales + BitVec.ofNat 32 value } ++
          [lotImage slot 0x0176 { l with
            state := lotSold, buyer := BitVec.ofNat 8 b, price := BitVec.ofNat 17 price,
            value := BitVec.ofNat 32 value, fee := BitVec.ofNat 32 fee, sale := p.stamp.count,
            saleUnsure := p.stamp.unsure }] ++
          (if l.crates = [] then []
            else [.crates l.crates crateSold (BitVec.ofNat 8 b) none none]))
        s.engine.copy.nextLot (some number))

/-- LEND and RETURN move a crate and its deposit between the holder and POOL; REGISTER_CRATE,
RETIRE_CRATE and WRITE_OFF change its record, and WRITE_OFF moves its deposit from POOL to HALL. -/
def Obligations.CratePostingsApply : Prop :=
  ∀ (s : State) (p : Posting),
    let l := s.engine.copy.nextLot
    let hall := s.account 0
    let pool := s.account 1
    (let k := tagCrate p.params.w0
      let c := s.crate k.toNat
      p.params.w0 ≠ 0 → c.serial = tagSerial p.params.w0 →
      (let h := p.params.w1.toNat
        let a := s.account h
        let d := s.typeDeposit c.type
        s.applies .lend p → s.readable [.crate k.toNat, .account 1, .account h] →
        c.state = crateInHall → 1 < h → h ≤ 255 → (a.kind = kindBoat ∨ a.kind = kindBuyer) →
        a.state = accountOpen → (h = 2 ∨ (d.toNat : Int) ≤ a.balance.toInt + a.credit.toInt - a.holds.toInt) →
        a.takes (-d.toNat) → pool.takes d.toNat →
        completesWith .lend s p
          [.account 1 { pool with balance := pool.balance + d.setWidth 32 },
            .account (BitVec.ofNat 8 h) { a with
              balance := a.balance - d.setWidth 32, crates := a.crates + 1 },
            .crates [k] crateLent (BitVec.ofNat 8 h) (some d) none] l none) ∧
      (let h := c.holder
        let a := s.account h.toNat
        let d := c.deposit
        s.applies .returnCrate p → s.readable [.crate k.toNat, .account 1, .account h.toNat] →
        1 < h.toNat → (c.state = crateLent ∨ c.state = crateSold) →
        a.takes d.toNat → pool.takes (-d.toNat) →
        completesWith .returnCrate s p
          [.account 1 { pool with balance := pool.balance - d },
            .account h { a with balance := a.balance + d, crates := a.crates - 1 },
            .crates [k] crateInHall 0 (some 0) none] l none) ∧
      (s.applies .returnCrate p → s.readable [.crate k.toNat, .account 1] → c.state = crateLost →
        completesWith .returnCrate s p [.crates [k] crateInHall 0 (some 0) none] l none)) ∧
    (let k := p.params.w0.toNat
      let c := s.crate k
      k ≤ 4095 → s.readable [.crate k] →
      (s.applies .registerCrate p → c.state = crateRetired → 1 ≤ p.params.w1.toNat →
        p.params.w1.toNat ≤ 1048575 → p.params.w2.toNat ≤ 15 →
        completesWith .registerCrate s p
          [.crates [BitVec.ofNat 12 k] crateInHall 0 (some 0)
            (some (BitVec.ofNat 4 p.params.w2.toNat ++ BitVec.ofNat 20 p.params.w1.toNat))] l none) ∧
      (s.applies .retireCrate p → (c.state = crateInHall ∨ c.state = crateLost) →
        completesWith .retireCrate s p [.crates [BitVec.ofNat 12 k] crateRetired 0 (some 0) none] l
          none) ∧
      (let h := c.holder
        let a := s.account h.toNat
        let d := c.deposit
        s.applies .writeOff p → s.readable [.account 0, .account 1, .account h.toNat] →
        1 < h.toNat → (c.state = crateLent ∨ c.state = crateSold) →
        hall.takes d.toNat → pool.takes (-d.toNat) →
        completesWith .writeOff s p
          [.account 0 { hall with balance := hall.balance + d },
            .account 1 { pool with balance := pool.balance - d },
            .account h { a with crates := a.crates - 1 },
            .crates [BitVec.ofNat 12 k] crateLost 0 (some 0) none] l none))

/-- ICE_HOLD reserves the cost at the boat and starts the bay; ICE_SETTLE and BAY_RELEASE settle the
delivered quantity at the bay's rate, release the hold, and free the bay. -/
def Obligations.IcePostingsApply : Prop :=
  ∀ (s : State) (p : Posting),
    let b := p.params.w0.toNat
    let r := s.bayRecord b
    let l := s.engine.copy.nextLot
    let hall := s.account 0
    b ≤ 5 →
    (let n := p.params.w1.toNat
      let a := s.account n
      let cost := p.params.w2.toNat * p.params.w3.toNat
      s.applies .iceHold p → n ≤ 255 → s.readable [.bay b, .account n] → a.kind = kindBoat →
      a.state = accountOpen →
      (cost : Int) ≤ a.balance.toInt + a.credit.toInt - a.holds.toInt →
      a.holds.toNat + cost ≤ 2147483647 →
      completesWith .iceHold s p
        [.account (BitVec.ofNat 8 n) { a with holds := a.holds + BitVec.ofNat 32 cost },
          .bay (BitVec.ofNat 8 b)
            { r with
              state := bayDispensing, boat := p.params.w1, requested := p.params.w2,
              rate := p.params.w3, heldCost := p.params.w2 * p.params.w3, delivered := 0,
              start := p.stamp.count, unsure := p.stamp.unsure, elapsed := 0 }] l none) ∧
    (∀ (i : Instr) (n : Nat) (delivered : Word),
      (i = .iceSettle ∧ s.applies .iceSettle p ∧ r.state = baySettlePending ∧
        n = p.params.w1.toNat ∧ delivered = p.params.w2) ∨
      (i = .bayRelease ∧ s.applies .bayRelease p ∧ r.state = bayStalled ∧
        (∃ f, s.profile = some f ∧ b < f.bays.toNat) ∧ n = r.boat.toNat ∧
        delivered = p.params.w1 ∧ delivered.toNat ≤ 6000) →
      let a := s.account n
      let cost := delivered.toNat * r.rate.toNat
      0 < n → n ≤ 255 → s.readable [.bay b, .account 0, .account n] →
      a.takes (-(cost : Nat)) → hall.takes cost → r.heldCost.toNat ≤ a.holds.toNat →
      a.holds.toNat ≤ 2147483647 → a.ice.toNat + delivered.toNat ≤ 4294967295 →
      completesWith i s p
        [.account 0 { hall with balance := hall.balance + BitVec.ofNat 32 cost },
          .account (BitVec.ofNat 8 n) { a with
            balance := a.balance - BitVec.ofNat 32 cost, holds := a.holds - r.heldCost,
            ice := a.ice + delivered },
          .bay (BitVec.ofNat 8 b) { r with state := bayIdle, delivered := delivered }] l none)

/-- FORMAT in SETUP with every bay IDLE leaves an empty hall: the special accounts OPEN for day 1, every
other account, lot and crate record zero, the journal with its one entry in slot 0, the engine record
and the tail as step 7 and step 9 give them. The engine record in the store agrees with the engine's copy
when it did before, and it is good when no byte of it was bad before: FORMAT writes only the words whose
fields change. A tail write made while FORMAT runs is checked against the engine's copies as they stand:
before step 7 against the old ones, and step 7 then makes the tail 0; between steps 7 and 8 with head 0, so
that 0 alone is accepted; after step 8 with head 1, so that 0 and 1 are. One that is not accepted faults
BAD_VALUE. That a tail write carries the FORMAT it falls within is the model's choice (log 49). -/
def Obligations.FormatBuildsEmptyHall : Prop :=
  ∀ (s : State) (p : Posting) (r : Profile), s.inHand .format = some p → s.engine.mode = .setup →
    (∀ b : Fin 6, (s.bay b).copy.state = bayIdle) → s.profile = some r → r.isValid = true →
    s.store.fuse = none →
    (∃ t : State, exec .format s = .next t ∧ t.engine.copy = ⟨1, 1, 1, dayOpen, formatted⟩ ∧
      (s.engineRecord = s.engine.copy → t.engineRecord = t.engine.copy) ∧
      (s.store.failing s.engineAddr 16 = false → t.engineRecordGood = true) ∧ t.engine.tail = 0 ∧
      t.store.word (t.controlAddr 0xA0) = 0 ∧ t.engine.guard = [] ∧
      t.desk.get deskSlot = ⟨.applied, none, some 0, none, false, 0⟩ ∧
      (∀ b : Fin 6, (t.bay b).copy = BayRecord.zero ∧ t.bayRecord b.val = BayRecord.zero) ∧
      (∀ n : Nat, n < 256 → t.account n =
        { kind := if n = 0 then kindHall else if n = 1 then kindPool else if n = 2 then kindCash
            else kindUnused
          state := if n ≤ 2 then accountOpen else 0
          day := if n ≤ 2 then 1 else 0
          credit := 0, balance := 0, holds := 0, crates := 0, floor := 0, landed := 0, sales := 0,
          ice := 0 }) ∧
      (∀ slot : Nat, slot < 2048 → t.store.words (t.lotAddr slot) 16 = List.replicate 16 0) ∧
      (∀ k : Nat, k < 4096 → t.store.words (t.crateAddr k) 4 = List.replicate 4 0) ∧
      (∀ slot : Nat, slot < 256 → t.store.word (t.entryAddr slot) = if slot = 0 then 2 else 0)) ∧
    (∀ (o : PortId) (w : Word), s.idlePort o → s.side o = .office →
      let leaves (point : RunPoint) (tail : Word) (answer : Answer) : Prop :=
        ∃ t : State, exec (.tailWrite o ⟨w, some ⟨.inHand, point, []⟩⟩) s = .next t ∧
          t.engine.copy = ⟨1, 1, 1, dayOpen, formatted⟩ ∧ t.engine.tail = tail ∧
          t.store.word (t.controlAddr 0xA0) = tail ∧ (t.path o).answer = answer
      leaves .before7 0
        (if (w - s.engine.tail).toNat ≤ (s.engine.copy.head - s.engine.tail).toNat then .done
          else .fault .badValue) ∧
      leaves .before8 0 (if w = 0 then .done else .fault .badValue) ∧
      leaves .before9 (if w = 1 then 1 else 0) (if w.toNat ≤ 1 then .done else .fault .badValue))

/-- A DAY_CLOSE of the engine copy's day with room in the journal for its entries, and no parity error,
withdraws every lot on the floor, rolls every account in use that stands at that day, and opens the next
day: one entry for each withdrawal and one DAY_CLOSED entry. A tail write made when the close has withdrawn k
lots is checked against the head as it then stands: accepted, it makes room for the entries that follow, so
that a close of more entries than the journal had slots for ends without JOURNAL_WAIT; not accepted, it
faults BAD_VALUE and the close goes on. That a tail write carries the close it falls within is the model's
choice (log 49). -/
def Obligations.DayCloseOpensNextDay : Prop :=
  ∀ (s : State) (p : Posting) (r : Profile),
    let day := s.engine.copy.day
    let lots := (List.range 2048).countP fun slot => (s.lot slot).state == lotOnFloor
    s.applies .dayClose p → p.params.w0 = day → day ≠ 0 → s.profile = some r → r.isValid = true →
    s.store.fuse = none → s.store.bad = [] →
    let opened : EngineRecord :=
      { s.engine.copy with
        head := s.engine.copy.head + BitVec.ofNat 32 (lots + 1), day := dayAfter day, dayState := dayOpen }
    ((s.engine.copy.head - s.engine.tail).toNat + lots < 256 →
    ∃ t : State, exec .dayClose s = .next t ∧
      t.engine.copy = opened ∧
      t.engine.guard = [] ∧ t.noticed .dayClosed = true ∧
      (∀ slot : Nat, slot < 2048 → (t.lot slot).state =
        if (s.lot slot).state = lotOnFloor then lotWithdrawn else (s.lot slot).state) ∧
      (∀ n : Nat, n < 256 →
        let a := s.account n
        (a.kind ≠ kindUnused ∧ a.day = day →
          (t.account n).day = dayAfter day ∧ (t.account n).landed = 0 ∧ (t.account n).sales = 0 ∧
            (t.account n).ice = 0 ∧ (t.account n).balance = a.balance ∧
            t.store.word (t.accountAddr n + 0x14) = a.balance) ∧
        (a.kind = kindUnused ∨ a.day ≠ day →
          (t.account n).day = a.day ∧ (t.account n).landed = a.landed ∧
            (t.account n).sales = a.sales ∧ (t.account n).ice = a.ice ∧
            (t.account n).balance = a.balance))) ∧
    (∀ (o : PortId) (w : Word) (k : Nat), s.idlePort o → s.side o = .office → k ≤ lots →
      (s.engine.copy.head - s.engine.tail).toNat + k ≤ 256 →
      let head := s.engine.copy.head + BitVec.ofNat 32 k
      let leaves (tail : Word) (answer : Answer) : Prop :=
        ∃ t : State, exec (.tailWrite o ⟨w, some ⟨.inHand, .withdrawn k, []⟩⟩) s = .next t ∧
          t.engine.copy = opened ∧ t.engine.tail = tail ∧ (t.path o).answer = answer ∧
          t.noticed .journalFull = s.noticed .journalFull ∧ t.noticed .dayClosed = true
      ((w - s.engine.tail).toNat ≤ (head - s.engine.tail).toNat →
        (head - w).toNat + (lots - k) < 256 → leaves w .done) ∧
      ((head - s.engine.tail).toNat < (w - s.engine.tail).toNat →
        (s.engine.copy.head - s.engine.tail).toNat + lots < 256 →
        leaves s.engine.tail (.fault .badValue)))

/-- The common checks. In a hall that is not FORMATTED a posting is refused HALL_SETUP, or UNKNOWN_KIND when
its source may not submit its kind, without an entry and without a sequence number. In a FORMATTED hall an
unknown kind is refused UNKNOWN_KIND with one entry; a parity error on the engine record refuses
STORE_ERROR and halts; SETUP refuses every kind but twelve with HALL_SETUP, and TRADING refuses FORMAT
alone with HALL_TRADING. FORMAT with a bay that is not IDLE is refused BAY_BUSY; DAY_CLOSE of day 0 is
refused BAD_VALUE and of another day DAY_MISMATCH. -/
def Obligations.CommonChecksRefuse : Prop :=
  ∀ (s : State) (p : Posting),
    (s.engine.state = .applying → s.engine.work = .taken p → p.kindOf = none →
      (s.isFormatted = true → s.journalFull = false → s.readable [] →
        exec .unknownKind s = .next (s.writeDueEntry
          { posting := p
            entry := { kind := p.kind, source := p.source, reason := some .unknownKind, stamp := p.stamp,
                       params := p.params, tray := p.tray, images := [] }
            nextLot := s.engine.copy.nextLot, value := none, halts := false })) ∧
      (s.isFormatted = false → ((∃ r, p.source = .rostrum r) ∨ p.source = .desk) →
        ∃ t : State, exec .unknownKind s = .next t ∧ t.store = s.store ∧
        t.engine.copy = s.engine.copy ∧
        (p.source = .desk → t.desk.get deskSlot =
          ⟨.refused, some .unknownKind, none, none, false, 0⟩))) ∧
    (∀ k : PostKind,
      modeRefusal .setup k = (if k ∈ [PostKind.iceSettle, .bayRelease, .format, .openAccount, .setCredit,
        .freeze, .thaw, .closeAccount, .transfer, .registerCrate, .retireCrate, .writeOff] then none
        else some .hallSetup) ∧
      modeRefusal .trading k = if k = .format then some .hallTrading else none) ∧
    (∀ (k : PostKind) (i : Instr), k.row = some i → k ≠ .format → s.inHand k = some p →
      (s.isFormatted = false → ∃ t : State, exec i s = .next t ∧ t = s.refuseBare p .hallSetup ∧
        t.engine.copy = s.engine.copy ∧
        (p.source = .desk → t.store = s.store ∧ t.desk.get deskSlot =
          ⟨.refused, some .hallSetup, none, none, false, 0⟩)) ∧
      (s.isFormatted = true → s.ready → s.recordFails .engine = true → refusesWith i s p .storeError) ∧
      (∀ r : Reason, s.isFormatted = true → s.ready → s.store.bad = [] →
        modeRefusal s.engine.mode k = some r → refusesWith i s p r)) ∧
    (s.inHand .format = some p → s.isFormatted = true → s.ready →
      (s.engine.mode = .trading → refusesWith .format s p .hallTrading) ∧
      (s.engine.mode = .setup → (∃ b : Fin 6, (s.bay b).copy.state ≠ bayIdle) →
        refusesWith .format s p .bayBusy)) ∧
    (s.applies .dayClose p → s.store.bad = [] →
      (p.params.w0 = 0 → refusesWith .dayClose s p .badValue) ∧
      (p.params.w0 ≠ 0 → p.params.w0 ≠ s.engine.copy.day → refusesWith .dayClose s p .dayMismatch))

/-- The refusals of the account postings and of TRANSFER, each with the first of its checks, in the order of
its rule, that fails. -/
def Obligations.AccountPostingsRefused : Prop :=
  ∀ (s : State) (p : Posting), s.store.bad = [] →
    let n := p.params.w0.toNat
    let a := s.account n
    (s.applies .openAccount p → refusesByFirst .openAccount s p
      [ (decide (n ≤ 255), .badValue), (decide (2 < n), .wrongKind),
        (decide (p.params.w1 = 1 ∨ p.params.w1 = 2), .badValue),
        (decide (p.params.w2.toNat ≤ 2147483647), .badValue),
        (decide (a.kind = kindUnused ∨ a.state = accountClosed), .notEmpty) ]) ∧
    (s.applies .setCredit p → refusesByFirst .setCredit s p
      [ (decide (n ≤ 255), .badValue), (decide (p.params.w1.toNat ≤ 2147483647), .badValue),
        (decide (2 < n), .wrongKind), (decide a.trades, .noAccount) ]) ∧
    (s.applies .freeze p → refusesByFirst .freeze s p
      [ (decide (n ≤ 255), .badValue), (decide (2 < n), .wrongKind), (decide a.trades, .noAccount) ]) ∧
    (s.applies .thaw p → refusesByFirst .thaw s p
      [ (decide (n ≤ 255), .badValue), (decide (2 < n), .wrongKind), (decide a.trades, .noAccount) ]) ∧
    (s.applies .closeAccount p → refusesByFirst .closeAccount s p
      [ (decide (n ≤ 255), .badValue), (decide (2 < n), .wrongKind), (decide a.trades, .noAccount),
        (decide (a.balance = 0 ∧ a.holds = 0 ∧ a.crates = 0 ∧ a.floor = 0), .notEmpty) ]) ∧
    (let t := p.params.w1.toNat
      let amount : Int := p.params.w2.toNat
      let b := s.account t
      s.applies .transfer p → refusesByFirst .transfer s p
        [ (decide (n ≤ 255 ∧ t ≤ 255 ∧ 1 ≤ amount ∧ amount ≤ 2147483647), .badValue),
          (decide (n ≠ 1 ∧ t ≠ 1), .wrongKind), (decide (n ≠ t), .badValue),
          (decide (n = 0 ∨ n = 2 ∨ a.trades), .noAccount),
          (decide (n = 0 ∨ n = 2 ∨ a.state = accountOpen), .frozen),
          (decide b.trades, .noAccount),
          (decide (n = 0 ∨ n = 2 ∨ amount ≤ a.balance.toInt + a.credit.toInt - a.holds.toInt), .credit),
          (decide (a.takes (-amount) ∧ b.takes amount), .range) ])

/-- The refusals of LAND, SELL and WITHDRAW, each with the first of its checks, in the order of its rule,
that fails; LAND's two checks of each crate come in tray order. -/
def Obligations.LotPostingsRefused : Prop :=
  ∀ (s : State) (p : Posting), s.store.bad = [] →
    (let slot := s.engine.copy.nextLot.toNat % 2048
      let boat := landBoat p
      let a := s.account boat.toNat
      let tare := (p.tray.map fun code => s.typeTare (s.crate (tagCrate code).toNat).type).sum
      s.applies .land p → refusesByFirst .land s p
        ([ (decide (a.kind ≠ kindUnused), .noAccount), (decide (a.kind = kindBoat), .wrongKind),
           (decide (a.state = accountOpen ∨ a.state = accountFrozen), .noAccount) ] ++
         (p.tray.flatMap fun code =>
           let c := s.crate (tagCrate code).toNat
           [ (decide (c.state ≠ crateRetired ∧ c.serial = tagSerial code), .badTag),
             (decide (c.state = crateLent ∧ c.holder = boat), .crateHolder) ]) ++
         [ (decide (tare < landGross p), .netNegative),
           (decide ((s.lot slot).state ≠ lotOnFloor), .lotsFull),
           (decide (a.landed.toNat + (landGross p - tare) ≤ 4294967295), .range) ])) ∧
    (let number := p.params.w0
      let l := s.lot (number.toNat % 2048)
      let found : List (Bool × Reason) :=
        [ (decide (number ≠ 0), .badValue),
          (decide (l.state ≠ lotFree ∧ l.number = number), .noLot),
          (decide (l.state = lotOnFloor), .lotState) ]
      let b := p.params.w1.toNat
      let buyer := s.account b
      let boat := s.account l.boat.toNat
      let price := p.params.w2.toNat
      let value := l.net.toNat * price / 100
      let fee := value * s.engine.feeRate.toNat / 1000
      let deposits := (l.crates.map fun k => (s.crate k.toNat).deposit.toNat).sum
      (s.applies .withdraw p → refusesByFirst .withdraw s p found) ∧
      (s.applies .sell p → refusesByFirst .sell s p
        (found ++
          [ (decide (b ≤ 255), .badValue), (decide (buyer.kind ≠ kindUnused), .noAccount),
            (decide (buyer.kind = kindBuyer), .wrongKind),
            (decide (buyer.state ≠ accountClosed), .noAccount),
            (decide (buyer.state = accountOpen), .frozen),
            (decide (1 ≤ price ∧ price ≤ 100000), .badValue),
            (decide (b = 0 ∨ b = 2 ∨ ((value + deposits : Nat) : Int) ≤
              buyer.balance.toInt + buyer.credit.toInt - buyer.holds.toInt), .credit),
            (decide (buyer.takes (-((value + deposits : Nat) : Int)) ∧
              boat.takes (value - fee + deposits) ∧ (s.account 0).takes fee ∧
              buyer.sales.toNat + value ≤ 2147483647 ∧ boat.sales.toNat + value ≤ 2147483647),
              .range) ])))

/-- The refusals of the crate postings, each with the first of its checks, in the order of its rule, that
fails; a tag code fails as BAD_TAG when it is 0, when its crate is RETIRED, or when its serial differs. -/
def Obligations.CratePostingsRefused : Prop :=
  ∀ (s : State) (p : Posting), s.store.bad = [] →
    let pool := s.account 1
    (let code := p.params.w0
      let c := s.crate (tagCrate code).toNat
      let tag : Bool := decide (code ≠ 0 ∧ c.state ≠ crateRetired ∧ c.serial = tagSerial code)
      (let h := p.params.w1.toNat
        let a := s.account h
        let d : Int := (s.typeDeposit c.type).toNat
        s.applies .lend p → refusesByFirst .lend s p
          [ (tag, .badTag), (decide (c.state = crateInHall), .crateState),
            (decide (h ≤ 255), .badValue), (decide (a.kind ≠ kindUnused), .noAccount),
            (decide (a.kind = kindBoat ∨ a.kind = kindBuyer), .wrongKind),
            (decide (a.state ≠ accountClosed), .noAccount),
            (decide (a.state = accountOpen), .frozen),
            (decide (h = 0 ∨ h = 2 ∨ d ≤ a.balance.toInt + a.credit.toInt - a.holds.toInt), .credit),
            (decide (a.takes (-d) ∧ pool.takes d), .range) ]) ∧
      (let a := s.account c.holder.toNat
        let d : Int := c.deposit.toNat
        s.applies .returnCrate p → refusesByFirst .returnCrate s p
          [ (tag, .badTag), (decide (c.state = crateLent ∨ c.state = crateSold ∨ c.state = crateLost), .crateState),
            (decide (c.state = crateLost ∨ (a.takes d ∧ pool.takes (-d))), .range) ])) ∧
    (let k := p.params.w0.toNat
      let c := s.crate k
      (s.applies .registerCrate p → refusesByFirst .registerCrate s p
        [ (decide (k ≤ 4095), .badValue),
          (decide (1 ≤ p.params.w1.toNat ∧ p.params.w1.toNat ≤ 1048575), .badValue),
          (decide (p.params.w2.toNat ≤ 15), .badValue),
          (decide (c.state = crateRetired), .crateState) ]) ∧
      (s.applies .retireCrate p → refusesByFirst .retireCrate s p
        [ (decide (k ≤ 4095), .badValue),
          (decide (c.state = crateInHall ∨ c.state = crateLost), .crateState) ]) ∧
      (s.applies .writeOff p → refusesByFirst .writeOff s p
        [ (decide (k ≤ 4095), .badValue),
          (decide (c.state = crateLent ∨ c.state = crateSold), .crateState),
          (decide ((s.account 0).takes c.deposit.toNat ∧ pool.takes (-(c.deposit.toNat : Int))),
            .range) ]))

/-- The refusals of ICE_HOLD, ICE_SETTLE and BAY_RELEASE, each with the first of its checks, in the order of
its rule, that fails. That a boat is named by the low eight bits of its word is the model's choice
(log 20). -/
def Obligations.IcePostingsRefused : Prop :=
  ∀ (s : State) (p : Posting), s.store.bad = [] →
    let b := p.params.w0.toNat
    let r := s.bayRecord b
    let hall := s.account 0
    (let n := p.params.w1.toNat % 256
      let a := s.account n
      let cost := p.params.w2.toNat * p.params.w3.toNat
      s.applies .iceHold p → refusesByFirst .iceHold s p
        [ (decide (a.kind ≠ kindUnused), .noAccount), (decide (a.kind = kindBoat), .wrongKind),
          (decide (a.state ≠ accountClosed), .noAccount), (decide (a.state = accountOpen), .frozen),
          (decide (n = 0 ∨ n = 2 ∨
            (cost : Int) ≤ a.balance.toInt + a.credit.toInt - a.holds.toInt), .credit),
          (decide (a.holds.toNat + cost ≤ 2147483647), .range) ]) ∧
    (s.applies .iceSettle p → refusesByFirst .iceSettle s p
      [ (decide (r.state = baySettlePending), .notDispensing),
        (decide ((s.account (p.params.w1.toNat % 256)).settles hall r p.params.w2), .range) ]) ∧
    (s.applies .bayRelease p → ∀ f : Profile, s.profile = some f → refusesByFirst .bayRelease s p
      [ (decide (b ≤ 5), .badValue), (decide (p.params.w1.toNat ≤ 6000), .badValue),
        (decide (b < f.bays.toNat ∧ r.state = bayStalled), .notStalled),
        (decide ((s.account (r.boat.toNat % 256)).settles hall r p.params.w1), .range) ])

/-- The report that the end of a posting makes to its source. A scale takes it into its STATUS, its commit
state becomes COMMITTED for a LAND applied to the current load and OPEN else; a gate reader is no longer
HELD and keeps the crate of its declaration; a rostrum and the desk take it into their STATUS with DESK
raised; an applied ICE_HOLD, ICE_SETTLE or BAY_RELEASE sets the bay's copy and its STATUS GO or SETTLED,
OVER when more was delivered than requested; a refused ICE_HOLD leaves the bay IDLE; a refused ICE_SETTLE
forms itself again after STORE_ERROR, leaves the bay after NOT_DISPENSING, and stalls it else; the
schedule's request is dropped. Each station's indication is set: for an equal STATUS that is the model's
choice (log 40). -/
def Obligations.ReportsReachStations : Prop :=
  ∀ (s : State) (d : Due),
    let t := s.writeDueEntry d
    let p := d.posting
    let reason := d.entry.reason
    let st : Status := ⟨if reason = none then .applied else .refused, reason, some s.engine.copy.head,
      d.value, false, 0⟩
    let bayTakes (b : Fin 6) (c : BayRecord) : Prop :=
      t.bay b = { s.bay b with
        copy := c
        status := if c.state = bayDispensing then ⟨.go, none, some s.engine.copy.head, none, false, 0⟩
          else ⟨.settled, none, some s.engine.copy.head, none,
            decide (c.requested.toNat < c.delivered.toNat), 0⟩ } ∧
      t.notices.quayFlags.getLsbD (bayPlace b) = true
    (∀ n : Fin 8, p.source = .scale n →
      t.scale n = { s.scale n with
        status := st
        commit := if reason = none ∧ (s.scale n).state ≠ .empty ∧
            (s.scale n).commit = .pending (s.scale n).load then .committed else .opened } ∧
      t.notices.quayFlags.getLsbD (scalePlace n) = true ∧ ∀ m : Fin 8, m ≠ n → t.scale m = s.scale m) ∧
    (∀ g : Fin 4, p.source = .gate g →
      t.reader (gateReader g) = { s.reader (gateReader g) with
        held := false, status := { st with crate := (s.reader (gateReader g)).status.crate } } ∧
      t.notices.quayFlags.getLsbD (readerPlace (gateReader g)) = true ∧
      ∀ r : Fin 12, r ≠ gateReader g → t.reader r = s.reader r) ∧
    (∀ r : Fin 2, p.source = .rostrum r → t.desk.get (rostrumSlot r) = st ∧ t.noticed .desk = true ∧
      ∀ slot : Fin 3, slot ≠ rostrumSlot r → t.desk.get slot = s.desk.get slot) ∧
    (p.source = .desk → t.desk.get deskSlot = st ∧ t.noticed .desk = true ∧
      (∀ (b : Fin 6) (c : BayRecord), bayImage d.entry.images = some (b, c) → bayTakes b c) ∧
      (bayImage d.entry.images = none → t.ice = s.ice) ∧
      ∀ slot : Fin 3, slot ≠ deskSlot → t.desk.get slot = s.desk.get slot) ∧
    (p.source = .schedule → t.clock.request = .none) ∧
    (∀ b : Fin 6, p.source = .bay b →
      (∀ (e : Fin 6) (c : BayRecord), reason = none → bayImage d.entry.images = some (e, c) →
        bayTakes b c) ∧
      (∀ r : Reason, reason = some r →
        let refused : Status := ⟨.refused, reason, some s.engine.copy.head, none, false, 0⟩
        t.notices.quayFlags.getLsbD (bayPlace b) = true ∧
        (p.kind = PostKind.iceHold.code → t.bay b = { s.bay b with
          status := refused, copy := { (s.bay b).copy with state := bayIdle } }) ∧
        (p.kind ≠ PostKind.iceHold.code →
          (r = .storeError → t.bay b = { s.bay b with status := refused, pending := some p }) ∧
          (r = .notDispensing → t.bay b = { s.bay b with status := refused }) ∧
          (r ≠ .storeError → r ≠ .notDispensing → t.noticed .stall = true ∧ t.bay b = { s.bay b with
            status := refused, copy := { (s.bay b).copy with state := bayStalled } }))) ∧
      ∀ e : Fin 6, e ≠ b → t.bay e = s.bay e)

/-- What the end of a posting leaves: an applied or refused entry changes the bytes of its slot, of its
images' words and of the engine record, and of the bay record of a bay whose own posting is refused, and
no other byte; it advances the head and sets the next lot number and no other field of the engine record,
and leaves the ports, the copies, the shadows, the clock (but for the close request), the profile, and
the engine's mode, tail, step mode and copies. The engine's next state: a STORE_ERROR leaves it HALTED by
the posting, with HALTED raised; else step mode leaves it PAUSED, with PAUSED raised; else it takes the
queue head, or is IDLE with the queue empty. That step mode does not pause a part that is STARTING is the
model's choice (log 23). -/
def Obligations.PostingEndFrame : Prop :=
  ∀ (s : State) (d : Due),
    let t := s.writeDueEntry d
    t.engine.copy = { s.engine.copy with head := s.engine.copy.head + 1, nextLot := d.nextLot } ∧
    t.engine.guard = [] ∧ t.noticed .journal = true ∧
    t.part = s.part ∧ t.rom = s.rom ∧ t.profile = s.profile ∧ t.first = s.first ∧
    t.second = s.second ∧ t.copies = s.copies ∧ t.cache = s.cache ∧ t.fault = s.fault ∧
    t.shadows = s.shadows ∧ t.clock = { s.clock with request := t.clock.request } ∧
    t.engine.mode = s.engine.mode ∧ t.engine.tail = s.engine.tail ∧
    t.engine.stepMode = s.engine.stepMode ∧ t.engine.feeRate = s.engine.feeRate ∧
    t.engine.crateTypes = s.engine.crateTypes ∧ t.engine.pointer = s.engine.pointer ∧
    t.weigh.settle = s.weigh.settle ∧ t.ice.band = s.ice.band ∧ t.pending = s.pending ∧
    (d.halts = true → t.engine.state = .halted ∧ t.engine.halt = some .posting ∧ t.engine.work = .none ∧
      t.engine.queue = s.engine.queue ∧ t.noticed .halted = true) ∧
    (d.halts = false → t.engine.halt = s.engine.halt ∧
      (s.engine.stepMode = true → s.part ≠ .starting → t.engine.state = .paused ∧
        t.engine.work = .none ∧ t.engine.queue = s.engine.queue ∧ t.noticed .paused = true) ∧
      (s.engine.stepMode = false ∨ s.part = .starting →
        (s.engine.queue = [] → t.engine.state = .idle ∧ t.engine.work = .none ∧ t.engine.queue = []) ∧
        (∀ (q : Posting) (qs : List Posting), s.engine.queue = q :: qs →
          t.engine.state = .applying ∧ t.engine.work = .taken q ∧ t.engine.queue = qs))) ∧
    (s.store.fuse = none → ∀ x : Nat, ¬ s.slotRange s.engine.copy.head x → ¬ s.engineRange x →
      (∀ i ∈ d.entry.images, outside (i.writes s s.engine.copy.head) x) →
      (∀ b : Fin 6, d.posting.source = .bay b → d.entry.reason ≠ none →
        outside (wordsAt (s.bayAddr b.val) (s.bayRecord b.val).words) x) →
      t.store.byte x = s.store.byte x)

/-- After an applied posting the words of its images stand in their records, each account image is the
account's record, the entry at the head is DONE under its sequence number, and the engine record in the
store agrees with the engine's copy when it did before. -/
def Obligations.AppliedImagesStand : Prop :=
  ∀ (s : State) (d : Due) (r : Profile), s.profile = some r → r.isValid = true → s.store.fuse = none →
    d.entry.reason = none → (∀ i ∈ d.entry.images, i.wellFormed = true ∧ RecordId.engine ∉ i.targets) →
    d.entry.images.Pairwise (fun i j => ∀ x ∈ i.targets, x ∉ j.targets) →
    let t := s.writeDueEntry d
    let seq := s.engine.copy.head
    (∀ i ∈ d.entry.images, ∀ w ∈ i.writes s seq, t.store.word w.1 = w.2) ∧
    (∀ n f, Image.account n f ∈ d.entry.images → t.account n.toNat = f ∧
      t.store.word (t.accountAddr n.toNat + 0x2C) = seq) ∧
    t.store.word (t.entryAddr (seq.toNat % 256)) = 2 ∧
    t.store.word (t.entryAddr (seq.toNat % 256) + 4) = seq ∧
    (s.engineRecord = s.engine.copy → t.engineRecord = t.engine.copy)
end

