-- ==== Sys2Proof/Laws/State.lean ====
section
/-! SUPPORT. What each small update of the state leaves alone: one lemma per field and update, and the
members of the banks of channels after an update of one of them. -/

namespace Sys2Proof.Machine

variable (s : State)

/-! ## raise -/

@[simp] theorem State.raise_part (n : Notice) : (s.raise n).part = s.part := rfl
@[simp] theorem State.raise_rom (n : Notice) : (s.raise n).rom = s.rom := rfl
@[simp] theorem State.raise_profile (n : Notice) : (s.raise n).profile = s.profile := rfl
@[simp] theorem State.raise_store (n : Notice) : (s.raise n).store = s.store := rfl
@[simp] theorem State.raise_arbiter (n : Notice) : (s.raise n).arbiter = s.arbiter := rfl
@[simp] theorem State.raise_first (n : Notice) : (s.raise n).first = s.first := rfl
@[simp] theorem State.raise_second (n : Notice) : (s.raise n).second = s.second := rfl
@[simp] theorem State.raise_copies (n : Notice) : (s.raise n).copies = s.copies := rfl
@[simp] theorem State.raise_cache (n : Notice) : (s.raise n).cache = s.cache := rfl
@[simp] theorem State.raise_fault (n : Notice) : (s.raise n).fault = s.fault := rfl
@[simp] theorem State.raise_shadows (n : Notice) : (s.raise n).shadows = s.shadows := rfl
@[simp] theorem State.raise_engine (n : Notice) : (s.raise n).engine = s.engine := rfl
@[simp] theorem State.raise_desk (n : Notice) : (s.raise n).desk = s.desk := rfl
@[simp] theorem State.raise_weigh (n : Notice) : (s.raise n).weigh = s.weigh := rfl
@[simp] theorem State.raise_tags (n : Notice) : (s.raise n).tags = s.tags := rfl
@[simp] theorem State.raise_ice (n : Notice) : (s.raise n).ice = s.ice := rfl
@[simp] theorem State.raise_clock (n : Notice) : (s.raise n).clock = s.clock := rfl
@[simp] theorem State.raise_pending (n : Notice) : (s.raise n).pending = s.pending := rfl

/-! ## raiseIf -/

@[simp] theorem State.raiseIf_part (c : Bool) (n : Notice) : (s.raiseIf c n).part = s.part := by cases c <;> rfl
@[simp] theorem State.raiseIf_rom (c : Bool) (n : Notice) : (s.raiseIf c n).rom = s.rom := by cases c <;> rfl
@[simp] theorem State.raiseIf_profile (c : Bool) (n : Notice) : (s.raiseIf c n).profile = s.profile := by cases c <;> rfl
@[simp] theorem State.raiseIf_store (c : Bool) (n : Notice) : (s.raiseIf c n).store = s.store := by cases c <;> rfl
@[simp] theorem State.raiseIf_arbiter (c : Bool) (n : Notice) : (s.raiseIf c n).arbiter = s.arbiter := by cases c <;> rfl
@[simp] theorem State.raiseIf_first (c : Bool) (n : Notice) : (s.raiseIf c n).first = s.first := by cases c <;> rfl
@[simp] theorem State.raiseIf_second (c : Bool) (n : Notice) : (s.raiseIf c n).second = s.second := by cases c <;> rfl
@[simp] theorem State.raiseIf_copies (c : Bool) (n : Notice) : (s.raiseIf c n).copies = s.copies := by cases c <;> rfl
@[simp] theorem State.raiseIf_cache (c : Bool) (n : Notice) : (s.raiseIf c n).cache = s.cache := by cases c <;> rfl
@[simp] theorem State.raiseIf_fault (c : Bool) (n : Notice) : (s.raiseIf c n).fault = s.fault := by cases c <;> rfl
@[simp] theorem State.raiseIf_shadows (c : Bool) (n : Notice) : (s.raiseIf c n).shadows = s.shadows := by cases c <;> rfl
@[simp] theorem State.raiseIf_engine (c : Bool) (n : Notice) : (s.raiseIf c n).engine = s.engine := by cases c <;> rfl
@[simp] theorem State.raiseIf_desk (c : Bool) (n : Notice) : (s.raiseIf c n).desk = s.desk := by cases c <;> rfl
@[simp] theorem State.raiseIf_weigh (c : Bool) (n : Notice) : (s.raiseIf c n).weigh = s.weigh := by cases c <;> rfl
@[simp] theorem State.raiseIf_tags (c : Bool) (n : Notice) : (s.raiseIf c n).tags = s.tags := by cases c <;> rfl
@[simp] theorem State.raiseIf_ice (c : Bool) (n : Notice) : (s.raiseIf c n).ice = s.ice := by cases c <;> rfl
@[simp] theorem State.raiseIf_clock (c : Bool) (n : Notice) : (s.raiseIf c n).clock = s.clock := by cases c <;> rfl
@[simp] theorem State.raiseIf_pending (c : Bool) (n : Notice) : (s.raiseIf c n).pending = s.pending := by cases c <;> rfl

/-! ## indicate -/

@[simp] theorem State.indicate_part (i : Nat) : (s.indicate i).part = s.part := rfl
@[simp] theorem State.indicate_rom (i : Nat) : (s.indicate i).rom = s.rom := rfl
@[simp] theorem State.indicate_profile (i : Nat) : (s.indicate i).profile = s.profile := rfl
@[simp] theorem State.indicate_store (i : Nat) : (s.indicate i).store = s.store := rfl
@[simp] theorem State.indicate_arbiter (i : Nat) : (s.indicate i).arbiter = s.arbiter := rfl
@[simp] theorem State.indicate_first (i : Nat) : (s.indicate i).first = s.first := rfl
@[simp] theorem State.indicate_second (i : Nat) : (s.indicate i).second = s.second := rfl
@[simp] theorem State.indicate_copies (i : Nat) : (s.indicate i).copies = s.copies := rfl
@[simp] theorem State.indicate_cache (i : Nat) : (s.indicate i).cache = s.cache := rfl
@[simp] theorem State.indicate_fault (i : Nat) : (s.indicate i).fault = s.fault := rfl
@[simp] theorem State.indicate_shadows (i : Nat) : (s.indicate i).shadows = s.shadows := rfl
@[simp] theorem State.indicate_engine (i : Nat) : (s.indicate i).engine = s.engine := rfl
@[simp] theorem State.indicate_desk (i : Nat) : (s.indicate i).desk = s.desk := rfl
@[simp] theorem State.indicate_weigh (i : Nat) : (s.indicate i).weigh = s.weigh := rfl
@[simp] theorem State.indicate_tags (i : Nat) : (s.indicate i).tags = s.tags := rfl
@[simp] theorem State.indicate_ice (i : Nat) : (s.indicate i).ice = s.ice := rfl
@[simp] theorem State.indicate_clock (i : Nat) : (s.indicate i).clock = s.clock := rfl
@[simp] theorem State.indicate_pending (i : Nat) : (s.indicate i).pending = s.pending := rfl

/-! ## indicateIf -/

@[simp] theorem State.indicateIf_part (c : Bool) (i : Nat) : (s.indicateIf c i).part = s.part := by cases c <;> rfl
@[simp] theorem State.indicateIf_rom (c : Bool) (i : Nat) : (s.indicateIf c i).rom = s.rom := by cases c <;> rfl
@[simp] theorem State.indicateIf_profile (c : Bool) (i : Nat) : (s.indicateIf c i).profile = s.profile := by cases c <;> rfl
@[simp] theorem State.indicateIf_store (c : Bool) (i : Nat) : (s.indicateIf c i).store = s.store := by cases c <;> rfl
@[simp] theorem State.indicateIf_arbiter (c : Bool) (i : Nat) : (s.indicateIf c i).arbiter = s.arbiter := by cases c <;> rfl
@[simp] theorem State.indicateIf_first (c : Bool) (i : Nat) : (s.indicateIf c i).first = s.first := by cases c <;> rfl
@[simp] theorem State.indicateIf_second (c : Bool) (i : Nat) : (s.indicateIf c i).second = s.second := by cases c <;> rfl
@[simp] theorem State.indicateIf_copies (c : Bool) (i : Nat) : (s.indicateIf c i).copies = s.copies := by cases c <;> rfl
@[simp] theorem State.indicateIf_cache (c : Bool) (i : Nat) : (s.indicateIf c i).cache = s.cache := by cases c <;> rfl
@[simp] theorem State.indicateIf_fault (c : Bool) (i : Nat) : (s.indicateIf c i).fault = s.fault := by cases c <;> rfl
@[simp] theorem State.indicateIf_shadows (c : Bool) (i : Nat) : (s.indicateIf c i).shadows = s.shadows := by cases c <;> rfl
@[simp] theorem State.indicateIf_engine (c : Bool) (i : Nat) : (s.indicateIf c i).engine = s.engine := by cases c <;> rfl
@[simp] theorem State.indicateIf_desk (c : Bool) (i : Nat) : (s.indicateIf c i).desk = s.desk := by cases c <;> rfl
@[simp] theorem State.indicateIf_weigh (c : Bool) (i : Nat) : (s.indicateIf c i).weigh = s.weigh := by cases c <;> rfl
@[simp] theorem State.indicateIf_tags (c : Bool) (i : Nat) : (s.indicateIf c i).tags = s.tags := by cases c <;> rfl
@[simp] theorem State.indicateIf_ice (c : Bool) (i : Nat) : (s.indicateIf c i).ice = s.ice := by cases c <;> rfl
@[simp] theorem State.indicateIf_clock (c : Bool) (i : Nat) : (s.indicateIf c i).clock = s.clock := by cases c <;> rfl
@[simp] theorem State.indicateIf_pending (c : Bool) (i : Nat) : (s.indicateIf c i).pending = s.pending := by cases c <;> rfl

/-! ## granted -/

@[simp] theorem State.granted_part (g : Grantee) : (s.granted g).part = s.part := rfl
@[simp] theorem State.granted_rom (g : Grantee) : (s.granted g).rom = s.rom := rfl
@[simp] theorem State.granted_profile (g : Grantee) : (s.granted g).profile = s.profile := rfl
@[simp] theorem State.granted_store (g : Grantee) : (s.granted g).store = s.store := rfl
@[simp] theorem State.granted_first (g : Grantee) : (s.granted g).first = s.first := rfl
@[simp] theorem State.granted_second (g : Grantee) : (s.granted g).second = s.second := rfl
@[simp] theorem State.granted_copies (g : Grantee) : (s.granted g).copies = s.copies := rfl
@[simp] theorem State.granted_cache (g : Grantee) : (s.granted g).cache = s.cache := rfl
@[simp] theorem State.granted_fault (g : Grantee) : (s.granted g).fault = s.fault := rfl
@[simp] theorem State.granted_shadows (g : Grantee) : (s.granted g).shadows = s.shadows := rfl
@[simp] theorem State.granted_engine (g : Grantee) : (s.granted g).engine = s.engine := rfl
@[simp] theorem State.granted_desk (g : Grantee) : (s.granted g).desk = s.desk := rfl
@[simp] theorem State.granted_weigh (g : Grantee) : (s.granted g).weigh = s.weigh := rfl
@[simp] theorem State.granted_tags (g : Grantee) : (s.granted g).tags = s.tags := rfl
@[simp] theorem State.granted_ice (g : Grantee) : (s.granted g).ice = s.ice := rfl
@[simp] theorem State.granted_clock (g : Grantee) : (s.granted g).clock = s.clock := rfl
@[simp] theorem State.granted_notices (g : Grantee) : (s.granted g).notices = s.notices := rfl
@[simp] theorem State.granted_pending (g : Grantee) : (s.granted g).pending = s.pending := rfl

/-! ## write -/

@[simp] theorem State.write_part (g : Grantee) (ws : List (Nat × Word)) : (s.write g ws).part = s.part := rfl
@[simp] theorem State.write_rom (g : Grantee) (ws : List (Nat × Word)) : (s.write g ws).rom = s.rom := rfl
@[simp] theorem State.write_profile (g : Grantee) (ws : List (Nat × Word)) : (s.write g ws).profile = s.profile := rfl
@[simp] theorem State.write_first (g : Grantee) (ws : List (Nat × Word)) : (s.write g ws).first = s.first := rfl
@[simp] theorem State.write_second (g : Grantee) (ws : List (Nat × Word)) : (s.write g ws).second = s.second := rfl
@[simp] theorem State.write_copies (g : Grantee) (ws : List (Nat × Word)) : (s.write g ws).copies = s.copies := rfl
@[simp] theorem State.write_cache (g : Grantee) (ws : List (Nat × Word)) : (s.write g ws).cache = s.cache := rfl
@[simp] theorem State.write_fault (g : Grantee) (ws : List (Nat × Word)) : (s.write g ws).fault = s.fault := rfl
@[simp] theorem State.write_shadows (g : Grantee) (ws : List (Nat × Word)) : (s.write g ws).shadows = s.shadows := rfl
@[simp] theorem State.write_engine (g : Grantee) (ws : List (Nat × Word)) : (s.write g ws).engine = s.engine := rfl
@[simp] theorem State.write_desk (g : Grantee) (ws : List (Nat × Word)) : (s.write g ws).desk = s.desk := rfl
@[simp] theorem State.write_weigh (g : Grantee) (ws : List (Nat × Word)) : (s.write g ws).weigh = s.weigh := rfl
@[simp] theorem State.write_tags (g : Grantee) (ws : List (Nat × Word)) : (s.write g ws).tags = s.tags := rfl
@[simp] theorem State.write_ice (g : Grantee) (ws : List (Nat × Word)) : (s.write g ws).ice = s.ice := rfl
@[simp] theorem State.write_clock (g : Grantee) (ws : List (Nat × Word)) : (s.write g ws).clock = s.clock := rfl
@[simp] theorem State.write_notices (g : Grantee) (ws : List (Nat × Word)) : (s.write g ws).notices = s.notices := rfl
@[simp] theorem State.write_pending (g : Grantee) (ws : List (Nat × Word)) : (s.write g ws).pending = s.pending := rfl

/-! ## serve -/

/-- A requester granted twice in a row leaves the pointers where one grant does (R79). -/
theorem Arbiter.grant_grant (a : Arbiter) (g : Grantee) : (a.grant g).grant g = a.grant g := by
  cases g with
  | path d => cases d <;> rfl
  | inner b => rfl

/-- Words written one after another are written at once. -/
theorem State.write_cons (g : Grantee) (w : Nat × Word) (ws : List (Nat × Word)) :
    (s.write g [w]).write g ws = s.write g (w :: ws) := by
  cases ws with
  | nil => rfl
  | cons v vs =>
    simp only [State.write, Memory.putAll, List.isEmpty_cons, Bool.false_eq_true, if_false,
      Arbiter.grant_grant]

/-- The arbiter grants a requester that asks alone, wherever its pointers stand (R79). -/
theorem Arbiter.choose_alone (a : Arbiter) (g : Grantee) : a.choose (fun x => g == x) = some g := by
  obtain ⟨port, inner⟩ := a
  cases g with
  | path d => cases port <;> cases d <;> cases inner <;> rfl
  | inner b => cases port <;> cases b <;> cases inner <;> rfl

/-- The words of one requester that no other contests are served in their order. -/
theorem State.serve_requests (g : Grantee) (ws : List (Nat × Word)) :
    s.serve (requests g ws) = s.write g ws := by
  have any : ∀ (w : Nat × Word) (vs : List (Nat × Word)) (x : Grantee),
      ((requests g (w :: vs)).any fun r => r.1 == x) = (g == x) := by
    intro w vs x
    induction vs generalizing w with
    | nil => simp [requests]
    | cons v vs ih =>
      have h := ih v
      simp only [requests, List.map_cons, List.any_cons] at h ⊢
      rw [h, Bool.or_self]
  suffices h : ∀ (vs : List (Nat × Word)) (t : State),
      State.serveNext (requests g vs).length (requests g vs) t = t.write g vs from h ws s
  intro vs
  induction vs with
  | nil => intro t; rfl
  | cons v vs ih =>
    intro t
    simp only [State.serveNext, requests, List.map_cons, List.length_cons]
    rw [show (fun x => ((g, v) :: List.map (fun w => (g, w)) vs).any fun r => r.1 == x) =
      fun x => g == x from funext (any v vs), Arbiter.choose_alone]
    simp only [List.find?_cons, List.eraseP_cons, beq_self_eq_true]
    exact (ih _).trans (t.write_cons g v vs)

@[simp] theorem State.serve_nil : s.serve [] = s := rfl
@[simp] theorem State.serve_one (g : Grantee) (w : Nat × Word) : s.serve [(g, w)] = s.write g [w] :=
  s.serve_requests g [w]

/-- Serving requests changes the store and the arbiter's pointers alone. -/
theorem State.serve_eq (rs : List Request) :
    ∃ (m : Memory) (a : Arbiter), s.serve rs = { s with store := m, arbiter := a } := by
  suffices h : ∀ (n : Nat) (rs : List Request) (t : State),
      ∃ (m : Memory) (a : Arbiter), State.serveNext n rs t = { t with store := m, arbiter := a } from
    h _ rs s
  intro n
  induction n with
  | zero => exact fun _ t => ⟨t.store, t.arbiter, rfl⟩
  | succ n ih =>
    intro rs t
    simp only [State.serveNext]
    split
    · exact ⟨t.store, t.arbiter, rfl⟩
    · split
      · exact ⟨t.store, t.arbiter, rfl⟩
      · obtain ⟨m, a, e⟩ := ih (rs.eraseP _) (t.write _ [_])
        exact ⟨m, a, e⟩

@[simp] theorem State.serve_part (rs : List Request) : (s.serve rs).part = s.part := by
  obtain ⟨m, a, e⟩ := s.serve_eq rs; rw [e]
@[simp] theorem State.serve_rom (rs : List Request) : (s.serve rs).rom = s.rom := by
  obtain ⟨m, a, e⟩ := s.serve_eq rs; rw [e]
@[simp] theorem State.serve_profile (rs : List Request) : (s.serve rs).profile = s.profile := by
  obtain ⟨m, a, e⟩ := s.serve_eq rs; rw [e]
@[simp] theorem State.serve_first (rs : List Request) : (s.serve rs).first = s.first := by
  obtain ⟨m, a, e⟩ := s.serve_eq rs; rw [e]
@[simp] theorem State.serve_second (rs : List Request) : (s.serve rs).second = s.second := by
  obtain ⟨m, a, e⟩ := s.serve_eq rs; rw [e]
@[simp] theorem State.serve_copies (rs : List Request) : (s.serve rs).copies = s.copies := by
  obtain ⟨m, a, e⟩ := s.serve_eq rs; rw [e]
@[simp] theorem State.serve_cache (rs : List Request) : (s.serve rs).cache = s.cache := by
  obtain ⟨m, a, e⟩ := s.serve_eq rs; rw [e]
@[simp] theorem State.serve_fault (rs : List Request) : (s.serve rs).fault = s.fault := by
  obtain ⟨m, a, e⟩ := s.serve_eq rs; rw [e]
@[simp] theorem State.serve_shadows (rs : List Request) : (s.serve rs).shadows = s.shadows := by
  obtain ⟨m, a, e⟩ := s.serve_eq rs; rw [e]
@[simp] theorem State.serve_engine (rs : List Request) : (s.serve rs).engine = s.engine := by
  obtain ⟨m, a, e⟩ := s.serve_eq rs; rw [e]
@[simp] theorem State.serve_desk (rs : List Request) : (s.serve rs).desk = s.desk := by
  obtain ⟨m, a, e⟩ := s.serve_eq rs; rw [e]
@[simp] theorem State.serve_weigh (rs : List Request) : (s.serve rs).weigh = s.weigh := by
  obtain ⟨m, a, e⟩ := s.serve_eq rs; rw [e]
@[simp] theorem State.serve_tags (rs : List Request) : (s.serve rs).tags = s.tags := by
  obtain ⟨m, a, e⟩ := s.serve_eq rs; rw [e]
@[simp] theorem State.serve_ice (rs : List Request) : (s.serve rs).ice = s.ice := by
  obtain ⟨m, a, e⟩ := s.serve_eq rs; rw [e]
@[simp] theorem State.serve_clock (rs : List Request) : (s.serve rs).clock = s.clock := by
  obtain ⟨m, a, e⟩ := s.serve_eq rs; rw [e]
@[simp] theorem State.serve_notices (rs : List Request) : (s.serve rs).notices = s.notices := by
  obtain ⟨m, a, e⟩ := s.serve_eq rs; rw [e]
@[simp] theorem State.serve_pending (rs : List Request) : (s.serve rs).pending = s.pending := by
  obtain ⟨m, a, e⟩ := s.serve_eq rs; rw [e]

/-! ## withGuard -/

@[simp] theorem State.withGuard_part (g : List RecordId) : (s.withGuard g).part = s.part := rfl
@[simp] theorem State.withGuard_rom (g : List RecordId) : (s.withGuard g).rom = s.rom := rfl
@[simp] theorem State.withGuard_profile (g : List RecordId) : (s.withGuard g).profile = s.profile := rfl
@[simp] theorem State.withGuard_store (g : List RecordId) : (s.withGuard g).store = s.store := rfl
@[simp] theorem State.withGuard_arbiter (g : List RecordId) : (s.withGuard g).arbiter = s.arbiter := rfl
@[simp] theorem State.withGuard_first (g : List RecordId) : (s.withGuard g).first = s.first := rfl
@[simp] theorem State.withGuard_second (g : List RecordId) : (s.withGuard g).second = s.second := rfl
@[simp] theorem State.withGuard_copies (g : List RecordId) : (s.withGuard g).copies = s.copies := rfl
@[simp] theorem State.withGuard_cache (g : List RecordId) : (s.withGuard g).cache = s.cache := rfl
@[simp] theorem State.withGuard_fault (g : List RecordId) : (s.withGuard g).fault = s.fault := rfl
@[simp] theorem State.withGuard_shadows (g : List RecordId) : (s.withGuard g).shadows = s.shadows := rfl
@[simp] theorem State.withGuard_desk (g : List RecordId) : (s.withGuard g).desk = s.desk := rfl
@[simp] theorem State.withGuard_weigh (g : List RecordId) : (s.withGuard g).weigh = s.weigh := rfl
@[simp] theorem State.withGuard_tags (g : List RecordId) : (s.withGuard g).tags = s.tags := rfl
@[simp] theorem State.withGuard_ice (g : List RecordId) : (s.withGuard g).ice = s.ice := rfl
@[simp] theorem State.withGuard_clock (g : List RecordId) : (s.withGuard g).clock = s.clock := rfl
@[simp] theorem State.withGuard_notices (g : List RecordId) : (s.withGuard g).notices = s.notices := rfl
@[simp] theorem State.withGuard_pending (g : List RecordId) : (s.withGuard g).pending = s.pending := rfl

/-! ## setBay -/

@[simp] theorem State.setBay_part (b : Fin 6) (c : BayChannel) : (s.setBay b c).part = s.part := rfl
@[simp] theorem State.setBay_rom (b : Fin 6) (c : BayChannel) : (s.setBay b c).rom = s.rom := rfl
@[simp] theorem State.setBay_profile (b : Fin 6) (c : BayChannel) : (s.setBay b c).profile = s.profile := rfl
@[simp] theorem State.setBay_store (b : Fin 6) (c : BayChannel) : (s.setBay b c).store = s.store := rfl
@[simp] theorem State.setBay_arbiter (b : Fin 6) (c : BayChannel) : (s.setBay b c).arbiter = s.arbiter := rfl
@[simp] theorem State.setBay_first (b : Fin 6) (c : BayChannel) : (s.setBay b c).first = s.first := rfl
@[simp] theorem State.setBay_second (b : Fin 6) (c : BayChannel) : (s.setBay b c).second = s.second := rfl
@[simp] theorem State.setBay_copies (b : Fin 6) (c : BayChannel) : (s.setBay b c).copies = s.copies := rfl
@[simp] theorem State.setBay_cache (b : Fin 6) (c : BayChannel) : (s.setBay b c).cache = s.cache := rfl
@[simp] theorem State.setBay_fault (b : Fin 6) (c : BayChannel) : (s.setBay b c).fault = s.fault := rfl
@[simp] theorem State.setBay_shadows (b : Fin 6) (c : BayChannel) : (s.setBay b c).shadows = s.shadows := rfl
@[simp] theorem State.setBay_engine (b : Fin 6) (c : BayChannel) : (s.setBay b c).engine = s.engine := rfl
@[simp] theorem State.setBay_desk (b : Fin 6) (c : BayChannel) : (s.setBay b c).desk = s.desk := rfl
@[simp] theorem State.setBay_weigh (b : Fin 6) (c : BayChannel) : (s.setBay b c).weigh = s.weigh := rfl
@[simp] theorem State.setBay_tags (b : Fin 6) (c : BayChannel) : (s.setBay b c).tags = s.tags := rfl
@[simp] theorem State.setBay_clock (b : Fin 6) (c : BayChannel) : (s.setBay b c).clock = s.clock := rfl
@[simp] theorem State.setBay_notices (b : Fin 6) (c : BayChannel) : (s.setBay b c).notices = s.notices := rfl
@[simp] theorem State.setBay_pending (b : Fin 6) (c : BayChannel) : (s.setBay b c).pending = s.pending := rfl

/-! ## setScale -/

@[simp] theorem State.setScale_part (n : Fin 8) (c : ScaleChannel) : (s.setScale n c).part = s.part := rfl
@[simp] theorem State.setScale_rom (n : Fin 8) (c : ScaleChannel) : (s.setScale n c).rom = s.rom := rfl
@[simp] theorem State.setScale_profile (n : Fin 8) (c : ScaleChannel) : (s.setScale n c).profile = s.profile := rfl
@[simp] theorem State.setScale_store (n : Fin 8) (c : ScaleChannel) : (s.setScale n c).store = s.store := rfl
@[simp] theorem State.setScale_arbiter (n : Fin 8) (c : ScaleChannel) : (s.setScale n c).arbiter = s.arbiter := rfl
@[simp] theorem State.setScale_first (n : Fin 8) (c : ScaleChannel) : (s.setScale n c).first = s.first := rfl
@[simp] theorem State.setScale_second (n : Fin 8) (c : ScaleChannel) : (s.setScale n c).second = s.second := rfl
@[simp] theorem State.setScale_copies (n : Fin 8) (c : ScaleChannel) : (s.setScale n c).copies = s.copies := rfl
@[simp] theorem State.setScale_cache (n : Fin 8) (c : ScaleChannel) : (s.setScale n c).cache = s.cache := rfl
@[simp] theorem State.setScale_fault (n : Fin 8) (c : ScaleChannel) : (s.setScale n c).fault = s.fault := rfl
@[simp] theorem State.setScale_shadows (n : Fin 8) (c : ScaleChannel) : (s.setScale n c).shadows = s.shadows := rfl
@[simp] theorem State.setScale_engine (n : Fin 8) (c : ScaleChannel) : (s.setScale n c).engine = s.engine := rfl
@[simp] theorem State.setScale_desk (n : Fin 8) (c : ScaleChannel) : (s.setScale n c).desk = s.desk := rfl
@[simp] theorem State.setScale_tags (n : Fin 8) (c : ScaleChannel) : (s.setScale n c).tags = s.tags := rfl
@[simp] theorem State.setScale_ice (n : Fin 8) (c : ScaleChannel) : (s.setScale n c).ice = s.ice := rfl
@[simp] theorem State.setScale_clock (n : Fin 8) (c : ScaleChannel) : (s.setScale n c).clock = s.clock := rfl
@[simp] theorem State.setScale_notices (n : Fin 8) (c : ScaleChannel) : (s.setScale n c).notices = s.notices := rfl
@[simp] theorem State.setScale_pending (n : Fin 8) (c : ScaleChannel) : (s.setScale n c).pending = s.pending := rfl

/-! ## setReader -/

@[simp] theorem State.setReader_part (r : Fin 12) (c : ReaderChannel) : (s.setReader r c).part = s.part := rfl
@[simp] theorem State.setReader_rom (r : Fin 12) (c : ReaderChannel) : (s.setReader r c).rom = s.rom := rfl
@[simp] theorem State.setReader_profile (r : Fin 12) (c : ReaderChannel) : (s.setReader r c).profile = s.profile := rfl
@[simp] theorem State.setReader_store (r : Fin 12) (c : ReaderChannel) : (s.setReader r c).store = s.store := rfl
@[simp] theorem State.setReader_arbiter (r : Fin 12) (c : ReaderChannel) : (s.setReader r c).arbiter = s.arbiter := rfl
@[simp] theorem State.setReader_first (r : Fin 12) (c : ReaderChannel) : (s.setReader r c).first = s.first := rfl
@[simp] theorem State.setReader_second (r : Fin 12) (c : ReaderChannel) : (s.setReader r c).second = s.second := rfl
@[simp] theorem State.setReader_copies (r : Fin 12) (c : ReaderChannel) : (s.setReader r c).copies = s.copies := rfl
@[simp] theorem State.setReader_cache (r : Fin 12) (c : ReaderChannel) : (s.setReader r c).cache = s.cache := rfl
@[simp] theorem State.setReader_fault (r : Fin 12) (c : ReaderChannel) : (s.setReader r c).fault = s.fault := rfl
@[simp] theorem State.setReader_shadows (r : Fin 12) (c : ReaderChannel) : (s.setReader r c).shadows = s.shadows := rfl
@[simp] theorem State.setReader_engine (r : Fin 12) (c : ReaderChannel) : (s.setReader r c).engine = s.engine := rfl
@[simp] theorem State.setReader_desk (r : Fin 12) (c : ReaderChannel) : (s.setReader r c).desk = s.desk := rfl
@[simp] theorem State.setReader_weigh (r : Fin 12) (c : ReaderChannel) : (s.setReader r c).weigh = s.weigh := rfl
@[simp] theorem State.setReader_ice (r : Fin 12) (c : ReaderChannel) : (s.setReader r c).ice = s.ice := rfl
@[simp] theorem State.setReader_clock (r : Fin 12) (c : ReaderChannel) : (s.setReader r c).clock = s.clock := rfl
@[simp] theorem State.setReader_notices (r : Fin 12) (c : ReaderChannel) : (s.setReader r c).notices = s.notices := rfl
@[simp] theorem State.setReader_pending (r : Fin 12) (c : ReaderChannel) : (s.setReader r c).pending = s.pending := rfl

/-! ## setDesk -/

@[simp] theorem State.setDesk_part (slot : Fin 3) (t : Status) : (s.setDesk slot t).part = s.part := rfl
@[simp] theorem State.setDesk_rom (slot : Fin 3) (t : Status) : (s.setDesk slot t).rom = s.rom := rfl
@[simp] theorem State.setDesk_profile (slot : Fin 3) (t : Status) : (s.setDesk slot t).profile = s.profile := rfl
@[simp] theorem State.setDesk_store (slot : Fin 3) (t : Status) : (s.setDesk slot t).store = s.store := rfl
@[simp] theorem State.setDesk_arbiter (slot : Fin 3) (t : Status) : (s.setDesk slot t).arbiter = s.arbiter := rfl
@[simp] theorem State.setDesk_first (slot : Fin 3) (t : Status) : (s.setDesk slot t).first = s.first := rfl
@[simp] theorem State.setDesk_second (slot : Fin 3) (t : Status) : (s.setDesk slot t).second = s.second := rfl
@[simp] theorem State.setDesk_copies (slot : Fin 3) (t : Status) : (s.setDesk slot t).copies = s.copies := rfl
@[simp] theorem State.setDesk_cache (slot : Fin 3) (t : Status) : (s.setDesk slot t).cache = s.cache := rfl
@[simp] theorem State.setDesk_fault (slot : Fin 3) (t : Status) : (s.setDesk slot t).fault = s.fault := rfl
@[simp] theorem State.setDesk_shadows (slot : Fin 3) (t : Status) : (s.setDesk slot t).shadows = s.shadows := rfl
@[simp] theorem State.setDesk_engine (slot : Fin 3) (t : Status) : (s.setDesk slot t).engine = s.engine := rfl
@[simp] theorem State.setDesk_weigh (slot : Fin 3) (t : Status) : (s.setDesk slot t).weigh = s.weigh := rfl
@[simp] theorem State.setDesk_tags (slot : Fin 3) (t : Status) : (s.setDesk slot t).tags = s.tags := rfl
@[simp] theorem State.setDesk_ice (slot : Fin 3) (t : Status) : (s.setDesk slot t).ice = s.ice := rfl
@[simp] theorem State.setDesk_clock (slot : Fin 3) (t : Status) : (s.setDesk slot t).clock = s.clock := rfl
@[simp] theorem State.setDesk_notices (slot : Fin 3) (t : Status) : (s.setDesk slot t).notices = s.notices := rfl
@[simp] theorem State.setDesk_pending (slot : Fin 3) (t : Status) : (s.setDesk slot t).pending = s.pending := rfl

/-! ## setPath -/

@[simp] theorem State.setPath_part (p : PortId) (x : Path) : (s.setPath p x).part = s.part := by cases p <;> rfl
@[simp] theorem State.setPath_rom (p : PortId) (x : Path) : (s.setPath p x).rom = s.rom := by cases p <;> rfl
@[simp] theorem State.setPath_profile (p : PortId) (x : Path) : (s.setPath p x).profile = s.profile := by cases p <;> rfl
@[simp] theorem State.setPath_store (p : PortId) (x : Path) : (s.setPath p x).store = s.store := by cases p <;> rfl
@[simp] theorem State.setPath_arbiter (p : PortId) (x : Path) : (s.setPath p x).arbiter = s.arbiter := by cases p <;> rfl
@[simp] theorem State.setPath_copies (p : PortId) (x : Path) : (s.setPath p x).copies = s.copies := by cases p <;> rfl
@[simp] theorem State.setPath_cache (p : PortId) (x : Path) : (s.setPath p x).cache = s.cache := by cases p <;> rfl
@[simp] theorem State.setPath_fault (p : PortId) (x : Path) : (s.setPath p x).fault = s.fault := by cases p <;> rfl
@[simp] theorem State.setPath_shadows (p : PortId) (x : Path) : (s.setPath p x).shadows = s.shadows := by cases p <;> rfl
@[simp] theorem State.setPath_engine (p : PortId) (x : Path) : (s.setPath p x).engine = s.engine := by cases p <;> rfl
@[simp] theorem State.setPath_desk (p : PortId) (x : Path) : (s.setPath p x).desk = s.desk := by cases p <;> rfl
@[simp] theorem State.setPath_weigh (p : PortId) (x : Path) : (s.setPath p x).weigh = s.weigh := by cases p <;> rfl
@[simp] theorem State.setPath_tags (p : PortId) (x : Path) : (s.setPath p x).tags = s.tags := by cases p <;> rfl
@[simp] theorem State.setPath_ice (p : PortId) (x : Path) : (s.setPath p x).ice = s.ice := by cases p <;> rfl
@[simp] theorem State.setPath_clock (p : PortId) (x : Path) : (s.setPath p x).clock = s.clock := by cases p <;> rfl
@[simp] theorem State.setPath_notices (p : PortId) (x : Path) : (s.setPath p x).notices = s.notices := by cases p <;> rfl
@[simp] theorem State.setPath_pending (p : PortId) (x : Path) : (s.setPath p x).pending = s.pending := by cases p <;> rfl

/-! ## setWait -/

@[simp] theorem State.setWait_part (p : PortId) (w : Wait) : (s.setWait p w).part = s.part := by cases p <;> rfl
@[simp] theorem State.setWait_rom (p : PortId) (w : Wait) : (s.setWait p w).rom = s.rom := by cases p <;> rfl
@[simp] theorem State.setWait_profile (p : PortId) (w : Wait) : (s.setWait p w).profile = s.profile := by cases p <;> rfl
@[simp] theorem State.setWait_store (p : PortId) (w : Wait) : (s.setWait p w).store = s.store := by cases p <;> rfl
@[simp] theorem State.setWait_arbiter (p : PortId) (w : Wait) : (s.setWait p w).arbiter = s.arbiter := by cases p <;> rfl
@[simp] theorem State.setWait_copies (p : PortId) (w : Wait) : (s.setWait p w).copies = s.copies := by cases p <;> rfl
@[simp] theorem State.setWait_cache (p : PortId) (w : Wait) : (s.setWait p w).cache = s.cache := by cases p <;> rfl
@[simp] theorem State.setWait_fault (p : PortId) (w : Wait) : (s.setWait p w).fault = s.fault := by cases p <;> rfl
@[simp] theorem State.setWait_shadows (p : PortId) (w : Wait) : (s.setWait p w).shadows = s.shadows := by cases p <;> rfl
@[simp] theorem State.setWait_engine (p : PortId) (w : Wait) : (s.setWait p w).engine = s.engine := by cases p <;> rfl
@[simp] theorem State.setWait_desk (p : PortId) (w : Wait) : (s.setWait p w).desk = s.desk := by cases p <;> rfl
@[simp] theorem State.setWait_weigh (p : PortId) (w : Wait) : (s.setWait p w).weigh = s.weigh := by cases p <;> rfl
@[simp] theorem State.setWait_tags (p : PortId) (w : Wait) : (s.setWait p w).tags = s.tags := by cases p <;> rfl
@[simp] theorem State.setWait_ice (p : PortId) (w : Wait) : (s.setWait p w).ice = s.ice := by cases p <;> rfl
@[simp] theorem State.setWait_clock (p : PortId) (w : Wait) : (s.setWait p w).clock = s.clock := by cases p <;> rfl
@[simp] theorem State.setWait_notices (p : PortId) (w : Wait) : (s.setWait p w).notices = s.notices := by cases p <;> rfl
@[simp] theorem State.setWait_pending (p : PortId) (w : Wait) : (s.setWait p w).pending = s.pending := by cases p <;> rfl

/-! ## answer -/

@[simp] theorem State.answer_part (p : PortId) (r : Answer) : (s.answer p r).part = s.part := by cases p <;> rfl
@[simp] theorem State.answer_rom (p : PortId) (r : Answer) : (s.answer p r).rom = s.rom := by cases p <;> rfl
@[simp] theorem State.answer_profile (p : PortId) (r : Answer) : (s.answer p r).profile = s.profile := by cases p <;> rfl
@[simp] theorem State.answer_store (p : PortId) (r : Answer) : (s.answer p r).store = s.store := by cases p <;> rfl
@[simp] theorem State.answer_arbiter (p : PortId) (r : Answer) : (s.answer p r).arbiter = s.arbiter := by cases p <;> rfl
@[simp] theorem State.answer_copies (p : PortId) (r : Answer) : (s.answer p r).copies = s.copies := by cases p <;> rfl
@[simp] theorem State.answer_cache (p : PortId) (r : Answer) : (s.answer p r).cache = s.cache := by cases p <;> rfl
@[simp] theorem State.answer_fault (p : PortId) (r : Answer) : (s.answer p r).fault = s.fault := by cases p <;> rfl
@[simp] theorem State.answer_shadows (p : PortId) (r : Answer) : (s.answer p r).shadows = s.shadows := by cases p <;> rfl
@[simp] theorem State.answer_engine (p : PortId) (r : Answer) : (s.answer p r).engine = s.engine := by cases p <;> rfl
@[simp] theorem State.answer_desk (p : PortId) (r : Answer) : (s.answer p r).desk = s.desk := by cases p <;> rfl
@[simp] theorem State.answer_weigh (p : PortId) (r : Answer) : (s.answer p r).weigh = s.weigh := by cases p <;> rfl
@[simp] theorem State.answer_tags (p : PortId) (r : Answer) : (s.answer p r).tags = s.tags := by cases p <;> rfl
@[simp] theorem State.answer_ice (p : PortId) (r : Answer) : (s.answer p r).ice = s.ice := by cases p <;> rfl
@[simp] theorem State.answer_clock (p : PortId) (r : Answer) : (s.answer p r).clock = s.clock := by cases p <;> rfl
@[simp] theorem State.answer_notices (p : PortId) (r : Answer) : (s.answer p r).notices = s.notices := by cases p <;> rfl
@[simp] theorem State.answer_pending (p : PortId) (r : Answer) : (s.answer p r).pending = s.pending := by cases p <;> rfl

/-! ## dropSnapshot -/

@[simp] theorem State.dropSnapshot_part (p : PortId) : (s.dropSnapshot p).part = s.part := by cases p <;> rfl
@[simp] theorem State.dropSnapshot_rom (p : PortId) : (s.dropSnapshot p).rom = s.rom := by cases p <;> rfl
@[simp] theorem State.dropSnapshot_profile (p : PortId) : (s.dropSnapshot p).profile = s.profile := by cases p <;> rfl
@[simp] theorem State.dropSnapshot_store (p : PortId) : (s.dropSnapshot p).store = s.store := by cases p <;> rfl
@[simp] theorem State.dropSnapshot_arbiter (p : PortId) : (s.dropSnapshot p).arbiter = s.arbiter := by cases p <;> rfl
@[simp] theorem State.dropSnapshot_copies (p : PortId) : (s.dropSnapshot p).copies = s.copies := by cases p <;> rfl
@[simp] theorem State.dropSnapshot_cache (p : PortId) : (s.dropSnapshot p).cache = s.cache := by cases p <;> rfl
@[simp] theorem State.dropSnapshot_fault (p : PortId) : (s.dropSnapshot p).fault = s.fault := by cases p <;> rfl
@[simp] theorem State.dropSnapshot_shadows (p : PortId) : (s.dropSnapshot p).shadows = s.shadows := by cases p <;> rfl
@[simp] theorem State.dropSnapshot_engine (p : PortId) : (s.dropSnapshot p).engine = s.engine := by cases p <;> rfl
@[simp] theorem State.dropSnapshot_desk (p : PortId) : (s.dropSnapshot p).desk = s.desk := by cases p <;> rfl
@[simp] theorem State.dropSnapshot_weigh (p : PortId) : (s.dropSnapshot p).weigh = s.weigh := by cases p <;> rfl
@[simp] theorem State.dropSnapshot_tags (p : PortId) : (s.dropSnapshot p).tags = s.tags := by cases p <;> rfl
@[simp] theorem State.dropSnapshot_ice (p : PortId) : (s.dropSnapshot p).ice = s.ice := by cases p <;> rfl
@[simp] theorem State.dropSnapshot_clock (p : PortId) : (s.dropSnapshot p).clock = s.clock := by cases p <;> rfl
@[simp] theorem State.dropSnapshot_notices (p : PortId) : (s.dropSnapshot p).notices = s.notices := by cases p <;> rfl
@[simp] theorem State.dropSnapshot_pending (p : PortId) : (s.dropSnapshot p).pending = s.pending := by cases p <;> rfl

/-! ## The fields that an update changes -/

@[simp] theorem State.granted_arbiter (g : Grantee) : (s.granted g).arbiter = s.arbiter.grant g := rfl
@[simp] theorem State.write_store (g : Grantee) (ws : List (Nat × Word)) :
    (s.write g ws).store = s.store.putAll ws := rfl
@[simp] theorem State.write_arbiter (g : Grantee) (ws : List (Nat × Word)) :
    (s.write g ws).arbiter = if ws.isEmpty then s.arbiter else s.arbiter.grant g := rfl
@[simp] theorem State.withGuard_engine (g : List RecordId) :
    (s.withGuard g).engine = { s.engine with guard := g } := rfl

/-! ## Banks -/

theorem mapBank_get {α : Type} {n : Nat} (f : Fin n → α → α) (v : Vector α n) (i : Fin n) :
    (mapBank f v).get i = f i (v.get i) := by
  simp [mapBank, Vector.get_eq_getElem]

theorem bank_get_set {α : Type} {n : Nat} (v : Vector α n) (i j : Fin n) (x : α) :
    (v.set i x).get j = if j = i then x else v.get j := by
  simp only [Vector.get_eq_getElem, Vector.getElem_set]
  by_cases h : j = i
  · simp [h]
  · have : i.val ≠ j.val := fun e => h (Fin.ext e.symm)
    simp [h, this]

@[simp] theorem State.bay_setBay (b d : Fin 6) (c : BayChannel) :
    (s.setBay b c).bay d = if d = b then c else s.bay d := by
  simp [State.setBay, State.bay, bank_get_set]

@[simp] theorem State.scale_setScale (n m : Fin 8) (c : ScaleChannel) :
    (s.setScale n c).scale m = if m = n then c else s.scale m := by
  simp [State.setScale, State.scale, bank_get_set]

@[simp] theorem State.reader_setReader (r q : Fin 12) (c : ReaderChannel) :
    (s.setReader r c).reader q = if q = r then c else s.reader q := by
  simp [State.setReader, State.reader, bank_get_set]

@[simp] theorem State.path_setPath (p q : PortId) (x : Path) :
    (s.setPath p x).path q = if q = p then x else s.path q := by
  cases p <;> cases q <;> rfl

/-- A path replaced twice is replaced once. -/
@[simp] theorem State.setPath_setPath (p : PortId) (x y : Path) :
    (s.setPath p x).setPath p y = s.setPath p y := by
  cases p <;> rfl

/-- A path replaced by itself changes nothing. -/
@[simp] theorem State.setPath_path (p : PortId) : s.setPath p (s.path p) = s := by
  cases p <;> rfl

/-! ## Readings of a channel that an update elsewhere leaves -/

@[simp] theorem State.raise_bay (n : Notice) (d : Fin 6) : (s.raise n).bay d = s.bay d := rfl
@[simp] theorem State.raise_scale (n : Notice) (m : Fin 8) : (s.raise n).scale m = s.scale m := rfl
@[simp] theorem State.raise_reader (n : Notice) (q : Fin 12) : (s.raise n).reader q = s.reader q := rfl
@[simp] theorem State.raise_path (n : Notice) (q : PortId) : (s.raise n).path q = s.path q := by cases q <;> rfl
@[simp] theorem State.raise_base (n : Notice) (k : Fin 7) : (s.raise n).base k = s.base k := rfl
@[simp] theorem State.raise_side (n : Notice) (q : PortId) : (s.raise n).side q = s.side q := by cases q <;> rfl
@[simp] theorem State.raiseIf_bay (c : Bool) (n : Notice) (d : Fin 6) : (s.raiseIf c n).bay d = s.bay d := by cases c <;> rfl
@[simp] theorem State.raiseIf_scale (c : Bool) (n : Notice) (m : Fin 8) : (s.raiseIf c n).scale m = s.scale m := by cases c <;> rfl
@[simp] theorem State.raiseIf_reader (c : Bool) (n : Notice) (q : Fin 12) : (s.raiseIf c n).reader q = s.reader q := by cases c <;> rfl
@[simp] theorem State.raiseIf_path (c : Bool) (n : Notice) (q : PortId) : (s.raiseIf c n).path q = s.path q := by cases c <;> cases q <;> rfl
@[simp] theorem State.raiseIf_base (c : Bool) (n : Notice) (k : Fin 7) : (s.raiseIf c n).base k = s.base k := by cases c <;> rfl
@[simp] theorem State.raiseIf_side (c : Bool) (n : Notice) (q : PortId) : (s.raiseIf c n).side q = s.side q := by cases c <;> rfl
@[simp] theorem State.indicate_bay (i : Nat) (d : Fin 6) : (s.indicate i).bay d = s.bay d := rfl
@[simp] theorem State.indicate_scale (i : Nat) (m : Fin 8) : (s.indicate i).scale m = s.scale m := rfl
@[simp] theorem State.indicate_reader (i : Nat) (q : Fin 12) : (s.indicate i).reader q = s.reader q := rfl
@[simp] theorem State.indicate_path (i : Nat) (q : PortId) : (s.indicate i).path q = s.path q := by cases q <;> rfl
@[simp] theorem State.indicate_base (i : Nat) (k : Fin 7) : (s.indicate i).base k = s.base k := rfl
@[simp] theorem State.indicate_side (i : Nat) (q : PortId) : (s.indicate i).side q = s.side q := by cases q <;> rfl
@[simp] theorem State.indicateIf_bay (c : Bool) (i : Nat) (d : Fin 6) : (s.indicateIf c i).bay d = s.bay d := by cases c <;> rfl
@[simp] theorem State.indicateIf_scale (c : Bool) (i : Nat) (m : Fin 8) : (s.indicateIf c i).scale m = s.scale m := by cases c <;> rfl
@[simp] theorem State.indicateIf_reader (c : Bool) (i : Nat) (q : Fin 12) : (s.indicateIf c i).reader q = s.reader q := by cases c <;> rfl
@[simp] theorem State.indicateIf_path (c : Bool) (i : Nat) (q : PortId) : (s.indicateIf c i).path q = s.path q := by cases c <;> cases q <;> rfl
@[simp] theorem State.indicateIf_base (c : Bool) (i : Nat) (k : Fin 7) : (s.indicateIf c i).base k = s.base k := by cases c <;> rfl
@[simp] theorem State.indicateIf_side (c : Bool) (i : Nat) (q : PortId) : (s.indicateIf c i).side q = s.side q := by cases c <;> rfl
@[simp] theorem State.granted_bay (g : Grantee) (d : Fin 6) : (s.granted g).bay d = s.bay d := rfl
@[simp] theorem State.granted_scale (g : Grantee) (m : Fin 8) : (s.granted g).scale m = s.scale m := rfl
@[simp] theorem State.granted_reader (g : Grantee) (q : Fin 12) : (s.granted g).reader q = s.reader q := rfl
@[simp] theorem State.granted_path (g : Grantee) (q : PortId) : (s.granted g).path q = s.path q := by cases q <;> rfl
@[simp] theorem State.granted_base (g : Grantee) (k : Fin 7) : (s.granted g).base k = s.base k := rfl
@[simp] theorem State.granted_side (g : Grantee) (q : PortId) : (s.granted g).side q = s.side q := by cases q <;> rfl
@[simp] theorem State.write_bay (g : Grantee) (ws : List (Nat × Word)) (d : Fin 6) : (s.write g ws).bay d = s.bay d := rfl
@[simp] theorem State.write_scale (g : Grantee) (ws : List (Nat × Word)) (m : Fin 8) : (s.write g ws).scale m = s.scale m := rfl
@[simp] theorem State.write_reader (g : Grantee) (ws : List (Nat × Word)) (q : Fin 12) : (s.write g ws).reader q = s.reader q := rfl
@[simp] theorem State.write_path (g : Grantee) (ws : List (Nat × Word)) (q : PortId) : (s.write g ws).path q = s.path q := by cases q <;> rfl
@[simp] theorem State.write_base (g : Grantee) (ws : List (Nat × Word)) (k : Fin 7) : (s.write g ws).base k = s.base k := rfl
@[simp] theorem State.write_side (g : Grantee) (ws : List (Nat × Word)) (q : PortId) : (s.write g ws).side q = s.side q := by cases q <;> rfl
@[simp] theorem State.serve_bay (rs : List Request) (d : Fin 6) : (s.serve rs).bay d = s.bay d := by
  simp only [State.bay, State.serve_ice]
@[simp] theorem State.serve_scale (rs : List Request) (m : Fin 8) : (s.serve rs).scale m = s.scale m := by
  simp only [State.scale, State.serve_weigh]
@[simp] theorem State.serve_reader (rs : List Request) (q : Fin 12) : (s.serve rs).reader q = s.reader q := by
  simp only [State.reader, State.serve_tags]
@[simp] theorem State.serve_path (rs : List Request) (q : PortId) : (s.serve rs).path q = s.path q := by
  cases q <;> simp [State.path]
@[simp] theorem State.serve_base (rs : List Request) (k : Fin 7) : (s.serve rs).base k = s.base k := by
  simp only [State.base, State.serve_profile]
@[simp] theorem State.serve_side (rs : List Request) (q : PortId) : (s.serve rs).side q = s.side q := by
  cases q <;> simp [State.side]
@[simp] theorem State.withGuard_bay (g : List RecordId) (d : Fin 6) : (s.withGuard g).bay d = s.bay d := rfl
@[simp] theorem State.withGuard_scale (g : List RecordId) (m : Fin 8) : (s.withGuard g).scale m = s.scale m := rfl
@[simp] theorem State.withGuard_reader (g : List RecordId) (q : Fin 12) : (s.withGuard g).reader q = s.reader q := rfl
@[simp] theorem State.withGuard_path (g : List RecordId) (q : PortId) : (s.withGuard g).path q = s.path q := by cases q <;> rfl
@[simp] theorem State.withGuard_base (g : List RecordId) (k : Fin 7) : (s.withGuard g).base k = s.base k := rfl
@[simp] theorem State.withGuard_side (g : List RecordId) (q : PortId) : (s.withGuard g).side q = s.side q := by cases q <;> rfl
@[simp] theorem State.setBay_scale (b : Fin 6) (c : BayChannel) (m : Fin 8) : (s.setBay b c).scale m = s.scale m := rfl
@[simp] theorem State.setBay_reader (b : Fin 6) (c : BayChannel) (q : Fin 12) : (s.setBay b c).reader q = s.reader q := rfl
@[simp] theorem State.setBay_path (b : Fin 6) (c : BayChannel) (q : PortId) : (s.setBay b c).path q = s.path q := by cases q <;> rfl
@[simp] theorem State.setBay_base (b : Fin 6) (c : BayChannel) (k : Fin 7) : (s.setBay b c).base k = s.base k := rfl
@[simp] theorem State.setBay_side (b : Fin 6) (c : BayChannel) (q : PortId) : (s.setBay b c).side q = s.side q := by cases q <;> rfl
@[simp] theorem State.setScale_bay (n : Fin 8) (c : ScaleChannel) (d : Fin 6) : (s.setScale n c).bay d = s.bay d := rfl
@[simp] theorem State.setScale_reader (n : Fin 8) (c : ScaleChannel) (q : Fin 12) : (s.setScale n c).reader q = s.reader q := rfl
@[simp] theorem State.setScale_path (n : Fin 8) (c : ScaleChannel) (q : PortId) : (s.setScale n c).path q = s.path q := by cases q <;> rfl
@[simp] theorem State.setScale_base (n : Fin 8) (c : ScaleChannel) (k : Fin 7) : (s.setScale n c).base k = s.base k := rfl
@[simp] theorem State.setScale_side (n : Fin 8) (c : ScaleChannel) (q : PortId) : (s.setScale n c).side q = s.side q := by cases q <;> rfl
@[simp] theorem State.setReader_bay (r : Fin 12) (c : ReaderChannel) (d : Fin 6) : (s.setReader r c).bay d = s.bay d := rfl
@[simp] theorem State.setReader_scale (r : Fin 12) (c : ReaderChannel) (m : Fin 8) : (s.setReader r c).scale m = s.scale m := rfl
@[simp] theorem State.setReader_path (r : Fin 12) (c : ReaderChannel) (q : PortId) : (s.setReader r c).path q = s.path q := by cases q <;> rfl
@[simp] theorem State.setReader_base (r : Fin 12) (c : ReaderChannel) (k : Fin 7) : (s.setReader r c).base k = s.base k := rfl
@[simp] theorem State.setReader_side (r : Fin 12) (c : ReaderChannel) (q : PortId) : (s.setReader r c).side q = s.side q := by cases q <;> rfl
@[simp] theorem State.setDesk_bay (slot : Fin 3) (t : Status) (d : Fin 6) : (s.setDesk slot t).bay d = s.bay d := rfl
@[simp] theorem State.setDesk_scale (slot : Fin 3) (t : Status) (m : Fin 8) : (s.setDesk slot t).scale m = s.scale m := rfl
@[simp] theorem State.setDesk_reader (slot : Fin 3) (t : Status) (q : Fin 12) : (s.setDesk slot t).reader q = s.reader q := rfl
@[simp] theorem State.setDesk_path (slot : Fin 3) (t : Status) (q : PortId) : (s.setDesk slot t).path q = s.path q := by cases q <;> rfl
@[simp] theorem State.setDesk_base (slot : Fin 3) (t : Status) (k : Fin 7) : (s.setDesk slot t).base k = s.base k := rfl
@[simp] theorem State.setDesk_side (slot : Fin 3) (t : Status) (q : PortId) : (s.setDesk slot t).side q = s.side q := by cases q <;> rfl
@[simp] theorem State.setPath_bay (p : PortId) (x : Path) (d : Fin 6) : (s.setPath p x).bay d = s.bay d := by cases p <;> rfl
@[simp] theorem State.setPath_scale (p : PortId) (x : Path) (m : Fin 8) : (s.setPath p x).scale m = s.scale m := by cases p <;> rfl
@[simp] theorem State.setPath_reader (p : PortId) (x : Path) (q : Fin 12) : (s.setPath p x).reader q = s.reader q := by cases p <;> rfl
@[simp] theorem State.setPath_base (p : PortId) (x : Path) (k : Fin 7) : (s.setPath p x).base k = s.base k := by cases p <;> rfl
@[simp] theorem State.setPath_side (p : PortId) (x : Path) (q : PortId) : (s.setPath p x).side q = s.side q := by cases p <;> rfl
@[simp] theorem State.setWait_bay (p : PortId) (w : Wait) (d : Fin 6) : (s.setWait p w).bay d = s.bay d := by cases p <;> rfl
@[simp] theorem State.setWait_scale (p : PortId) (w : Wait) (m : Fin 8) : (s.setWait p w).scale m = s.scale m := by cases p <;> rfl
@[simp] theorem State.setWait_reader (p : PortId) (w : Wait) (q : Fin 12) : (s.setWait p w).reader q = s.reader q := by cases p <;> rfl
@[simp] theorem State.setWait_base (p : PortId) (w : Wait) (k : Fin 7) : (s.setWait p w).base k = s.base k := by cases p <;> rfl
@[simp] theorem State.setWait_side (p : PortId) (w : Wait) (q : PortId) : (s.setWait p w).side q = s.side q := by cases p <;> rfl
@[simp] theorem State.answer_bay (p : PortId) (r : Answer) (d : Fin 6) : (s.answer p r).bay d = s.bay d := by cases p <;> rfl
@[simp] theorem State.answer_scale (p : PortId) (r : Answer) (m : Fin 8) : (s.answer p r).scale m = s.scale m := by cases p <;> rfl
@[simp] theorem State.answer_reader (p : PortId) (r : Answer) (q : Fin 12) : (s.answer p r).reader q = s.reader q := by cases p <;> rfl
@[simp] theorem State.answer_base (p : PortId) (r : Answer) (k : Fin 7) : (s.answer p r).base k = s.base k := by cases p <;> rfl
@[simp] theorem State.answer_side (p : PortId) (r : Answer) (q : PortId) : (s.answer p r).side q = s.side q := by cases p <;> rfl
@[simp] theorem State.dropSnapshot_bay (p : PortId) (d : Fin 6) : (s.dropSnapshot p).bay d = s.bay d := by cases p <;> rfl
@[simp] theorem State.dropSnapshot_scale (p : PortId) (m : Fin 8) : (s.dropSnapshot p).scale m = s.scale m := by cases p <;> rfl
@[simp] theorem State.dropSnapshot_reader (p : PortId) (q : Fin 12) : (s.dropSnapshot p).reader q = s.reader q := by cases p <;> rfl
@[simp] theorem State.dropSnapshot_base (p : PortId) (k : Fin 7) : (s.dropSnapshot p).base k = s.base k := by cases p <;> rfl
@[simp] theorem State.dropSnapshot_side (p : PortId) (q : PortId) : (s.dropSnapshot p).side q = s.side q := by cases p <;> rfl

end Sys2Proof.Machine
end

