-- ==== Sys2Proof/Laws/Frame.lean ====
section
/-! SUPPORT. What the engine and the stations never touch: the shell of the machine, that is the part
state, the ROM and profile, the ports, the paths' copies, the cache, the fault record, the shadows and
the queue of commands. -/

namespace Sys2Proof.Machine

/-- Two states with one shell. -/
structure SameShell (s t : State) : Prop where
  part : t.part = s.part
  rom : t.rom = s.rom
  profile : t.profile = s.profile
  first : t.first = s.first
  second : t.second = s.second
  copies : t.copies = s.copies
  cache : t.cache = s.cache
  fault : t.fault = s.fault
  shadows : t.shadows = s.shadows
  pending : t.pending = s.pending

namespace SameShell

theorem refl (s : State) : SameShell s s := ⟨rfl, rfl, rfl, rfl, rfl, rfl, rfl, rfl, rfl, rfl⟩

theorem trans {s t u : State} (h : SameShell s t) (k : SameShell t u) : SameShell s u :=
  ⟨k.part.trans h.part, k.rom.trans h.rom, k.profile.trans h.profile, k.first.trans h.first,
    k.second.trans h.second, k.copies.trans h.copies, k.cache.trans h.cache, k.fault.trans h.fault,
    k.shadows.trans h.shadows, k.pending.trans h.pending⟩

theorem ite {s t u : State} {c : Prop} [Decidable c] (h : SameShell s t) (k : SameShell s u) :
    SameShell s (if c then t else u) := by split <;> assumption

/-- States with one shell answer alike at their ports. -/
theorem path {s t : State} (h : SameShell s t) (p : PortId) : t.path p = s.path p := by
  cases p
  · exact h.first
  · exact h.second

theorem side {s t : State} (h : SameShell s t) (p : PortId) : t.side p = s.side p := by
  cases p <;> simp only [State.side, h.profile]

theorem base {s t : State} (h : SameShell s t) (b : Fin 7) : t.base b = s.base b := by
  simp only [State.base, h.profile]

end SameShell

variable (s : State)

/-! ## Small updates -/

theorem State.raise_shell (n : Notice) : SameShell s (s.raise n) := by constructor <;> rfl
theorem State.raiseIf_shell (c : Bool) (n : Notice) : SameShell s (s.raiseIf c n) := by
  cases c
  · exact .refl s
  · exact s.raise_shell n
theorem State.indicate_shell (i : Nat) : SameShell s (s.indicate i) := by constructor <;> rfl
theorem State.indicateIf_shell (c : Bool) (i : Nat) : SameShell s (s.indicateIf c i) := by
  cases c
  · exact .refl s
  · exact s.indicate_shell i
theorem State.granted_shell (g : Grantee) : SameShell s (s.granted g) := by constructor <;> rfl
theorem State.write_shell (g : Grantee) (ws : List (Nat × Word)) : SameShell s (s.write g ws) := by
  constructor <;> rfl
theorem State.serve_shell (rs : List Request) : SameShell s (s.serve rs) := by
  constructor <;> simp
theorem State.engine_shell (e : Engine) : SameShell s { s with engine := e } := by constructor <;> rfl
theorem State.ice_shell (i : Ice) : SameShell s { s with ice := i } := by constructor <;> rfl
theorem State.tags_shell (i : Tags) : SameShell s { s with tags := i } := by constructor <;> rfl
theorem State.weigh_shell (i : Weigh) : SameShell s { s with weigh := i } := by constructor <;> rfl
theorem State.clock_shell (i : HallClock) : SameShell s { s with clock := i } := by constructor <;> rfl
theorem State.store_shell (m : Memory) : SameShell s { s with store := m } := by constructor <;> rfl
theorem State.notices_shell (m : Notices) : SameShell s { s with notices := m } := by constructor <;> rfl
theorem State.withGuard_shell (g : List RecordId) : SameShell s (s.withGuard g) := by constructor <;> rfl
theorem State.setBay_shell (b : Fin 6) (c : BayChannel) : SameShell s (s.setBay b c) := by
  constructor <;> rfl
theorem State.setScale_shell (n : Fin 8) (c : ScaleChannel) : SameShell s (s.setScale n c) := by
  constructor <;> rfl
theorem State.setReader_shell (r : Fin 12) (c : ReaderChannel) : SameShell s (s.setReader r c) := by
  constructor <;> rfl
theorem State.setDesk_shell (slot : Fin 3) (t : Status) : SameShell s (s.setDesk slot t) := by
  constructor <;> rfl

/-! ## Clock -/

theorem State.takeHold_shell (on : Bool) : SameShell s (s.takeHold on) :=
  .ite ((s.clock_shell _).trans (State.raise_shell _ _)) (s.clock_shell _)
theorem State.clockControlWrite_shell (v : Word) : SameShell s (s.clockControlWrite v) :=
  (s.takeHold_shell _).trans (State.clock_shell _ _)
theorem State.scheduleAction_shell (k : Fin 4) : SameShell s (s.scheduleAction k) := by
  unfold State.scheduleAction
  split
  · exact .ite (s.clock_shell _) (.refl s)
  · exact s.ice_shell _
  · exact s.ice_shell _
  · exact s.raise_shell _
theorem State.matchEntry_shell (k : Fin 4) : SameShell s (s.matchEntry k) := by
  refine .trans ?_ (State.clock_shell _ _)
  exact .ite ((s.clock_shell _).trans (State.scheduleAction_shell _ _)) (.refl s)
theorem State.matchSchedule_shell : SameShell s s.matchSchedule :=
  ((s.matchEntry_shell 0).trans (State.matchEntry_shell _ 1)).trans
    ((State.matchEntry_shell _ 2).trans (State.matchEntry_shell _ 3))

/-! ## Journal -/

theorem State.writeImages_shell (seq : Word) (is : List Image) :
    SameShell s (s.writeImages seq is) := by
  induction is generalizing s with
  | nil => exact .refl s
  | cons i is ih => exact (s.write_shell _ _).trans (ih _)
theorem State.setEngineRecord_shell (r : EngineRecord) : SameShell s (s.setEngineRecord r) :=
  (s.write_shell _ _).trans (State.engine_shell _ _)
theorem State.openEntry_shell (e : JournalEntry) (seq : Word) (i : Image) (st : Word) :
    SameShell s (s.openEntry e seq i st) := s.write_shell _ _
theorem State.closeEntry_shell (seq : Word) : SameShell s (s.closeEntry seq) := s.write_shell _ _
theorem State.writeEntry_shell (e : JournalEntry) (r : EngineRecord) :
    SameShell s (s.writeEntry e r) := by
  refine .trans (.trans ?_ (State.setEngineRecord_shell _ r)) (State.raise_shell _ _)
  exact .ite (s.openEntry_shell _ _ _ _)
    (((s.openEntry_shell _ _ _ _).trans (State.writeImages_shell _ _ _)).trans
      (State.closeEntry_shell _ _))
theorem State.setBayCopy_shell (b : Fin 6) (r : BayRecord) : SameShell s (s.setBayCopy b r) :=
  (s.setBay_shell _ _).trans (State.indicateIf_shell _ _ _)
theorem State.copyBayImage_shell (n : BitVec 8) (r : BayRecord) : SameShell s (s.copyBayImage n r) := by
  unfold State.copyBayImage
  split
  · exact .ite (s.setBayCopy_shell _ _) (.refl s)
  · exact .refl s
theorem State.copyBayImages_shell (is : List Image) : SameShell s (s.copyBayImages is) := by
  induction is generalizing s with
  | nil => exact .refl s
  | cons i is ih =>
    cases i with
    | bay n r => exact (s.copyBayImage_shell _ _).trans (ih _)
    | _ => exact ih s
theorem State.redoEngineImage_shell (is : List Image) : SameShell s (s.redoEngineImage is) := by
  unfold State.redoEngineImage
  split
  · exact .refl s
  · exact (s.setEngineRecord_shell _).trans (State.raiseIf_shell _ _ _)
theorem State.redo_shell {t : State} (h : s.redo = some t) : SameShell s t := by
  unfold State.redo at h
  simp only at h
  split at h
  · cases h
  · split at h
    · cases h; exact s.granted_shell _
    · split at h
      · cases h
        exact ((((s.granted_shell _).trans (State.writeImages_shell _ _ _)).trans
          (State.copyBayImages_shell _ _)).trans (State.closeEntry_shell _ _)).trans
          (State.redoEngineImage_shell _ _)
      · split at h
        · cases h; exact (s.granted_shell _).trans (State.redoEngineImage_shell _ _)
        · cases h; exact s.granted_shell _
theorem State.haltAtRedo_shell : SameShell s s.haltAtRedo :=
  (s.engine_shell _).trans (State.raise_shell _ _)

/-! ## Queue -/

theorem State.enqueue_shell (p : Posting) : SameShell s (s.enqueue p) :=
  .ite (s.engine_shell _) (s.engine_shell _)
theorem State.takeNext_shell : SameShell s s.takeNext := by
  unfold State.takeNext
  split <;> exact s.engine_shell _
theorem State.endPosting_shell : SameShell s s.endPosting :=
  .ite ((s.engine_shell _).trans (State.raise_shell _ _)) s.takeNext_shell
theorem State.dropWaiting_shell (i : Fin 11) : SameShell s (s.dropWaiting i) := by
  unfold State.dropWaiting
  split
  · exact s.tags_shell _
  · split
    · exact s.setBay_shell _ _
    · split
      · exact s.clock_shell _
      · exact .refl s
theorem State.admitInternal_shell : SameShell s s.admitInternal := by
  unfold State.admitInternal
  split
  · split
    · exact .refl s
    · exact ((s.dropWaiting_shell _).trans (State.engine_shell _ _)).trans (State.enqueue_shell _ _)
  · exact .refl s

/-! ## Stations -/

theorem State.takeSample_shell (n : Fin 8) (v : Nat) : SameShell s (s.takeSample n v) :=
  (s.setScale_shell _ _).trans (State.indicateIf_shell _ _ _)
theorem State.takeTest_shell (n : Fin 8) : SameShell s (s.takeTest n) := s.setScale_shell _ _
theorem State.scaleStatus_shell (n : Fin 8) (t : Status) : SameShell s (s.scaleStatus n t) :=
  s.setScale_shell _ _
theorem State.takeCommit_shell (n : Fin 8) : SameShell s (s.takeCommit n) :=
  .ite (s.scaleStatus_shell _ _) <| .ite (s.scaleStatus_shell _ _) <| .ite (s.scaleStatus_shell _ _) <|
    .ite ((s.setScale_shell _ _).trans (State.enqueue_shell _ _)) (s.scaleStatus_shell _ _)
theorem State.reportScale_shell (n : Fin 8) (r : Option Reason) (t : Status) :
    SameShell s (s.reportScale n r t) := (s.setScale_shell _ _).trans (State.indicate_shell _ _)
theorem State.restartScales_shell : SameShell s s.restartScales := s.weigh_shell _
theorem State.readerStatus_shell (r : Fin 12) (t : Status) : SameShell s (s.readerStatus r t) :=
  (s.setReader_shell _ _).trans (State.indicate_shell _ _)
theorem State.declareAtScale_shell (n : Fin 8) (v : Word) : SameShell s (s.declareAtScale n v) :=
  (s.setScale_shell _ _).trans (State.readerStatus_shell _ _ _)
theorem State.declareAtGate_shell (g : Fin 4) (v : Word) : SameShell s (s.declareAtGate g v) :=
  .ite (s.readerStatus_shell _ _) ((s.setReader_shell _ _).trans (State.readerStatus_shell _ _ _))
theorem State.declare_shell (r : Fin 12) (v : Word) : SameShell s (s.declare r v) := by
  unfold State.declare
  dsimp only
  split
  · exact (s.setReader_shell _ _).trans (State.declareAtScale_shell _ _ _)
  · exact (s.setReader_shell _ _).trans (State.declareAtGate_shell _ _ _)
theorem State.takeRaw_shell (r : Fin 12) (v : Word) : SameShell s (s.takeRaw r v) :=
  .ite (s.setReader_shell _ _)
    ((s.setReader_shell _ _).trans (.ite (State.declare_shell _ _ _) (.refl _)))
theorem State.reportGate_shell (g : Fin 4) (t : Status) : SameShell s (s.reportGate g t) :=
  (s.setReader_shell _ _).trans (State.readerStatus_shell _ _ _)
theorem State.restartReaders_shell : SameShell s s.restartReaders := s.tags_shell _
theorem State.setDeclareMode_shell (m : DeclareMode) : SameShell s (s.setDeclareMode m) :=
  .ite (.refl s) (s.tags_shell _)
theorem State.bayTransition_shell (b : Fin 6) (r : BayRecord) : SameShell s (s.bayTransition b r) :=
  (s.setBayCopy_shell b r).trans (.ite (State.setBay_shell _ _ _) (.refl _))
theorem State.bayChange_shell (b : Fin 6) (r : BayRecord) (ps : List Nat) (rs : List Request := []) :
    SameShell s (s.bayChange b r ps rs) := (s.bayTransition_shell b r).trans (State.serve_shell _ _)
theorem State.writeBack_shell (b : Fin 6) : SameShell s (s.writeBack b) :=
  (s.write_shell _ _).trans (State.setBay_shell _ _ _)
theorem State.bayStatus_shell (b : Fin 6) (t : Status) : SameShell s (s.bayStatus b t) :=
  (s.setBay_shell _ _).trans (State.indicate_shell _ _)
theorem State.stall_shell (b : Fin 6) (ps : List Nat) : SameShell s (s.stall b ps) :=
  (s.bayChange_shell _ _ _).trans (State.raise_shell _ _)
theorem State.takeRequest_shell (b : Fin 6) (sh : BayShadow) (rs : List Request) :
    SameShell s (s.takeRequest b sh rs) :=
  have h (t : Status) : SameShell s ((s.bayStatus b t).serve rs) :=
    (s.bayStatus_shell _ _).trans (State.serve_shell _ _)
  .ite (h _) <| .ite (h _) <|
    .ite (((s.bayStatus_shell _ _).trans (State.bayChange_shell _ _ _ _ _)).trans
      (State.enqueue_shell _ _)) (h _)
theorem State.takeDone_shell (b : Fin 6) (sh : BayShadow) (rs : List Request) :
    SameShell s (s.takeDone b sh rs) :=
  .ite ((s.setBay_shell _ _).trans (State.bayChange_shell _ _ _ _ _))
    ((s.bayStatus_shell _ _).trans (State.serve_shell _ _))
theorem State.takeBayTrigger_shell (b : Fin 6) (d : Bool) (sh : BayShadow) (rs : List Request) :
    SameShell s (s.takeBayTrigger b d sh rs) :=
  .ite (s.takeDone_shell _ _ _) (s.takeRequest_shell _ _ _)
theorem State.tickBay_shell (b : Fin 6) : SameShell s (s.tickBay b) :=
  .ite (.ite ((s.bayChange_shell _ _ _).trans (State.raise_shell _ _)) (s.bayChange_shell _ _ _))
    (.refl s)
theorem State.tickBays_shell : SameShell s s.tickBays :=
  (((((s.tickBay_shell 0).trans (State.tickBay_shell _ 1)).trans (State.tickBay_shell _ 2)).trans
    (State.tickBay_shell _ 3)).trans (State.tickBay_shell _ 4)).trans (State.tickBay_shell _ 5)
theorem State.tick_shell : SameShell s s.tick :=
  .ite (((s.clock_shell _).trans (State.raiseIf_shell _ _ _)).trans
    (.ite ((State.tickBays_shell _).trans (State.matchSchedule_shell _)) (.refl _))) (.refl s)
theorem State.restartBay_shell (b : Fin 6) : SameShell s (s.restartBay b) :=
  .ite ((s.bayTransition_shell _ _).trans (State.raise_shell _ _)) (.refl s)
theorem State.restartBays_shell (rs : List Request) : SameShell s (s.restartBays rs) :=
  ((((((s.restartBay_shell 0).trans (State.restartBay_shell _ 1)).trans (State.restartBay_shell _ 2)).trans
    (State.restartBay_shell _ 3)).trans (State.restartBay_shell _ 4)).trans
    (State.restartBay_shell _ 5)).trans (State.serve_shell _ _)
theorem State.quayRestart_shell (rs : List Request) : SameShell s (s.quayRestart rs) :=
  ((s.restartScales_shell.trans (State.restartReaders_shell _)).trans (State.restartBays_shell _ rs)).trans
    (State.notices_shell _ _)

/-! ## Engine -/

theorem State.settleDue_shell (rs : List RecordId) : SameShell s (s.settleDue rs) := by
  induction rs generalizing s with
  | nil => exact .refl s
  | cons r rs ih =>
    cases r with
    | bay b =>
      simp only [State.settleDue]
      refine .trans ?_ (ih _)
      split
      · exact .ite (s.writeBack_shell _) (.refl s)
      · exact .refl s
    | _ => exact ih s
theorem State.placeGuard_shell (rs : List RecordId) : SameShell s (s.placeGuard rs) :=
  (s.settleDue_shell rs).trans (State.withGuard_shell _ _)
theorem State.reportDesk_shell (slot : Fin 3) (t : Status) : SameShell s (s.reportDesk slot t) :=
  (s.setDesk_shell _ _).trans (State.raise_shell _ _)
theorem State.bayApplied_shell (b : Fin 6) (r : BayRecord) (q : Option Word) :
    SameShell s (s.bayApplied b r q) := (s.setBayCopy_shell _ _).trans (State.bayStatus_shell _ _ _)
theorem State.holdRefused_shell (b : Fin 6) (t : Status) : SameShell s (s.holdRefused b t) :=
  (s.bayStatus_shell _ _).trans (State.bayChange_shell _ _ _ _)
theorem State.settleRefused_shell (b : Fin 6) (p : Posting) (r : Reason) (t : Status) :
    SameShell s (s.settleRefused b p r t) := by
  unfold State.settleRefused
  dsimp only
  split
  · exact (s.bayStatus_shell b t).trans (State.setBay_shell _ _ _)
  · exact s.bayStatus_shell b t
  · exact (s.bayStatus_shell b t).trans (State.stall_shell _ _ _)
theorem State.reportBay_shell (b : Fin 6) (p : Posting) (r : Option Reason) (q : Option Word)
    (is : List Image) : SameShell s (s.reportBay b p r q is) := by
  unfold State.reportBay
  split
  · exact .ite (s.holdRefused_shell _ _) (s.settleRefused_shell _ _ _ _)
  · split
    · exact s.bayApplied_shell _ _ _
    · exact .refl s
theorem State.handBayImage_shell (is : List Image) (q : Option Word) :
    SameShell s (s.handBayImage is q) := by
  unfold State.handBayImage
  split
  · exact s.bayApplied_shell _ _ _
  · exact .refl s
theorem State.report_shell (p : Posting) (r : Option Reason) (q v : Option Word) (is : List Image) :
    SameShell s (s.report p r q v is) := by
  unfold State.report
  dsimp only
  split
  · exact s.reportDesk_shell _ _
  · exact (s.handBayImage_shell _ _).trans (State.reportDesk_shell _ _ _)
  · exact s.reportScale_shell _ _ _
  · exact s.reportGate_shell _ _
  · exact s.reportBay_shell _ _ _ _ _
  · exact s.clock_shell _
theorem State.haltAt_shell (c : HaltCause) : SameShell s (s.haltAt c) :=
  (s.engine_shell _).trans (State.raise_shell _ _)
theorem State.writeDueEntry_shell (d : Due) : SameShell s (s.writeDueEntry d) :=
  (((s.writeEntry_shell _ _).trans (State.withGuard_shell _ _)).trans
    (State.report_shell _ _ _ _ _ _)).trans (.ite (State.haltAt_shell _ _) (State.endPosting_shell _))
theorem State.waitForJournal_shell (w : Work) : SameShell s (s.waitForJournal w) :=
  (s.engine_shell _).trans (State.raise_shell _ _)
theorem State.entryDue_shell (d : Due) : SameShell s (s.entryDue d) :=
  .ite (s.waitForJournal_shell _) (s.writeDueEntry_shell _)
theorem State.refuse_shell (p : Posting) (r : Reason) : SameShell s (s.refuse p r) :=
  s.entryDue_shell _
theorem State.refuseBare_shell (p : Posting) (r : Reason) : SameShell s (s.refuseBare p r) :=
  (s.report_shell _ _ _ _ _).trans (State.endPosting_shell _)

/-- The state that phases 1 to 4 leave has the shell of the state they began in. -/
def Applied.keeps (s : State) : Applied → Prop
  | .bare _ => True
  | .refused t _ => SameShell s t
  | .accepted t _ => SameShell s t
  | .closing t _ => SameShell s t

theorem State.judge_keeps (p : Posting) (k : PostKind) (plan : Plan) : (s.judge p k plan).keeps s := by
  unfold State.judge
  split
  · exact .refl s
  · split
    · exact .refl s
    · exact .refl s
    · exact .refl s

theorem Applied.keeps_trans {s t : State} {a : Applied} (h : SameShell s t) (k : a.keeps t) :
    a.keeps s := by
  cases a
  · trivial
  all_goals exact h.trans k

theorem State.examine_keeps (p : Posting) (k : PostKind) (plan : Plan) :
    (s.examine p k plan).keeps s := by
  unfold State.examine
  split
  · trivial
  · dsimp only
    split
    · exact (s.placeGuard_shell _).trans (State.granted_shell _ _)
    · split
      · exact ((s.placeGuard_shell _).trans (State.granted_shell _ _)).trans (State.placeGuard_shell _ _)
      · exact Applied.keeps_trans
          (((s.placeGuard_shell _).trans (State.granted_shell _ _)).trans (State.placeGuard_shell _ _))
          (State.judge_keeps _ _ _ _)

/-! ## FORMAT -/

theorem State.formatBay_shell (b : Fin 6) : SameShell s (s.formatBay b) :=
  (s.write_shell _ _).trans (State.setBayCopy_shell _ _ _)
theorem State.formatBays_shell : SameShell s s.formatBays :=
  (((((s.formatBay_shell 0).trans (State.formatBay_shell _ 1)).trans (State.formatBay_shell _ 2)).trans
    (State.formatBay_shell _ 3)).trans (State.formatBay_shell _ 4)).trans (State.formatBay_shell _ 5)
theorem State.formatEngine_shell : SameShell s s.formatEngine :=
  ((s.setEngineRecord_shell _).trans (State.write_shell _ _ _)).trans (State.engine_shell _ _)
theorem State.formatRecords_shell : SameShell s s.formatRecords := s.store_shell _
theorem State.formatJournal_shell : SameShell s s.formatJournal := s.write_shell _ _
theorem State.formatStores_shell : SameShell s s.formatStores := by
  refine .trans ?_ (State.formatBays_shell _)
  refine .trans ?_ (State.formatJournal_shell _)
  refine .trans ?_ (State.formatRecords_shell _)
  refine .trans ?_ (State.setEngineRecord_shell _ _)
  exact s.engine_shell _
theorem State.formatEntry_shell (ps : Params) (st : Stamp) : SameShell s (s.formatEntry ps st) :=
  s.writeEntry_shell _ _
theorem State.formatEnd_shell : SameShell s s.formatEnd :=
  (s.setEngineRecord_shell _).trans (State.withGuard_shell _ _)
theorem State.formatHall_shell (ps : Params) (st : Stamp) :
    SameShell s (s.formatHall ps st undisturbed) := by
  simp only [State.formatHall, undisturbed]
  refine .trans ?_ (State.formatEnd_shell _)
  refine .trans ?_ (State.formatEntry_shell _ _ _)
  exact s.formatStores_shell.trans (State.formatEngine_shell _)
theorem State.applyFormat_shell (p : Posting) : SameShell s (s.applyFormat p undisturbed) := by
  unfold State.applyFormat
  split
  · exact .ite ((s.placeGuard_shell _).trans (State.refuse_shell _ _ _)) (s.refuseBare_shell _ _)
  · exact ((s.formatHall_shell _ _).trans (State.report_shell _ _ _ _ _ _)).trans
      (State.endPosting_shell _)
theorem State.forceFormat_shell : SameShell s (s.forceFormat undisturbed) := by
  have h : SameShell s
      { s.formatHall Params.zero s.stamp undisturbed with
        engine := { (s.formatHall Params.zero s.stamp undisturbed).engine with
          halt := none, work := .none } } :=
    (s.formatHall_shell _ _).trans (State.engine_shell _ _)
  unfold State.forceFormat
  refine .trans ?_ (State.endPosting_shell _)
  dsimp only
  split
  · exact .ite (h.trans (State.report_shell _ _ _ _ _ _)) h
  · exact h

/-! ## Day close -/

theorem State.stopClose_shell (c : CloseWork) : SameShell s (s.stopClose c) := s.engine_shell _
theorem State.haltClose_shell (c : CloseWork) : SameShell s (s.haltClose c) :=
  (s.withGuard_shell _).trans (State.haltAt_shell _ _)
theorem State.writeStruck_shell (c : CloseWork) : SameShell s (s.writeStruck c) :=
  (s.writeEntry_shell _ _).trans (State.haltClose_shell _ _)
theorem State.strikeClose_shell (c : CloseWork) : SameShell s (s.strikeClose c) :=
  .ite (s.stopClose_shell _) <| .ite (s.waitForJournal_shell _) (s.writeStruck_shell _)
theorem State.holdClose_shell (c : CloseWork) (d : CloseDue) : SameShell s (s.holdClose c d) :=
  .ite (s.stopClose_shell _) (s.waitForJournal_shell _)
theorem State.writeClosed_shell (c : CloseWork) : SameShell s (s.writeClosed c) := by
  unfold State.writeClosed
  refine .trans ?_ (State.endPosting_shell _)
  have h (e : JournalEntry) (r : EngineRecord) :
      SameShell s (((s.writeEntry e r).withGuard []).raise .dayClosed) :=
    ((s.writeEntry_shell _ _).trans (State.withGuard_shell _ _)).trans (State.raise_shell _ _)
  exact .ite ((h _ _).trans (State.report_shell _ _ _ _ _ _)) (h _ _)
theorem State.finishClose_shell (c : CloseWork) : SameShell s (s.finishClose c) :=
  .ite (s.holdClose_shell _ _) (s.writeClosed_shell _)
theorem State.rollAccounts_shell (c : CloseWork) (n : Nat) : SameShell s (s.rollAccounts c n) := by
  induction n generalizing s c with
  | zero => exact s.finishClose_shell c
  | succ n ih =>
    have h (g : List RecordId) (w : Grantee) : SameShell s ((s.withGuard g).granted w) :=
      (s.withGuard_shell _).trans (State.granted_shell _ _)
    unfold State.rollAccounts
    dsimp only
    split
    · exact (h _ _).trans (State.strikeClose_shell _ _)
    · split
      · exact (((h _ _).trans (State.write_shell _ _ _)).trans (State.withGuard_shell _ _)).trans (ih _ _)
      · exact ((h _ _).trans (State.withGuard_shell _ _)).trans (ih _ _)
theorem State.writeWithdrawal_shell (e : JournalEntry) : SameShell s (s.writeWithdrawal e) :=
  (s.writeEntry_shell _ _).trans (State.withGuard_shell _ _)
theorem State.withdrawLots_shell (c : CloseWork) (n : Nat) :
    SameShell s (s.withdrawLots c undisturbed n) := by
  induction n generalizing s c with
  | zero => exact s.rollAccounts_shell c 256
  | succ n ih =>
    have h (g : List RecordId) (w : Grantee) : SameShell s ((s.withGuard g).granted w) :=
      (s.withGuard_shell _).trans (State.granted_shell _ _)
    unfold State.withdrawLots
    dsimp only
    split
    · exact (h _ _).trans (State.strikeClose_shell _ _)
    · split
      · split
        · exact ((h _ _).trans (State.placeGuard_shell _ _)).trans (State.strikeClose_shell _ _)
        · split
          · exact ((h _ _).trans (State.placeGuard_shell _ _)).trans (State.holdClose_shell _ _ _)
          · exact (((h _ _).trans (State.placeGuard_shell _ _)).trans
              (State.writeWithdrawal_shell _ _)).trans (ih _ _)
      · exact ((h _ _).trans (State.withGuard_shell _ _)).trans (ih _ _)
theorem State.runClose_shell (c : CloseWork) : SameShell s (s.runClose c undisturbed) :=
  (s.engine_shell _).trans (State.withdrawLots_shell _ _ _)
theorem State.beginClose_shell (c : CloseWork) : SameShell s (s.beginClose c undisturbed) :=
  (s.setEngineRecord_shell _).trans (State.runClose_shell _ _)
theorem State.leaveJournalWait_shell : SameShell s s.leaveJournalWait := by
  unfold State.leaveJournalWait
  split <;> exact s.engine_shell _
theorem State.releaseWork_shell : SameShell s (s.releaseWork undisturbed) := by
  unfold State.releaseWork
  split
  · exact (s.engine_shell _).trans (State.writeDueEntry_shell _ _)
  · dsimp only
    split
    · exact ((s.engine_shell _).trans (State.writeWithdrawal_shell _ _)).trans
        (State.withdrawLots_shell _ _ _)
    · exact (s.engine_shell _).trans (State.writeClosed_shell _ _)
    · exact (s.engine_shell _).trans (State.writeStruck_shell _ _)
  · exact .refl s

/-! ## Postings and commands -/

theorem State.conclude_shell (p : Posting) {a : Applied} (h : a.keeps s) :
    SameShell s (s.conclude p a) := by
  cases a with
  | bare r => exact s.refuseBare_shell p r
  | refused t r => exact SameShell.trans h (t.refuse_shell p r)
  | accepted t d => exact SameShell.trans h (t.entryDue_shell d)
  | closing t c => exact SameShell.trans h (t.beginClose_shell c)
theorem State.applyPlan_shell (p : Posting) (k : PostKind) (plan : Plan) :
    SameShell s (s.applyPlan p k plan) := s.conclude_shell p (s.examine_keeps p k plan)
theorem State.applyUnknown_shell (p : Posting) : SameShell s (s.applyUnknown p) :=
  .ite (((s.placeGuard_shell _).trans (State.granted_shell _ _)).trans (State.refuse_shell _ _ _))
    (s.refuseBare_shell _ _)
theorem State.applyTaken_shell (p : Posting) : SameShell s (s.applyTaken p) := by
  unfold State.applyTaken
  split
  · exact s.applyUnknown_shell p
  · split <;> first
      | exact s.applyPlan_shell _ _ _
      | exact s.applyFormat_shell _
      | exact .refl s
theorem State.applyRow_shell (k : PostKind) (plan : Posting → Plan) :
    SameShell s (s.applyRow k plan) := by
  unfold State.applyRow
  split
  · exact s.applyPlan_shell _ _ _
  · exact .refl s
theorem State.formatRow_shell : SameShell s s.formatRow := by
  unfold State.formatRow
  split
  · exact s.applyFormat_shell _
  · exact .refl s
theorem State.unknownRow_shell : SameShell s s.unknownRow := by
  unfold State.unknownRow
  split
  · exact .ite (s.applyUnknown_shell _) (.refl s)
  · exact .refl s
theorem State.journalRelease_shell : SameShell s (s.journalRelease undisturbed) := by
  unfold State.journalRelease
  refine .ite (.refl s) ?_
  split
  · exact s.releaseWork_shell
  · exact s.releaseWork_shell
  · exact .refl s
theorem State.stepCommand_shell : SameShell s s.stepCommand := .ite s.takeNext_shell (.refl s)
theorem State.repeatRedo_shell : SameShell s (s.repeatRedo undisturbed) := by
  unfold State.repeatRedo
  split
  · exact s.haltAtRedo_shell
  · next t h =>
    exact (s.redo_shell h).trans (.ite (t.runClose_shell _) t.takeNext_shell)
theorem State.resumeCommand_shell : SameShell s (s.resumeCommand undisturbed) := by
  unfold State.resumeCommand
  split
  · dsimp only
    split
    · exact (s.engine_shell _).trans (State.repeatRedo_shell _)
    · exact (s.engine_shell _).trans (State.runClose_shell _ _)
    · exact (s.engine_shell _).trans (State.takeNext_shell _)
  · exact .refl s
theorem State.formatCommand_shell : SameShell s (s.formatCommand undisturbed) :=
  .ite s.forceFormat_shell (.refl s)
theorem State.setStepMode_shell (on : Bool) : SameShell s (s.setStepMode on) :=
  (s.engine_shell _).trans (.ite (State.takeNext_shell _) (.refl _))
theorem State.setTail_shell (t : Word) : SameShell s (s.setTail t) :=
  (s.engine_shell _).trans (.ite (State.leaveJournalWait_shell _) (.refl _))

/-- A tick that stalls a bay, and the crystal, leave the shell alone. -/
theorem State.stallTick_shell (b : Fin 6) : SameShell s (s.stallTick b) := .ite s.tick_shell (.refl s)
theorem State.stopCrystal_shell (n : Nat) : SameShell s (s.stopCrystal n) :=
  .ite ((s.clock_shell _).trans (State.raiseIf_shell _ _ _)) (.refl s)
theorem State.startCrystal_shell : SameShell s s.startCrystal := .ite (s.clock_shell _) (.refl s)
theorem State.writeBackStep_shell (b : Fin 6) : SameShell s (s.writeBackStep b) :=
  .ite (s.writeBack_shell b) (.refl s)

end Sys2Proof.Machine
end

