-- ==== Sys2Proof/Laws/Access.lean ====
section
/-! SUPPORT. What a write that arrives at a free port of a RUNNING part does: taken or faulted, and the
state it leaves. -/

namespace Sys2Proof.Machine

/-! ## Port addresses -/

theorem addrBook_portAddr (b off : Nat) (hb : b < 64) : (addrBook (portAddr b off)).toNat = b := by
  have e : addrBook (portAddr b off) = BitVec.ofNat 6 b := by
    apply BitVec.eq_of_getLsbD_eq
    intro i hi
    have hi' : i < 6 := hi
    simp only [addrBook, portAddr, BitVec.getLsbD_extractLsb', hi', decide_true, Bool.true_and]
    rw [BitVec.getLsbD_append, if_neg (by omega)]
    simp
  rw [e, BitVec.toNat_ofNat]
  exact Nat.mod_eq_of_lt hb

theorem addrOffset_portAddr (b off : Nat) (ho : off < 262144) : addrOffset (portAddr b off) = off := by
  have e : (portAddr b off).extractLsb' 0 18 = BitVec.ofNat 18 off := by
    apply BitVec.eq_of_getLsbD_eq
    intro i hi
    have hi' : i < 18 := hi
    simp only [portAddr, BitVec.getLsbD_extractLsb', hi', decide_true, Bool.true_and, Nat.zero_add]
    rw [BitVec.getLsbD_append, if_pos hi']
  rw [addrOffset, e, BitVec.toNat_ofNat]
  exact Nat.mod_eq_of_lt ho

/-! ## Arrival -/

/-- A free path put to free is as it was. -/
theorem State.setWait_free {s : State} {p : PortId} (h : (s.path p).wait = .free) :
    s.setWait p .free = s := by
  have e : { s.path p with wait := Wait.free } = s.path p := by
    cases hx : s.path p; rw [hx] at h; simp_all
  rw [State.setWait, e, State.setPath_path]

/-- An access to a special book at a free port of a RUNNING part is checked at once. -/
theorem State.arrive_special {s : State} {p : PortId} (h : s.idlePort p) (book : Fin 7) (off : Nat)
    (size : Size) (w : Option Word) :
    s.arrive p ⟨portAddr book off, size, w⟩ = s.checkSpecial p book ⟨portAddr book off, size, w⟩ := by
  obtain ⟨hr, hw⟩ := h
  have hb : (addrBook (portAddr book off)).toNat = book := addrBook_portAddr _ _ (by omega)
  simp only [State.arrive, hw, hr, if_true, State.checkAccess, State.setWait_free hw]
  rw [dif_pos (by rw [hb]; exact book.2)]
  congr 1
  exact Fin.ext hb

theorem firstFail_append {α : Type} (xs ys : List (Bool × α)) :
    firstFail (xs ++ ys) = (firstFail xs).or (firstFail ys) := by
  induction xs with
  | nil => simp [firstFail]
  | cons x xs ih => cases h : x.1 <;> simp [firstFail, h, ih]

/-- The checks of a whole-word write that a port may make come to the checks of the word. -/
theorem State.specialChecks_write {s : State} {d : Side} {book : Fin 7} {off : Nat} (v : Word)
    (hm : s.mayWrite d book = true) (ho : off + 4 ≤ bookLimit book) (ha : off % 4 = 0)
    (hl : off < 262144) :
    firstFail (s.specialChecks d book ⟨portAddr book off, .word, some v⟩) =
      firstFail (s.wordChecks (specialWordAt book off) v) := by
  have e : (⟨portAddr book off, .word, some v⟩ : Access).offset = off := addrOffset_portAddr _ _ hl
  simp only [State.specialChecks, firstFail_append, e]
  simp [firstFail, sizeBytes, ho, hm, Access.isWrite, Access.aligned, e, ha]

/-- A whole-word write of a special book by the port that may write it: the checks of the word decide. -/
theorem State.write_arrives {s : State} {p : PortId} {book : Fin 7} {off : Nat} {v : Word}
    (h : s.owns p book) (ho : off + 4 ≤ bookLimit book) (ha : off % 4 = 0) (hl : off < 262144) :
    s.arrive p ⟨portAddr book off, .word, some v⟩ =
      match firstFail (s.wordChecks (specialWordAt book off) v) with
      | some r => s.faultAccess p ⟨portAddr book off, .word, some v⟩ r
      | none => s.writeSpecial p book ⟨portAddr book off, .word, some v⟩ v := by
  rw [State.arrive_special h.1, State.checkSpecial, State.specialChecks_write v h.2 ho ha hl]
  all_goals cases firstFail (s.wordChecks (specialWordAt book off) v) <;> rfl

/-! ## The state an accepted write leaves -/

/-- The words whose effect has the Ice Unit write store words beside the path's own. -/
def SpecialWord.atIce : SpecialWord → Bool
  | .quayRestart | .request _ | .done _ => true
  | _ => false

/-- An accepted write that the Ice Unit writes nothing for: the effect, then the path's own words. -/
theorem State.effect_block {s : State} {p : PortId} {w : SpecialWord} {v : Word} (h : w.atIce = false)
    (beside : List Request) : s.effect p w v beside = (s.blockEffect w v).serve beside := by
  cases w <;> first
    | rfl
    | cases h

/-- An accepted write of a live word that keeps its port free: the effect, and the answer DONE. -/
theorem State.writeSpecial_live {s : State} {p : PortId} {book : Fin 7} {off : Nat} {v : Word}
    {w : SpecialWord} (hw : specialWordAt book off = w) (hl : off < 262144) (live : w.isLive = true)
    (free : (s.path p).wait = .free)
    (keeps : (((s.dropSnapshot p).effect p w v []).path p).wait = ((s.dropSnapshot p).path p).wait) :
    s.writeSpecial p book ⟨portAddr book off, .word, some v⟩ v =
      ((s.dropSnapshot p).effect p w v []).answer p .done := by
  have e : (⟨portAddr book off, .word, some v⟩ : Access).offset = off := addrOffset_portAddr _ _ hl
  have f : ((s.dropSnapshot p).path p).wait = .free := by
    simp [State.dropSnapshot, free]
  simp only [State.writeSpecial, State.wordRequest, e, hw, live, if_true, keeps, f, Wait.atBay,
    Bool.false_eq_true, if_false]

/-- An accepted write of a store word that keeps its port free: the effect with the word, and the answer
DONE. -/
theorem State.writeSpecial_stored {s : State} {p : PortId} {book : Fin 7} {off : Nat} {v : Word}
    {w : SpecialWord} (hw : specialWordAt book off = w) (hl : off < 262144) (live : w.isLive = false)
    (free : (s.path p).wait = .free)
    (keeps : (((s.dropSnapshot p).effect p w v [(s.grantee p, s.base book + off, v)]).path p).wait =
      ((s.dropSnapshot p).path p).wait) :
    s.writeSpecial p book ⟨portAddr book off, .word, some v⟩ v =
      ((s.dropSnapshot p).effect p w v [(s.grantee p, s.base book + off, v)]).answer p .done := by
  have e : (⟨portAddr book off, .word, some v⟩ : Access).offset = off := addrOffset_portAddr _ _ hl
  have f : ((s.dropSnapshot p).path p).wait = .free := by
    simp [State.dropSnapshot, free]
  simp only [State.writeSpecial, State.wordRequest, e, hw, live, if_false, Bool.false_eq_true, keeps, f,
    Wait.atBay]

/-! ## The three ways a whole-word write can go -/

/-- A write that fails a check of its word faults with that check's reason. -/
theorem State.write_faults {s : State} {p : PortId} {book : Fin 7} {b off : Nat} {v : Word}
    {w : SpecialWord} {r : FaultReason} (hb : book.val = b) (h : s.owns p book)
    (hw : specialWordAt book off = w) (ho : off + 4 ≤ bookLimit book) (ha : off % 4 = 0)
    (hl : off < 262144) (checks : firstFail (s.wordChecks w v) = some r) :
    s.arrive p ⟨portAddr b off, .word, some v⟩ =
      s.faultAccess p ⟨portAddr b off, .word, some v⟩ r := by
  subst hb
  rw [State.write_arrives h ho ha hl, hw, checks]

/-- A write of a live word that passes its checks. -/
theorem State.live_write {s : State} {p : PortId} {book : Fin 7} {b off : Nat} {v : Word}
    {w : SpecialWord} (hb : book.val = b) (h : s.owns p book) (hw : specialWordAt book off = w)
    (ho : off + 4 ≤ bookLimit book) (ha : off % 4 = 0) (hl : off < 262144) (live : w.isLive = true)
    (checks : firstFail (s.wordChecks w v) = none)
    (keeps : (((s.dropSnapshot p).effect p w v []).path p).wait = ((s.dropSnapshot p).path p).wait) :
    s.arrive p ⟨portAddr b off, .word, some v⟩ = ((s.dropSnapshot p).effect p w v []).answer p .done := by
  subst hb
  rw [State.write_arrives h ho ha hl, hw, checks]
  exact State.writeSpecial_live hw hl live h.1.2 keeps

/-- A write of a store word that passes its checks. -/
theorem State.stored_write {s : State} {p : PortId} {book : Fin 7} {b off : Nat} {v : Word}
    {w : SpecialWord} (hb : book.val = b) (h : s.owns p book) (hw : specialWordAt book off = w)
    (ho : off + 4 ≤ bookLimit book) (ha : off % 4 = 0) (hl : off < 262144) (live : w.isLive = false)
    (checks : firstFail (s.wordChecks w v) = none)
    (keeps : (((s.dropSnapshot p).effect p w v [(s.grantee p, s.base book + off, v)]).path p).wait =
      ((s.dropSnapshot p).path p).wait) :
    s.arrive p ⟨portAddr b off, .word, some v⟩ =
      ((s.dropSnapshot p).effect p w v [(s.grantee p, s.base book + off, v)]).answer p .done := by
  subst hb
  rw [State.write_arrives h ho ha hl, hw, checks]
  exact State.writeSpecial_stored hw hl live h.1.2 keeps

end Sys2Proof.Machine
end

