-- ==== Sys2Proof/Laws/Memory.lean ====
section
/-! SUPPORT. The laws of the store: every operation keeps the canonical form, a write is read back,
and bytes outside it read as before. -/

namespace Sys2Proof.Machine

/-! ## Lookup in a list of cells -/

theorem lookup_eq_zero {x : Nat} {l : List Host.Cell} (h : ∀ c ∈ l, c.1 ≠ x) : lookup x l = 0 := by
  induction l with
  | nil => rfl
  | cons c cs ih =>
    simp only [lookup]
    rw [if_neg (h c (by simp)), ih (fun d hd => h d (by simp [hd]))]

theorem lookup_append_of_not_mem {x : Nat} {l k : List Host.Cell} (h : ∀ c ∈ l, c.1 ≠ x) :
    lookup x (l ++ k) = lookup x k := by
  induction l with
  | nil => rfl
  | cons c cs ih =>
    simp only [List.cons_append, lookup]
    rw [if_neg (h c (by simp)), ih (fun d hd => h d (by simp [hd]))]

theorem lookup_append_of_not_mem_right {x : Nat} {l k : List Host.Cell} (h : ∀ c ∈ k, c.1 ≠ x) :
    lookup x (l ++ k) = lookup x l := by
  induction l with
  | nil => exact lookup_eq_zero h
  | cons c cs ih => simp only [List.cons_append, lookup, ih]

theorem lookup_filter {x : Nat} {p : Host.Cell → Bool} {l : List Host.Cell}
    (h : ∀ c ∈ l, c.1 = x → p c = true) : lookup x (l.filter p) = lookup x l := by
  induction l with
  | nil => rfl
  | cons c cs ih =>
    have ih' := ih (fun d hd => h d (by simp [hd]))
    by_cases hx : c.1 = x
    · have hp := h c (by simp) hx
      simp [hp, lookup, hx]
    · by_cases hp : p c = true
      · simp [hp, lookup, hx, ih']
      · simp [hp, lookup, hx, ih']

/-! ## The cells of consecutive bytes -/

theorem cellsFrom_mem {a : Nat} {bs : List Byte} {c : Host.Cell} (h : c ∈ cellsFrom a bs) :
    a ≤ c.1 ∧ c.1 < a + bs.length ∧ c.2 ≠ 0#8 := by
  induction bs generalizing a with
  | nil => simp [cellsFrom] at h
  | cons b bs ih =>
    simp only [cellsFrom] at h
    simp only [List.length_cons]
    by_cases hb : b = 0#8
    · rw [if_pos hb] at h
      obtain ⟨h1, h2, h3⟩ := ih h
      exact ⟨by omega, by omega, h3⟩
    · rw [if_neg hb] at h
      rcases List.mem_cons.1 h with rfl | h
      · exact ⟨Nat.le_refl _, by dsimp only; omega, hb⟩
      · obtain ⟨h1, h2, h3⟩ := ih h
        exact ⟨by omega, by omega, h3⟩

theorem cellsFrom_sorted (a : Nat) (bs : List Byte) :
    (cellsFrom a bs).Pairwise (fun c d => c.1 < d.1) := by
  induction bs generalizing a with
  | nil => simp [cellsFrom]
  | cons b bs ih =>
    simp only [cellsFrom]
    by_cases hb : b = 0#8
    · rw [if_pos hb]; exact ih (a + 1)
    · rw [if_neg hb, List.pairwise_cons]
      refine ⟨fun d hd => ?_, ih (a + 1)⟩
      have := (cellsFrom_mem hd).1
      dsimp only
      omega

theorem lookup_cellsFrom (a i : Nat) (bs : List Byte) :
    lookup (a + i) (cellsFrom a bs) = bs.getD i 0 := by
  induction bs generalizing a i with
  | nil => simp [cellsFrom, lookup]
  | cons b bs ih =>
    have later : lookup a (cellsFrom (a + 1) bs) = 0 :=
      lookup_eq_zero fun c hc => by have := (cellsFrom_mem hc).1; omega
    cases i with
    | zero =>
      by_cases hb : b = 0#8
      · simp only [cellsFrom, if_pos hb, Nat.add_zero]
        rw [later, hb]; rfl
      · simp [cellsFrom, if_neg hb, lookup]
    | succ i =>
      have e : a + (i + 1) = (a + 1) + i := by omega
      by_cases hb : b = 0#8
      · simp only [cellsFrom, if_pos hb]
        rw [e, ih]; rfl
      · simp only [cellsFrom, if_neg hb, lookup]
        rw [if_neg (by omega), e, ih]; rfl

/-! ## The canonical form -/

theorem Memory.replace_wf {m : Memory} {a len : Nat} {new : List Host.Cell} (h : m.wf)
    (sorted : new.Pairwise (fun c d => c.1 < d.1))
    (within : ∀ c ∈ new, a ≤ c.1 ∧ c.1 < a + len ∧ c.2 ≠ 0#8) : (m.replace a len new).wf := by
  obtain ⟨hs, hn, hb⟩ := h
  refine ⟨?_, ?_, hb.sublist List.filter_sublist⟩
  · refine List.pairwise_append.2 ⟨hs.sublist List.filter_sublist,
      List.pairwise_append.2 ⟨sorted, hs.sublist List.filter_sublist, ?_⟩, ?_⟩
    · intro c hc d hd
      have h1 := within c hc
      have h2 := (List.mem_filter.1 hd).2
      simp only [decide_eq_true_eq] at h2
      omega
    · intro c hc d hd
      have h1 := (List.mem_filter.1 hc).2
      simp only [decide_eq_true_eq] at h1
      rcases List.mem_append.1 hd with hd | hd
      · have := within d hd; omega
      · have h2 := (List.mem_filter.1 hd).2
        simp only [decide_eq_true_eq] at h2
        omega
  · intro c hc
    rcases List.mem_append.1 hc with hc | hc
    · exact hn c (List.mem_filter.1 hc).1
    · rcases List.mem_append.1 hc with hc | hc
      · exact (within c hc).2.2
      · exact hn c (List.mem_filter.1 hc).1

theorem Memory.splice_wf {m : Memory} {a len : Nat} {new : List Host.Cell} (h : m.wf)
    (sorted : new.Pairwise (fun c d => c.1 < d.1))
    (within : ∀ c ∈ new, a ≤ c.1 ∧ c.1 < a + len ∧ c.2 ≠ 0#8) : (m.splice a len new).wf := by
  unfold Memory.splice
  split
  · exact Memory.replace_wf h sorted within
  · exact h
  · exact Memory.replace_wf h sorted within

theorem Memory.putBytes_wf {m : Memory} (h : m.wf) (a : Nat) (bs : List Byte) : (m.putBytes a bs).wf :=
  Memory.splice_wf h (cellsFrom_sorted a bs) fun _ hc => cellsFrom_mem hc

theorem Memory.putWord_wf {m : Memory} (h : m.wf) (a : Nat) (w : Word) : (m.putWord a w).wf :=
  Memory.putBytes_wf h a _

theorem Memory.clear_wf {m : Memory} (h : m.wf) (a len : Nat) : (m.clear a len).wf :=
  Memory.splice_wf h List.Pairwise.nil (by simp)

theorem Memory.putAll_wf {m : Memory} (h : m.wf) (ws : List (Nat × Word)) : (m.putAll ws).wf := by
  induction ws generalizing m with
  | nil => exact h
  | cons w ws ih => exact ih (Memory.putWord_wf h w.1 w.2)

theorem Memory.fuse_wf {m : Memory} (h : m.wf) (f : Option Nat) : ({ m with fuse := f } : Memory).wf := h

/-! ## The fuse -/

theorem Memory.putBytes_fuse {m : Memory} (h : m.fuse = none) (a : Nat) (bs : List Byte) :
    (m.putBytes a bs).fuse = none := by
  simp [Memory.putBytes, Memory.splice, h, Memory.replace]

theorem Memory.putWord_fuse {m : Memory} (h : m.fuse = none) (a : Nat) (w : Word) :
    (m.putWord a w).fuse = none := Memory.putBytes_fuse h a _

theorem Memory.putAll_fuse {m : Memory} (h : m.fuse = none) (ws : List (Nat × Word)) :
    (m.putAll ws).fuse = none := by
  induction ws generalizing m with
  | nil => exact h
  | cons w ws ih => exact ih (Memory.putWord_fuse h w.1 w.2)

theorem Memory.clear_fuse {m : Memory} (h : m.fuse = none) (a len : Nat) : (m.clear a len).fuse = none := by
  simp [Memory.clear, Memory.splice, h, Memory.replace]

/-! ## Reads after writes -/

theorem Memory.byte_replace_outside (m : Memory) {a len x : Nat} {new : List Host.Cell}
    (within : ∀ c ∈ new, a ≤ c.1 ∧ c.1 < a + len ∧ c.2 ≠ 0#8) (hx : x < a ∨ a + len ≤ x) :
    (m.replace a len new).byte x = m.byte x := by
  have hnew : ∀ c ∈ new, c.1 ≠ x := fun c hc => by have := within c hc; omega
  simp only [Memory.byte, Memory.replace]
  rcases hx with hx | hx
  · rw [lookup_append_of_not_mem_right]
    · exact lookup_filter fun c _ h => by simp; omega
    · intro c hc
      rcases List.mem_append.1 hc with hc | hc
      · exact hnew c hc
      · have h2 := (List.mem_filter.1 hc).2
        simp only [decide_eq_true_eq] at h2
        omega
  · rw [lookup_append_of_not_mem, lookup_append_of_not_mem hnew]
    · exact lookup_filter fun c _ h => by simp; omega
    · intro c hc
      have h2 := (List.mem_filter.1 hc).2
      simp only [decide_eq_true_eq] at h2
      omega

theorem Memory.byte_replace_inside (m : Memory) {a len x : Nat} {new : List Host.Cell}
    (hx : a ≤ x ∧ x < a + len) : (m.replace a len new).byte x = lookup x new := by
  simp only [Memory.byte, Memory.replace]
  rw [lookup_append_of_not_mem, lookup_append_of_not_mem_right]
  · intro c hc
    have h2 := (List.mem_filter.1 hc).2
    simp only [decide_eq_true_eq] at h2
    omega
  · intro c hc
    have h2 := (List.mem_filter.1 hc).2
    simp only [decide_eq_true_eq] at h2
    omega

/-- A write of consecutive bytes is read back, and every other byte reads as before. -/
theorem Memory.byte_putBytes {m : Memory} (h : m.fuse = none) (a x : Nat) (bs : List Byte) :
    (m.putBytes a bs).byte x = if a ≤ x ∧ x < a + bs.length then bs.getD (x - a) 0 else m.byte x := by
  simp only [Memory.putBytes, Memory.splice, h]
  split
  · next hx =>
    rw [Memory.byte_replace_inside m hx]
    obtain ⟨i, rfl⟩ := Nat.exists_eq_add_of_le hx.1
    rw [lookup_cellsFrom, Nat.add_sub_cancel_left]
  · exact Memory.byte_replace_outside m (fun c hc => cellsFrom_mem hc) (by omega)

theorem Memory.byte_clear {m : Memory} (h : m.fuse = none) (a len x : Nat) :
    (m.clear a len).byte x = if a ≤ x ∧ x < a + len then 0 else m.byte x := by
  simp only [Memory.clear, Memory.splice, h]
  split
  · next hx => rw [Memory.byte_replace_inside m hx]; rfl
  · exact Memory.byte_replace_outside m (by simp) (by omega)

theorem wordBytes_length (w : Word) : (wordBytes w).length = 4 := rfl

/-- The four bytes of a word make the word. -/
theorem wordBytes_join (w : Word) :
    (w.extractLsb' 24 8 ++ w.extractLsb' 16 8 ++ w.extractLsb' 8 8 ++ w.extractLsb' 0 8 : Word) = w := by
  apply BitVec.eq_of_getLsbD_eq
  intro i hi
  simp only [BitVec.getLsbD_append, BitVec.getLsbD_extractLsb']
  have e (n : Nat) (k : Bool) (h : k = true) (hn : n = i) : (k && w.getLsbD n) = w.getLsbD i := by
    rw [h, hn, Bool.true_and]
  split
  · exact e _ _ (by simp; omega) (by omega)
  · split
    · exact e _ _ (by simp; omega) (by omega)
    · split
      · exact e _ _ (by simp; omega) (by omega)
      · exact e _ _ (by simp; omega) (by omega)

/-- A word written is the word read. -/
theorem Memory.word_putWord_same {m : Memory} (h : m.fuse = none) (a : Nat) (w : Word) :
    (m.putWord a w).word a = w := by
  simp only [Memory.word, Memory.putWord, Memory.byte_putBytes h, wordBytes_length]
  simp only [Nat.le_add_right, true_and, Nat.add_lt_add_iff_left, Nat.le_refl]
  simp [wordBytes, wordBytes_join]

/-- A byte outside a written word reads as before. -/
theorem Memory.byte_putWord_outside {m : Memory} (h : m.fuse = none) {a x : Nat} (w : Word)
    (hx : x < a ∨ a + 4 ≤ x) : (m.putWord a w).byte x = m.byte x := by
  rw [Memory.putWord, Memory.byte_putBytes h, wordBytes_length, if_neg (by omega)]

/-- A word that shares no byte with a written word reads as before. -/
theorem Memory.word_putWord_apart {m : Memory} (h : m.fuse = none) {a b : Nat} (w : Word)
    (hb : b + 4 ≤ a ∨ a + 4 ≤ b) : (m.putWord a w).word b = m.word b := by
  have e (i : Nat) (hi : i < 4) : (m.putWord a w).byte (b + i) = m.byte (b + i) :=
    Memory.byte_putWord_outside h w (by omega)
  have e0 := e 0 (by omega)
  simp only [Nat.add_zero] at e0
  simp only [Memory.word, e 3 (by omega), e 2 (by omega), e 1 (by omega), e0]

/-- A byte outside every written word reads as before. -/
theorem Memory.byte_putAll_outside {m : Memory} (h : m.fuse = none) {ws : List (Nat × Word)} {x : Nat}
    (hx : ∀ w ∈ ws, x < w.1 ∨ w.1 + 4 ≤ x) : (m.putAll ws).byte x = m.byte x := by
  induction ws generalizing m with
  | nil => rfl
  | cons w ws ih =>
    rw [Memory.putAll, ih (Memory.putWord_fuse h _ _) fun v hv => hx v (by simp [hv])]
    exact Memory.byte_putWord_outside h w.2 (hx w (by simp))

/-- A word apart from every written word reads as before. -/
theorem Memory.word_putAll_apart {m : Memory} (h : m.fuse = none) {ws : List (Nat × Word)} {b : Nat}
    (hb : ∀ w ∈ ws, b + 4 ≤ w.1 ∨ w.1 + 4 ≤ b) : (m.putAll ws).word b = m.word b := by
  have e (i : Nat) (hi : i < 4) : (m.putAll ws).byte (b + i) = m.byte (b + i) :=
    Memory.byte_putAll_outside h fun w hw => by have := hb w hw; omega
  have e0 := e 0 (by omega)
  simp only [Nat.add_zero] at e0
  simp only [Memory.word, e 3 (by omega), e 2 (by omega), e 1 (by omega), e0]

end Sys2Proof.Machine
end

