-- ==== Sys2Proof/WellFormed.lean ====
section
/-! DEFINITION. Which commands are well formed: the operands a controller can put on its bus, and
the tags of books that have a descriptor. Operands whose type already bounds them need no check. -/

namespace Sys2Proof

/-- The number of values a bus write of this size carries. -/
def Size.values : Size → Nat
  | .byte => 256
  | .half => 65536
  | .word => 4294967296

/-- The data of a write fits its size (00_scope, "External connections"). -/
def dataFits (size : Size) (data : Word) : Bool := data.toNat < size.values

/-- Only the plain books 7–63 have descriptors to fetch (R54). -/
def plainBook (book : BitVec 6) : Bool := 7 ≤ book.toNat

/-- The check of a whole command. -/
def Instr.wellFormed : Instr → Bool
  | .powerUp => true
  | .reset _ => true
  | .secondTick => true
  | .stallTimeout _ => true
  | .crystalStop _ => true
  | .portRead _ _ _ => true
  | .descriptorFetchDone book => plainBook book
  | .guardedReadResume _ => true
  | .latchingRead _ _ _ => true
  | .clockDateRead _ => true
  | .clockTimeRead _ => true
  | .portWrite _ _ size data => dataFits size data
  | .descriptorWordWrite _ _ _ _ => true
  | .invalidateAll _ => true
  | .step _ => true
  | .engineResume _ => true
  | .engineFormat _ => true
  | .commandZero _ => true
  | .hallModeTrading _ => true
  | .hallModeSetup _ => true
  | .noticeFlagsClear _ _ => true
  | .noticeEnableWrite _ _ => true
  | .clockHoldOn _ _ => true
  | .clockHoldOff _ _ => true
  | .clearFail _ _ => true
  | .clearMatched _ _ => true
  | .clockDateWrite _ _ => true
  | .clockTimeWrite _ _ => true
  | .tariffBandWrite _ _ => true
  | .scheduleWrite _ _ _ => true
  | .declareModeWrite _ _ => true
  | .stepModeWrite _ _ => true
  | .tailWrite _ _ => true
  | .journalWaitRelease => true
  | .ownerWrite _ _ _ => true
  | .faultRecordClear _ => true
  | .quayIndicationClear _ _ => true
  | .quayRestart _ => true
  | .slotParameterWrite _ _ _ => true
  | .rostrumTrigger _ _ _ => true
  | .deskTrigger _ _ => true
  | .commit _ _ _ => true
  | .sample _ _ _ => true
  | .test _ _ _ => true
  | .raw _ _ _ => true
  | .bayRequest _ _ _ => true
  | .bayDone _ _ _ => true
  | .bayHeldTrigger _ => true
  | .bayRecordWriteBack _ => true
  | .internalAdmission => true
  | .openAccount => true
  | .setCredit => true
  | .freeze => true
  | .thaw => true
  | .closeAccount => true
  | .transfer => true
  | .format => true
  | .land => true
  | .sell => true
  | .withdraw => true
  | .lend => true
  | .returnCrate => true
  | .registerCrate => true
  | .retireCrate => true
  | .writeOff => true
  | .iceHold => true
  | .iceSettle => true
  | .bayRelease => true
  | .dayClose => true
  | .crystalRunsAgain => true
  | .mainPowerOff _ => true
  | .backupSupplyLost => true
  | .unknownKind => true

/-- The check, as a proposition. -/
abbrev Instr.WellFormed (i : Instr) : Prop := i.wellFormed = true

end Sys2Proof
end

