-- ==== Sys2Proof/Laws/PerInstr.lean ====
section
/-! SUPPORT. One fact about every command as syntax: only two commands carry operands that can be ill
formed, a port write whose data is too wide and a fetch that names a special book. -/

namespace Sys2Proof.Laws.Commands

/-- A command that is not one of the two with a check is well formed. -/
def Statement (i : Instr) : Prop :=
  (∀ p a size data, i ≠ .portWrite p a size data) → (∀ b, i ≠ .descriptorFetchDone b) →
    i.wellFormed = true

theorem powerUp : Statement .powerUp := fun _ _ => rfl
theorem reset (event : ResetEvent) : Statement (.reset event) := fun _ _ => rfl
theorem secondTick : Statement .secondTick := fun _ _ => rfl
theorem stallTimeout (bay : Fin 6) : Statement (.stallTimeout bay) := fun _ _ => rfl
theorem crystalStop (count : BitVec 15) : Statement (.crystalStop count) := fun _ _ => rfl
theorem portRead (port : PortId) (addr : BitVec 24) (size : Size) : Statement (.portRead port addr size) := fun _ _ => rfl
theorem descriptorFetchDone (book : BitVec 6) : Statement (.descriptorFetchDone book) := fun _ h => absurd rfl (h _)
theorem guardedReadResume (port : PortId) : Statement (.guardedReadResume port) := fun _ _ => rfl
theorem latchingRead (port : PortId) (book : LatchBook) (index : BitVec 12) : Statement (.latchingRead port book index) := fun _ _ => rfl
theorem clockDateRead (port : PortId) : Statement (.clockDateRead port) := fun _ _ => rfl
theorem clockTimeRead (port : PortId) : Statement (.clockTimeRead port) := fun _ _ => rfl
theorem portWrite (port : PortId) (addr : BitVec 24) (size : Size) (data : Word) : Statement (.portWrite port addr size data) := fun h _ => absurd rfl (h _ _ _ _)
theorem descriptorWordWrite (port : PortId) (slot : Fin 57) (second : Fin 2) (data : Word) : Statement (.descriptorWordWrite port slot second data) := fun _ _ => rfl
theorem invalidateAll (port : PortId) : Statement (.invalidateAll port) := fun _ _ => rfl
theorem step (port : PortId) : Statement (.step port) := fun _ _ => rfl
theorem engineResume (port : PortId) : Statement (.engineResume port) := fun _ _ => rfl
theorem engineFormat (port : PortId) : Statement (.engineFormat port) := fun _ _ => rfl
theorem commandZero (port : PortId) : Statement (.commandZero port) := fun _ _ => rfl
theorem hallModeTrading (port : PortId) : Statement (.hallModeTrading port) := fun _ _ => rfl
theorem hallModeSetup (port : PortId) : Statement (.hallModeSetup port) := fun _ _ => rfl
theorem noticeFlagsClear (port : PortId) (data : Word) : Statement (.noticeFlagsClear port data) := fun _ _ => rfl
theorem noticeEnableWrite (port : PortId) (data : Word) : Statement (.noticeEnableWrite port data) := fun _ _ => rfl
theorem clockHoldOn (port : PortId) (data : Word) : Statement (.clockHoldOn port data) := fun _ _ => rfl
theorem clockHoldOff (port : PortId) (data : Word) : Statement (.clockHoldOff port data) := fun _ _ => rfl
theorem clearFail (port : PortId) (data : Word) : Statement (.clearFail port data) := fun _ _ => rfl
theorem clearMatched (port : PortId) (data : Word) : Statement (.clearMatched port data) := fun _ _ => rfl
theorem clockDateWrite (port : PortId) (data : Word) : Statement (.clockDateWrite port data) := fun _ _ => rfl
theorem clockTimeWrite (port : PortId) (data : Word) : Statement (.clockTimeWrite port data) := fun _ _ => rfl
theorem tariffBandWrite (port : PortId) (data : Word) : Statement (.tariffBandWrite port data) := fun _ _ => rfl
theorem scheduleWrite (port : PortId) (entry : Fin 4) (data : Word) : Statement (.scheduleWrite port entry data) := fun _ _ => rfl
theorem declareModeWrite (port : PortId) (data : Word) : Statement (.declareModeWrite port data) := fun _ _ => rfl
theorem stepModeWrite (port : PortId) (data : Word) : Statement (.stepModeWrite port data) := fun _ _ => rfl
theorem tailWrite (port : PortId) (data : TailEvent) : Statement (.tailWrite port data) := fun _ _ => rfl
theorem journalWaitRelease : Statement .journalWaitRelease := fun _ _ => rfl
theorem ownerWrite (port : PortId) (book : OwnedBook) (data : Word) : Statement (.ownerWrite port book data) := fun _ _ => rfl
theorem faultRecordClear (port : PortId) : Statement (.faultRecordClear port) := fun _ _ => rfl
theorem quayIndicationClear (port : PortId) (data : Word) : Statement (.quayIndicationClear port data) := fun _ _ => rfl
theorem quayRestart (port : PortId) : Statement (.quayRestart port) := fun _ _ => rfl
theorem slotParameterWrite (port : PortId) (param : ParamWord) (data : Word) : Statement (.slotParameterWrite port param data) := fun _ _ => rfl
theorem rostrumTrigger (port : PortId) (rostrum : Fin 2) (data : Word) : Statement (.rostrumTrigger port rostrum data) := fun _ _ => rfl
theorem deskTrigger (port : PortId) (data : Word) : Statement (.deskTrigger port data) := fun _ _ => rfl
theorem commit (port : PortId) (scale : Fin 8) (data : Word) : Statement (.commit port scale data) := fun _ _ => rfl
theorem sample (port : PortId) (scale : Fin 8) (data : Word) : Statement (.sample port scale data) := fun _ _ => rfl
theorem test (port : PortId) (scale : Fin 8) (data : Word) : Statement (.test port scale data) := fun _ _ => rfl
theorem raw (port : PortId) (reader : Fin 12) (data : Word) : Statement (.raw port reader data) := fun _ _ => rfl
theorem bayRequest (port : PortId) (bay : Fin 6) (data : Word) : Statement (.bayRequest port bay data) := fun _ _ => rfl
theorem bayDone (port : PortId) (bay : Fin 6) (data : Word) : Statement (.bayDone port bay data) := fun _ _ => rfl
theorem bayHeldTrigger (bay : Fin 6) : Statement (.bayHeldTrigger bay) := fun _ _ => rfl
theorem bayRecordWriteBack (bay : Fin 6) : Statement (.bayRecordWriteBack bay) := fun _ _ => rfl
theorem internalAdmission : Statement .internalAdmission := fun _ _ => rfl
theorem openAccount : Statement .openAccount := fun _ _ => rfl
theorem setCredit : Statement .setCredit := fun _ _ => rfl
theorem freeze : Statement .freeze := fun _ _ => rfl
theorem thaw : Statement .thaw := fun _ _ => rfl
theorem closeAccount : Statement .closeAccount := fun _ _ => rfl
theorem transfer : Statement .transfer := fun _ _ => rfl
theorem format : Statement .format := fun _ _ => rfl
theorem land : Statement .land := fun _ _ => rfl
theorem sell : Statement .sell := fun _ _ => rfl
theorem withdraw : Statement .withdraw := fun _ _ => rfl
theorem lend : Statement .lend := fun _ _ => rfl
theorem returnCrate : Statement .returnCrate := fun _ _ => rfl
theorem registerCrate : Statement .registerCrate := fun _ _ => rfl
theorem retireCrate : Statement .retireCrate := fun _ _ => rfl
theorem writeOff : Statement .writeOff := fun _ _ => rfl
theorem iceHold : Statement .iceHold := fun _ _ => rfl
theorem iceSettle : Statement .iceSettle := fun _ _ => rfl
theorem bayRelease : Statement .bayRelease := fun _ _ => rfl
theorem dayClose : Statement .dayClose := fun _ _ => rfl
theorem crystalRunsAgain : Statement .crystalRunsAgain := fun _ _ => rfl
theorem mainPowerOff (cut : Cut) : Statement (.mainPowerOff cut) := fun _ _ => rfl
theorem backupSupplyLost : Statement .backupSupplyLost := fun _ _ => rfl
theorem unknownKind : Statement .unknownKind := fun _ _ => rfl

end Sys2Proof.Laws.Commands
end

