-- ==== Sys2Proof/Laws/Postings.lean ====
section
/-! SUPPORT. What applying a posting comes to: the guard and the arbiter leave no trace in the state that
its end leaves, and a posting whose plan accepts is its entry written. -/

namespace Sys2Proof.Machine

/-! ## Guards -/

/-- With no due bay write, placing a guard writes nothing (R155). -/
theorem State.settleDue_none {s : State} (h : ∀ b : Fin 6, (s.bay b).writeDue = false)
    (rs : List RecordId) : s.settleDue rs = s := by
  induction rs with
  | nil => rfl
  | cons r rs ih =>
    cases r with
    | bay b =>
      simp only [State.settleDue]
      split
      · next hb => simp [h ⟨b, hb⟩, ih]
      · exact ih
    | _ => exact ih

/-- With no due bay write, placing a guard replaces the guard set alone. -/
theorem State.placeGuard_none {s : State} (h : ∀ b : Fin 6, (s.bay b).writeDue = false)
    (rs : List RecordId) : s.placeGuard rs = s.withGuard (distinct (s.engine.guard ++ rs)) := by
  rw [State.placeGuard, State.settleDue_none h]

/-- The state with a guard set and an arbiter: what the phases before the entry change. -/
def State.under (s : State) (g : List RecordId) (a : Arbiter) : State :=
  { s with engine := { s.engine with guard := g }, arbiter := a }

theorem State.under_self (s : State) : s.under s.engine.guard s.arbiter = s := rfl

/-- The images of an entry are written the same under any guard. -/
theorem State.withGuard_writeImages (s : State) (g : List RecordId) (seq : Word) (is : List Image) :
    (s.withGuard g).writeImages seq is = (s.writeImages seq is).withGuard g := by
  induction is generalizing s with
  | nil => rfl
  | cons i is ih =>
    simp only [State.writeImages]
    rw [show (s.withGuard g).write (.inner .engine) (i.writes (s.withGuard g) seq) =
      (s.write (.inner .engine) (i.writes s seq)).withGuard g by cases i <;> rfl, ih]

/-- An entry is written the same under any guard and arbiter. -/
theorem State.under_writeEntry (s : State) (g : List RecordId) (a : Arbiter) (e : JournalEntry)
    (r : EngineRecord) : (s.under g a).writeEntry e r = (s.writeEntry e r).withGuard g := by
  unfold State.writeEntry
  dsimp only
  split
  · rfl
  · rw [show (s.under g a).engine.copy.head = s.engine.copy.head from rfl]
    rw [show ∀ i st, (s.under g a).openEntry e s.engine.copy.head i st =
      (s.openEntry e s.engine.copy.head i st).withGuard g from fun _ _ => rfl,
      State.withGuard_writeImages]
    rfl

/-- The end of a posting leaves one state, whatever guard and arbiter it found. -/
theorem State.under_writeDueEntry (s : State) (g : List RecordId) (a : Arbiter) (d : Due) :
    (s.under g a).writeDueEntry d = s.writeDueEntry d := by
  have h (e : JournalEntry) (r : EngineRecord) :
      ((s.under g a).writeEntry e r).withGuard [] = (s.writeEntry e r).withGuard [] := by
    rw [State.under_writeEntry]
    rfl
  unfold State.writeDueEntry
  dsimp only
  rw [show (s.under g a).nextRecord d.nextLot = s.nextRecord d.nextLot from rfl, h]
  rfl

/-! ## A posting that is accepted -/

/-- What a plan reads is not under the guard: its verdict and its further records are the same. -/
def Plan.Steady (s : State) (plan : Plan) : Prop :=
  ∀ g a, plan.more (s.under g a) = plan.more s ∧ plan.verdict (s.under g a) = plan.verdict s

theorem State.under_anyFails (s : State) (g : List RecordId) (a : Arbiter) (rs : List RecordId) :
    (s.under g a).anyFails rs = s.anyFails rs := by
  simp only [State.anyFails]
  congr 1

/-- A posting of a FORMATTED hall whose reads are good comes to its checks, under some guard and arbiter
(R15 phases 2 and 3). -/
theorem State.examine_judge {s : State} {p : Posting} {k : PostKind} {plan : Plan}
    (fmt : s.isFormatted = true) (due : ∀ b : Fin 6, (s.bay b).writeDue = false) (steady : plan.Steady s)
    (reads : s.readable (plan.first ++ plan.more s)) :
    ∃ g a, s.examine p k plan = (s.under g a).judge p k plan := by
  have due' : ∀ g a b, ((s.under g a).bay b).writeDue = false := fun _ _ b => due b
  have split : s.anyFails (.engine :: plan.first) = false ∧ s.anyFails (plan.more s) = false := by
    have hr : s.anyFails (.engine :: (plan.first ++ plan.more s)) = false := reads
    simp only [State.anyFails, List.any_cons, List.any_append, Bool.or_eq_false_iff] at hr ⊢
    exact ⟨⟨hr.1, hr.2.1⟩, hr.2.2⟩
  refine ⟨distinct (distinct (s.engine.guard ++ .engine :: plan.first) ++ plan.more s), ⟨.office, .cache⟩, ?_⟩
  simp only [State.examine, fmt, Bool.not_true, Bool.false_eq_true, if_false]
  rw [State.placeGuard_none due]
  rw [show ∀ g, (s.withGuard g).granted (.inner .engine) = s.under g ⟨.office, .cache⟩ from fun _ => rfl]
  rw [State.under_anyFails, split.1]
  simp only [Bool.false_eq_true, if_false]
  rw [(steady _ _).1, State.placeGuard_none (due' _ _)]
  rw [show ∀ g a g', (s.under g a).withGuard g' = s.under g' a from fun _ _ _ => rfl]
  rw [State.under_anyFails, split.2]
  rfl

/-- A refusal with a free slot is its entry written, whatever guard and arbiter it found (R18). -/
theorem State.under_refuse {s : State} (room : s.journalFull = false) (g : List RecordId) (a : Arbiter)
    (p : Posting) (r : Reason) : (s.under g a).refuse p r = s.writeDueEntry (p.refusal s r) := by
  rw [State.refuse, State.entryDue]
  rw [show (s.under g a).journalFull = s.journalFull from rfl, room]
  simp only [Bool.false_eq_true, if_false]
  exact s.under_writeDueEntry g a _

/-- A posting in hand whose reads are good and whose plan accepts is its entry written (R15, R19). -/
theorem State.applyRow_accepts {s : State} {k : PostKind} {p : Posting} {plan : Posting → Plan}
    {images : List Image} {nextLot : Word} {value : Option Word} (h : s.applies k p)
    (steady : (plan p).Steady s) (reads : s.readable ((plan p).first ++ (plan p).more s))
    (accepts : (plan p).verdict s = .accept images nextLot value) :
    s.applyRow k plan = s.writeDueEntry (p.due images nextLot value) := by
  obtain ⟨hand, fmt, mode, room, due⟩ := h
  obtain ⟨g, a, e⟩ := State.examine_judge (p := p) (k := k) fmt due steady reads
  simp only [State.applyRow, hand, State.applyPlan, e, State.judge]
  rw [show (s.under g a).engine.mode = s.engine.mode from rfl, mode]
  simp only [(steady _ _).2, accepts, State.conclude, State.entryDue]
  rw [show (s.under g a).journalFull = s.journalFull from rfl, room]
  simp only [Bool.false_eq_true, if_false]
  exact s.under_writeDueEntry _ _ _

/-- A posting in hand whose reads are good and whose plan refuses is its refusal written (R15, R18). -/
theorem State.applyRow_refuses {s : State} {k : PostKind} {p : Posting} {plan : Posting → Plan}
    {r : Reason} (h : s.applies k p) (steady : (plan p).Steady s)
    (reads : s.readable ((plan p).first ++ (plan p).more s)) (refuses : (plan p).verdict s = .refuse r) :
    s.applyRow k plan = s.writeDueEntry (p.refusal s r) := by
  obtain ⟨hand, fmt, mode, room, due⟩ := h
  obtain ⟨g, a, e⟩ := State.examine_judge (p := p) (k := k) fmt due steady reads
  simp only [State.applyRow, hand, State.applyPlan, e, State.judge]
  rw [show (s.under g a).engine.mode = s.engine.mode from rfl, mode]
  simp only [(steady _ _).2, refuses, State.conclude]
  exact State.under_refuse room g a p r

/-- A posting in hand of a kind that the hall mode does not permit is refused (R17, R25). -/
theorem State.applyRow_modeRefused {s : State} {k : PostKind} {p : Posting} {plan : Posting → Plan}
    {r : Reason} (hand : s.inHand k = some p) (fmt : s.isFormatted = true) (ready : s.ready)
    (mode : modeRefusal s.engine.mode k = some r) (steady : (plan p).Steady s)
    (reads : s.readable ((plan p).first ++ (plan p).more s)) :
    s.applyRow k plan = s.writeDueEntry (p.refusal s r) := by
  obtain ⟨g, a, e⟩ := State.examine_judge (p := p) (k := k) fmt ready.2 steady reads
  simp only [State.applyRow, hand, State.applyPlan, e, State.judge]
  rw [show (s.under g a).engine.mode = s.engine.mode from rfl, mode]
  simp only [State.conclude]
  exact State.under_refuse ready.1 g a p r

/-- A posting in hand whose read of a phase-2 record is struck is refused STORE_ERROR (R21). -/
theorem State.applyRow_struck {s : State} {k : PostKind} {p : Posting} {plan : Posting → Plan}
    (hand : s.inHand k = some p) (fmt : s.isFormatted = true) (ready : s.ready)
    (struck : s.anyFails (.engine :: (plan p).first) = true) :
    s.applyRow k plan = s.writeDueEntry (p.refusal s .storeError) := by
  simp only [State.applyRow, hand, State.applyPlan, State.examine, fmt, Bool.not_true, Bool.false_eq_true,
    if_false]
  rw [State.placeGuard_none ready.2]
  rw [show ∀ g, (s.withGuard g).granted (.inner .engine) = s.under g ⟨.office, .cache⟩ from fun _ => rfl]
  rw [State.under_anyFails, struck]
  simp only [if_true, State.conclude]
  exact State.under_refuse ready.1 _ _ p .storeError

/-- A posting in hand in a hall that is not FORMATTED is refused HALL_SETUP, with no entry (R17). -/
theorem State.applyRow_bare {s : State} {k : PostKind} {p : Posting} {plan : Posting → Plan}
    (hand : s.inHand k = some p) (fmt : s.isFormatted = false) :
    s.applyRow k plan = s.refuseBare p .hallSetup := by
  simp only [State.applyRow, hand, State.applyPlan, State.examine, fmt, Bool.not_false, if_true,
    State.conclude]

end Sys2Proof.Machine
end

