-- ==== Sys2Proof/Laws/Queue.lean ====
section
/-! SUPPORT. What the queue operations do to the queue, the engine state and the work in hand, and that
each keeps the queue law. -/

namespace Sys2Proof.Machine

variable {s : State}

/-- An IDLE engine takes an admitted posting at once (R13, R14). -/
theorem State.enqueue_idle (h : s.engine.state = .idle) (p : Posting) :
    s.enqueue p =
      { s with engine := { s.engine with state := .applying, work := .taken p } } := by
  simp [State.enqueue, h]

/-- Any other engine leaves the posting at the queue's tail. -/
theorem State.enqueue_busy (h : s.engine.state ≠ .idle) (p : Posting) :
    s.enqueue p = { s with engine := { s.engine with queue := s.engine.queue ++ [p] } } := by
  simp [State.enqueue, h]

theorem State.takeNext_nil (h : s.engine.queue = []) :
    s.takeNext = { s with engine := { s.engine with state := .idle, work := .none } } := by
  simp [State.takeNext, h]

theorem State.takeNext_cons {p : Posting} {q : List Posting} (h : s.engine.queue = p :: q) :
    s.takeNext =
      { s with engine := { s.engine with state := .applying, work := .taken p, queue := q } } := by
  simp [State.takeNext, h]

/-- An admission to a queue with room keeps the queue law. -/
theorem State.enqueue_queueLaw (h : QueueLaw s) (room : s.engine.queue.length < 16) (p : Posting) :
    QueueLaw (s.enqueue p) := by
  by_cases hi : s.engine.state = .idle
  · rw [State.enqueue_idle hi]
    exact ⟨h.1, fun e => by cases e⟩
  · rw [State.enqueue_busy hi]
    refine ⟨?_, fun e => absurd e hi⟩
    show (s.engine.queue ++ [p]).length ≤ 16
    rw [List.length_append, List.length_singleton]
    omega

/-- Taking the head keeps the queue law, whatever the engine's state was. -/
theorem State.takeNext_queueLaw (h : s.engine.queue.length ≤ 16) : QueueLaw s.takeNext := by
  cases hq : s.engine.queue with
  | nil =>
    rw [State.takeNext_nil hq]
    exact ⟨by show s.engine.queue.length ≤ 16; exact h, fun _ => hq⟩
  | cons p q =>
    rw [State.takeNext_cons hq]
    refine ⟨?_, fun e => by cases e⟩
    rw [hq, List.length_cons] at h
    show q.length ≤ 16
    omega

/-- The end of a posting keeps the queue law. -/
theorem State.endPosting_queueLaw (h : s.engine.queue.length ≤ 16) : QueueLaw s.endPosting := by
  unfold State.endPosting
  split
  · exact ⟨h, fun e => by cases e⟩
  · exact State.takeNext_queueLaw h

/-- A posting leaves its source and the engine stays as it was. -/
theorem State.dropWaiting_engine (i : Fin 11) : (s.dropWaiting i).engine = s.engine := by
  unfold State.dropWaiting
  split
  · rfl
  · split
    · rfl
    · split <;> rfl

/-- Internal admission keeps the queue law (R11). -/
theorem State.admitInternal_queueLaw (h : QueueLaw s) : QueueLaw s.admitInternal := by
  unfold State.admitInternal
  split
  · next room =>
    split
    · exact h
    · refine State.enqueue_queueLaw ?_ ?_ _
      · exact ⟨by simpa [State.dropWaiting_engine] using h.1,
          fun e => by simpa [State.dropWaiting_engine] using h.2 (by simpa [State.dropWaiting_engine] using e)⟩
      · simpa [State.dropWaiting_engine] using room
  · exact h

end Sys2Proof.Machine
end

