-- ==== Sys2Proof/Laws/Stations.lean ====
section
/-! SUPPORT. What the engine's own writes never touch: the stations, the clock, the indications, and every
notice flag that stands. The end of a posting changes them by its report alone. -/

namespace Sys2Proof.Machine

/-- Two states with the same stations, where every notice flag of the first stands in the second. -/
structure SameStations (s t : State) : Prop where
  desk : t.desk = s.desk
  weigh : t.weigh = s.weigh
  tags : t.tags = s.tags
  ice : t.ice = s.ice
  clock : t.clock = s.clock
  quayFlags : t.notices.quayFlags = s.notices.quayFlags
  noticed : ∀ n : Notice, s.noticed n = true → t.noticed n = true

namespace SameStations

theorem refl (s : State) : SameStations s s := ⟨rfl, rfl, rfl, rfl, rfl, rfl, fun _ h => h⟩

theorem trans {s t u : State} (h : SameStations s t) (k : SameStations t u) : SameStations s u :=
  ⟨k.desk.trans h.desk, k.weigh.trans h.weigh, k.tags.trans h.tags, k.ice.trans h.ice,
    k.clock.trans h.clock, k.quayFlags.trans h.quayFlags, fun n hn => k.noticed n (h.noticed n hn)⟩

theorem scale {s t : State} (h : SameStations s t) (n : Fin 8) : t.scale n = s.scale n := by
  simp only [State.scale, h.weigh]

theorem reader {s t : State} (h : SameStations s t) (r : Fin 12) : t.reader r = s.reader r := by
  simp only [State.reader, h.tags]

theorem bay {s t : State} (h : SameStations s t) (b : Fin 6) : t.bay b = s.bay b := by
  simp only [State.bay, h.ice]

end SameStations

variable (s : State)

/-- A notice that is raised stands. -/
theorem State.raise_noticed (n : Notice) : (s.raise n).noticed n = true := by
  have h : ∀ a m : BitVec 10, m ≠ 0 → ((a ||| m) &&& m != 0) = true := by
    intro a m hm
    rw [show (a ||| m) &&& m = m by ext i; simp; intro h; exact Or.inr h]
    simpa using hm
  exact h _ _ (by cases n <;> decide)

/-- A raised notice clears no other. -/
theorem State.raise_stations (n : Notice) : SameStations s (s.raise n) := by
  refine ⟨rfl, rfl, rfl, rfl, rfl, rfl, fun m hm => ?_⟩
  have h : ∀ a k w : BitVec 10, (a &&& w != 0) = true → ((a ||| k) &&& w != 0) = true := by
    intro a k w
    simp only [bne_iff_ne, ne_eq]
    intro ha hb
    apply ha
    ext i hi
    have := congrArg (fun v : BitVec 10 => v[i]) hb
    simp at this ⊢
    intro h
    exact this (Or.inl h)
  exact h _ _ _ hm

/-- An indication that is set stands. -/
theorem State.indicate_set (i : Nat) (h : i < 26) :
    (s.indicate i).notices.quayFlags.getLsbD i = true := by
  simp [State.indicate, h]

/-! ## The engine's writes -/

theorem State.write_stations (g : Grantee) (ws : List (Nat × Word)) : SameStations s (s.write g ws) :=
  ⟨rfl, rfl, rfl, rfl, rfl, rfl, fun _ h => h⟩

theorem State.engine_stations (e : Engine) : SameStations s { s with engine := e } :=
  ⟨rfl, rfl, rfl, rfl, rfl, rfl, fun _ h => h⟩

theorem State.withGuard_stations (g : List RecordId) : SameStations s (s.withGuard g) :=
  s.engine_stations _

theorem State.writeImages_stations (seq : Word) (is : List Image) :
    SameStations s (s.writeImages seq is) := by
  induction is generalizing s with
  | nil => exact .refl s
  | cons i is ih => exact (s.write_stations _ _).trans (ih _)

theorem State.setEngineRecord_stations (r : EngineRecord) : SameStations s (s.setEngineRecord r) :=
  (s.write_stations _ _).trans (State.engine_stations _ _)

theorem State.writeEntry_stations (e : JournalEntry) (r : EngineRecord) :
    SameStations s (s.writeEntry e r) := by
  unfold State.writeEntry
  refine .trans (.trans ?_ (State.setEngineRecord_stations _ _)) (State.raise_stations _ _)
  split
  · exact s.write_stations _ _
  · exact ((s.write_stations _ _).trans (State.writeImages_stations _ _ _)).trans
      (State.write_stations _ _ _)

theorem State.takeNext_stations : SameStations s s.takeNext := by
  unfold State.takeNext
  split <;> exact s.engine_stations _

theorem State.endPosting_stations : SameStations s s.endPosting := by
  unfold State.endPosting
  split
  · exact (s.engine_stations _).trans (State.raise_stations _ _)
  · exact s.takeNext_stations

theorem State.haltAt_stations (c : HaltCause) : SameStations s (s.haltAt c) :=
  (s.engine_stations _).trans (State.raise_stations _ _)

/-- What the end of a posting comes to at the stations: its report, over stations as they were. -/
theorem State.writeDueEntry_stations (d : Due) : ∃ u : State, SameStations s u ∧ u.engine.guard = [] ∧
    SameStations
      (u.report d.posting d.entry.reason (some s.engine.copy.head) d.value d.entry.images)
      (s.writeDueEntry d) := by
  refine ⟨_, (s.writeEntry_stations d.entry (s.nextRecord d.nextLot)).trans (State.withGuard_stations _ []),
    rfl, ?_⟩
  unfold State.writeDueEntry
  dsimp only
  split
  · exact State.haltAt_stations _ _
  · exact State.endPosting_stations _

end Sys2Proof.Machine
end

