-- ==== Sys2Proof/Tests/Slice0.lean ====
section
/-! SUPPORT. The model's own tests: the well-formedness smoke tests, and for every obligation with
hypotheses a state and operands that meet them, each clause at a boundary value of its range. -/

namespace Sys2Proof.Tests

open Sys2Proof.Machine

set_option Elab.async false

/-! ## Well-formedness -/

theorem test_byteWriteTooWide : (Instr.portWrite .first 0 .byte 256).wellFormed = false := by decide
theorem test_halfWriteTooWide : (Instr.portWrite .first 0 .half 65536).wellFormed = false := by decide
theorem test_widestWrites : (Instr.portWrite .first 0 .byte 255).wellFormed = true ∧
    (Instr.portWrite .first 0 .half 65535).wellFormed = true ∧
    (Instr.portWrite .first 0 .word 0xFFFFFFFF).wellFormed = true := by decide
theorem test_fetchOfSpecialBook : (Instr.descriptorFetchDone 6).wellFormed = false := by decide
theorem test_fetchOfPlainBook : (Instr.descriptorFetchDone 7).wellFormed = true := by decide

/-- No word spells a command: the table gives no row bits. -/
theorem test_noWordSpellsACommand : decodeTableWord 32 0 = none := by decide

/-! ## A small hall -/

/-- Words put into the store. -/
def put (s : State) (ws : List (Nat × Word)) : State := { s with store := s.store.putAll ws }

/-- A RUNNING, FORMATTED hall in TRADING with an empty store: day 3, head 5, tail 2, next lot 7. -/
def blank : State :=
  { State.reset with
    part := .running
    profile := some Profile.board
    engine := { Engine.reset with
      copy := ⟨5, 7, 3, dayOpen, formatted⟩, tail := 2, mode := .trading,
      crateTypes := Engine.reset.crateTypes.set 1 0x002801F4 } }

/-- The blank hall in SETUP. -/
def blankSetup : State := { blank with engine := { blank.engine with mode := .setup } }

/-- An account of a kind with a balance and a credit line. -/
def account (kind : BitVec 3) (balance credit : Word) : AccountImage :=
  { kind := kind, state := accountOpen, credit := credit, day := 3, balance := balance, holds := 90,
    crates := 1, floor := 1, landed := 0, sales := 0, ice := 0 }

/-- The lot on the floor in slot 6: number 6, boat 3, net 12345, crate 10. -/
def floorLot : LotRecord :=
  { number := 6, state := lotOnFloor, reason := 0, grade := 2, scale := 1, count := 1,
    landUnsure := false, species := 9, boat := 3, gross := 12845, saleUnsure := false, buyer := 0,
    net := 12345, price := 0, tare := 500, value := 0, fee := 0, landing := 100, sale := 0,
    places := [10] }

/-- A bay record of boat 3 in a state. -/
def bayOf (state : BitVec 3) : BayRecord := ⟨state, false, 3, 10, 9, 90, 7, 0, 0⟩

/-- The records of the hall: the special accounts, boat 3, buyer 4, crates 8 to 11, the lot, the bays. -/
def hall : State :=
  put blank
    ((account kindHall 0 0).writes (blank.accountAddr 0) 0 ++
      (account kindPool 40 0).writes (blank.accountAddr 1) 0 ++
      (account kindCash 0 0).writes (blank.accountAddr 2) 0 ++
      (account kindBoat 5000 0).writes (blank.accountAddr 3) 0 ++
      (account kindBuyer 10000000 0).writes (blank.accountAddr 4) 0 ++
      crateWrites (blank.crateAddr 8) crateInHall 0 (some 0) (some 0x100008) 0 ++
      crateWrites (blank.crateAddr 9) crateLent 3 (some 40) (some 0x100009) 0 ++
      crateWrites (blank.crateAddr 10) crateOnLot 3 (some 40) (some 0x10000A) 0 ++
      crateWrites (blank.crateAddr 11) crateLost 0 (some 0) (some 0x10000B) 0 ++
      wordsAt (blank.lotAddr 6) floorLot.words ++
      wordsAt (blank.bayAddr 2) (bayOf baySettlePending).words ++
      wordsAt (blank.bayAddr 3) (bayOf bayStalled).words)

/-- The hall in SETUP. -/
def hallSetup : State := { hall with engine := { hall.engine with mode := .setup } }

/-- A posting. -/
def post (k : PostKind) (source : Source) (w0 w1 w2 w3 : Word) (tray : List Word := []) : Posting :=
  { kind := k.code, source := source, params := ⟨w0, w1, w2, w3⟩, tray := tray, stamp := ⟨100, false⟩ }

/-- A hall whose engine has taken a posting. -/
def handed (s : State) (p : Posting) : State :=
  { s with engine := { s.engine with state := .applying, work := .taken p } }

/-- A hall with bay b's copy in a state. -/
def withBay (s : State) (b : Fin 6) (r : BayRecord) : State := s.setBay b { s.bay b with copy := r }

/-- A hall with bay b's record guarded. -/
def guardedBay (s : State) (b : Fin 6) : State := s.withGuard [.bay b.val]

/-- A hall with n postings queued. -/
def queued (s : State) (n : Nat) : State :=
  { s with engine := { s.engine with
      state := .journalWait, queue := List.replicate n (post .freeze .desk 3 0 0 0) } }

/-- A hall whose engine has another head. -/
def headAt (s : State) (head : Word) : State :=
  { s with engine := { s.engine with copy := { s.engine.copy with head := head } } }

/-- A hall whose store has parity errors at byte addresses. -/
def struckAt (s : State) (addresses : List Nat) : State :=
  { s with store := { s.store with bad := addresses } }

/-- A hall whose engine is HALTED for a cause. -/
def haltedBy (s : State) (cause : HaltCause) : State :=
  { s with engine := { s.engine with state := .halted, halt := some cause } }

/-- What a command answers, when it is a next state. -/
def after (i : Instr) (s : State) : Option State :=
  match exec i s with
  | .next t => some t
  | _ => none

/-! ## The machine and its invariants -/

theorem test_witness_StepOnEmptyQueue : hall.pending = [] ∧ State.reset.pending = [] ∧
    State.reset.part = .starting := by decide +kernel

theorem test_witness_StepKeepsInvariants : (StoreCanonical hall ∧ QueueLaw hall ∧ TrayLaw hall ∧
    ReaderLaw hall ∧ TradingLaw hall ∧ JournalBound hall ∧ hall.startsUp = false ∧
    hall.repeatsRedo = false) ∧ step hall = .next hall := ⟨by decide +kernel, rfl⟩

/-- With a struck redo to repeat, ENGINE_RESUME repeats it, in either spelling, and no other command does. -/
theorem test_witness_StepKeepsJournalBound :
    let s (i : Instr) : State := { haltedBy hall .redo with pending := [i] }
    (s (.engineFormat .first)).repeatsRedo = false ∧ (s (.engineFormat .first)).startsUp = false ∧
      (s (.portWrite .first (portAddr 0 4) .word 4)).repeatsRedo = false ∧
      (s (.engineResume .first)).repeatsRedo = true ∧
      (s (.portWrite .second (portAddr 0 4) .word 3)).repeatsRedo = true ∧
      JournalBound (s .internalAdmission) := by decide +kernel

/-- Each invariant at a state where its bounds are met with equality. -/
theorem test_witness_InvariantsAtBounds : QueueLaw (queued hall 16) ∧
    TrayLaw (hall.setScale 7 { hall.scale 7 with
      state := .settled, tray := (List.range 16).map fun k => BitVec.ofNat 32 (k * 1048576) }) ∧
    ReaderLaw (hall.setReader 11 { hall.reader 11 with history := List.replicate 8 0, zeroRun := 15 }) ∧
    JournalBound (headAt hall 258) ∧ ¬ JournalBound (headAt hall 259) := by
  decide +kernel

/-- A posting with an image of each kind of record, its entry due at head 5. -/
def dueHere : Due :=
  (post .freeze .desk 3 0 0 0).due
    [.account 4 (account kindBuyer 77 0), .crates [10] crateSold 4 none none, .bay 5 (bayOf bayDispensing)]
    9 none

/-- The hall with its engine record in the store and an entry in the head's slot, in a state. -/
def withEntry (seq state : Word) : State :=
  put hall
    ([(hall.engineAddr, 5), (hall.engineAddr + 4, 7), (hall.engineAddr + 8, 3),
        (hall.engineAddr + 12, hall.engine.copy.stateWord)] ++
      (hall.entryAddr 5, state) ::
        wordsAt (hall.entryAddr 5 + 4) (dueHere.entry.bodyWords seq (.engine dayOpen 6 9 3)))

/-- The images of the entry that redo completes. -/
theorem test_witness_StepKeepsJournalBoundOverRedo :
    let s := withEntry 5 1
    JournalBound s ∧ s.redo.isSome = true ∧
      Image.engine dayOpen 6 9 3 ∈ entryImages s.store (s.entryAddr (entrySlot 5)) ∧
      (6 : Word) = s.engine.copy.head + 1 ∧ s.journalFull = false := by decide +kernel

theorem test_witness_ImageWordsReadBack :
    ∀ i ∈ [Image.account 255 (account kindBoat 1 2), lotImage 2047 0xFFFF floorLot,
      lotImage 0 0x0002 floorLot,
      .crates ((List.range 16).map (BitVec.ofNat 12)) crateOnLot 3 none none,
      .crates [4095] crateInHall 0 (some 0) (some 1), .bay 5 (bayOf bayIdle), .engine 1 2 3 4],
    i.wellFormed = true := by decide +kernel

theorem test_imageWordsReadBack :
    let is := [Image.account 255 (account kindBoat 1 2), lotImage 2047 0xFFFF floorLot,
      .crates ((List.range 16).map (BitVec.ofNat 12)) crateOnLot 3 none none,
      .crates [4095] crateInHall 0 (some 0) (some 1), .bay 5 (bayOf bayIdle), .engine 1 2 3 4]
    readImages is.length (imageWords is) = is := by decide +kernel

/-! ## The Store Arbiter -/

/-- From each position of the port pointer a request of every requester; a block before and after the second
pointer; and a path's request that waits while two others are granted. -/
theorem test_witness_ArbiterGrants :
    let at_ (port : Requester) : Arbiter := ⟨port, .ice⟩
    (at_ .office).choose (fun _ => true) = some (.path .office) ∧
      (at_ .quay).choose (fun _ => true) = some (.path .quay) ∧
      (at_ .internal).choose (fun _ => true) = some (.inner .ice) ∧
      (at_ .office).choose (fun g => g == .inner .engine || g == .inner .cache) = some (.inner .engine) ∧
      ((at_ .quay).grant (.path .quay)).choose (fun g => g != .path .quay) = some (.inner .ice) ∧
      ((at_ .quay).grant (.path .quay)).grant (.inner .ice) = ⟨.office, .loader⟩ ∧
      (at_ .office).choose (fun _ => false) = none := by decide +kernel

/-- The quay's REQUEST word is granted first while the pointer stands before it, and else after one word of
the bay record: a reset that cuts the write finds the store so. -/
theorem test_requestWordsAreServedInTurn :
    let s (port : Requester) : State := { hall with
      arbiter := ⟨port, .engine⟩
      shadows := { hall.shadows with bay := hall.shadows.bay.set 5 ⟨3, 7, 0⟩ } }
    let cut (port : Requester) (n : Nat) : Option (Word × Word × Word) :=
      (after (.reset ⟨⟨.write .second (portAddr 5 0x66C) 9, n⟩, false⟩) (s port)).map fun t =>
        (t.store.word (hall.base 5 + 0x66C), t.store.word (hall.bayAddr 5 + 4),
          t.store.word (hall.bayAddr 5 + 8))
    cut .quay 1 = some (9, 0, 0) ∧ cut .quay 2 = some (9, 3, 0) ∧
      cut .internal 1 = some (0, 3, 0) ∧ cut .internal 2 = some (9, 3, 0) ∧
      cut .internal 3 = some (9, 3, 7) := by decide +kernel

/-! ## Accesses -/

theorem test_witness_FaultedAccessSpecial :
    let bad := struckAt hall [0xB7]
    let a : Access := ⟨portAddr 0 0xB4, .word, none⟩
    (addrBook (portAddr 6 0xFFFF)).toNat < 7 ∧ hall.part = .running ∧ (hall.path .second).wait = .free ∧
      firstFail (hall.specialChecks .quay 0 ⟨portAddr 0 0xA0, .word, some 3⟩) = some .rights ∧
      firstFail (bad.specialChecks .quay 0 a) = none ∧
      bad.liveWord (specialWordAt 0 a.offset) = none ∧ isLatching 0 a = false ∧
      (bad.path .second).snapshotWord 0 a = none ∧ bad.readGuarded 0 a.offset = false ∧
      bad.store.failing (bad.base 0 + a.offset) 4 = true := by decide +kernel

/-- A descriptor of book 7 in the last entry, not valid, of one byte, of the office alone, and locked: a quay
access at offset 1 fails each check in turn, and a struck byte fails its read. -/
theorem test_witness_FaultedAccessPlain :
    let held (d : Descriptor) : State :=
      { hall with cache := { hall.cache with entries := hall.cache.entries.set 15 (.held 7 d) } }
    let read : Access := ⟨portAddr 7 1, .half, none⟩
    7 ≤ (addrBook read.addr).toNat ∧
      (held ⟨false, 400, 1, .office, 0, true⟩).arrive .second read =
        (held ⟨false, 400, 1, .office, 0, true⟩).faulted .second read .noBook ∧
      (held ⟨true, 400, 2, .office, 0, true⟩).arrive .second read =
        (held ⟨true, 400, 2, .office, 0, true⟩).faulted .second read .limit ∧
      (held ⟨true, 400, 3, .office, 0, true⟩).arrive .second read =
        (held ⟨true, 400, 3, .office, 0, true⟩).faulted .second read .rights ∧
      (held ⟨true, 400, 3, .office, 2, true⟩).arrive .second { read with write := some 0 } =
        (held ⟨true, 400, 3, .office, 2, true⟩).faulted .second { read with write := some 0 } .writeLock ∧
      (held ⟨true, 400, 3, .office, 1, true⟩).arrive .second read =
        (held ⟨true, 400, 3, .office, 1, true⟩).faulted .second read .misaligned ∧
      (struckAt (held ⟨true, 400, 2, .quay, 0, false⟩) [409601]).store.failing (400 * 1024 + 0) 2 = true := by
  decide +kernel

theorem test_witness_FaultedAccessNoProfile :
    let s : State := { hall with part := .noProfile, profile := none }
    s.part = .noProfile ∧ (s.path .first).wait = .free := by decide +kernel

theorem test_witness_LiveControlWrites : hall.owns .first 0 ∧ hall.isFormatted = true ∧
    hall.quiet = true ∧ State.owns { State.reset with part := .running, profile := some Profile.board } .first 0 ∧
    State.isFormatted { State.reset with part := .running } = false ∧
    (queued hall 1).owns .first 0 ∧ (queued hall 1).quiet = false ∧
    (queued hall 1).engine.mode = .trading ∧ 2 ≤ (2 : Word).toNat := by decide +kernel

/-- A close of day 3 in hand. -/
def closing : CloseWork := ⟨.desk, ⟨100, false⟩, 3, 0, 0, false, true⟩

theorem test_witness_StepAndResumeCommands :
    let p := post .freeze .desk 3 0 0 0
    let paused := { hall with engine := { hall.engine with state := .paused } }
    let halted := haltedBy hall .posting
    let next := { halted with engine := { halted.engine with queue := [p] } }
    paused.owns .first 0 ∧ paused.engine.queue = [] ∧ halted.owns .first 0 ∧ halted.engine.queue = [] ∧
      next.engine.queue = [p] ∧ hall.engine.state ≠ .paused ∧ hall.engine.state ≠ .halted ∧
      (haltedBy hall (.close closing)).owns .first 0 ∧ hall.store.bad = [] ∧ hall.store.fuse = none ∧
      hall.profile = some Profile.board ∧ Profile.board.isValid = true := by decide +kernel

/-- A struck redo struck again, one that completes its entry, and one that leaves a close in progress. -/
theorem test_witness_ResumeAfterStruckRedo :
    let resumed (s : State) : Option State :=
      let s := haltedBy s .redo
      ({ s.dropSnapshot .first with engine := { s.engine with halt := none } } : State).redo
    let closingHall : State := { hall with engine := { hall.engine with
      copy := { hall.engine.copy with dayState := dayClosing } } }
    (haltedBy hall .redo).owns .first 0 ∧
      resumed (struckAt hall [hall.entryAddr 5 + 255]) = none ∧
      (resumed (withEntry 5 1)).map State.isClosing = some false ∧
      (resumed closingHall).map State.isClosing = some true := by decide +kernel

theorem test_witness_ClockWrites :
    let held := { hall with clock := { hall.clock with hold := true } }
    hall.owns .first 0 ∧ hall.clock.hold = false ∧ held.owns .first 0 ∧
      (dateOfWord 0x00021D63).valid = false ∧ (dateOfWord 0x001D0218).valid = true ∧
      (dateOfWord 0x001F0C63).valid = true ∧ (timeOfWord 0x003B3B17).valid = true ∧ (timeOfWord 24).valid = false ∧
      field (0x003B3B17 : Word) 24 8 = 0 ∧ (timeOfWord 0).valid = true := by decide +kernel

/-- The hall in SETUP with declare mode FAST. -/
def fastSetup : State := { hallSetup with tags := { hallSetup.tags with mode := .fast } }

theorem test_witness_ConfigurationWrites : hall.owns .first 0 ∧
    (200 : Word).toNat ≤ 200 ∧ ConfigWord.takes .settleWindow 16 4 64 = true ∧
    (SpecialWord.config .settleWindow).setupOnly = false ∧ ConfigWord.takes .clearCount 16 4 15 = true ∧ scheduleValid 0x830000FF = true ∧ scheduleValid 0x003B3B17 = true ∧
    hall.engine.state ≠ .paused ∧ hallSetup.owns .first 0 ∧ hallSetup.engine.mode = .setup ∧
    hallSetup.tags.mode = .sure ∧ fastSetup.owns .first 0 ∧ fastSetup.tags.mode = .fast ∧
    hall.engine.mode = .trading ∧ (1 : Word).toNat ≤ 1 := by decide +kernel

theorem test_witness_TailWriteRule : hall.idlePort .first ∧ hall.side .first = .office ∧
    hall.side .second = .quay ∧
    ((5 : Word) - hall.engine.tail).toNat ≤ (hall.engine.copy.head - hall.engine.tail).toNat ∧
    (hall.engine.copy.head - hall.engine.tail).toNat < ((6 : Word) - hall.engine.tail).toNat := by
  decide +kernel

/-! ## Stations -/

/-- The hall with scale 7 in a state, with a commit state and a run count one below settling. -/
def withScale (state : ScaleState) (commit : CommitState) : State :=
  hall.setScale 7 { hall.scale 7 with
    state := state, commit := commit, load := 4, reference := 12000, weight := 12000, run := 7,
    block := 15, misses := 3, tray := [0x00900009] }

theorem test_witness_QuaysideWrites : hall.owns .second 5 ∧ hall.owns .first 6 ∧
    (withBay hall 5 (bayOf bayDispensing)).guarded (.bay 5) = false ∧
    (guardedBay (withBay hall 5 (bayOf bayDispensing)) 5).guarded (.bay 5) = true ∧
    ((withBay hall 5 (bayOf bayDispensing)).bay 5).copy.state = bayDispensing ∧
    (hall.bay 5).copy.state ≠ bayDispensing ∧ hall.store.fuse = none ∧
    hall.wordFitted (.param (.deliveredKg 5)) = true ∧ hall.wordFitted (.param (.desk 2 3)) = true ∧
    hall.scaleFitted 7 = true ∧ hall.readerFitted 11 = true ∧ hall.bayFitted 5 = true ∧
    (paramPlace (.deliveredKg 5)).1 = (5 : Fin 7).val ∧ (paramPlace (.desk 2 3)).1 = (6 : Fin 7).val := by
  decide +kernel

theorem test_witness_Samples :
    (withScale .empty .opened).owns .second 5 ∧ (499 : Word).toNat < hall.weigh.settle.empty.toNat ∧
      hall.weigh.settle.empty.toNat ≤ (500 : Word).toNat ∧ (500000 : Word).toNat ≤ 500000 ∧
      ((withScale .unsettled .opened).scale 7).state = .unsettled ∧
      ((withScale .settled .opened).scale 7).state = .settled ∧
      distance 12020 12000 ≤ hall.weigh.settle.band.toNat ∧
      ¬ distance 12021 12000 ≤ hall.weigh.settle.band.toNat := by decide +kernel

theorem test_witness_CommitIntake :
    let s := withScale .settled .opened
    let t := withScale .settled .committed
    let shadowed (b sp g : Word) : State :=
      { s with shadows := { s.shadows with scale := s.shadows.scale.set 7 ⟨b, sp, g⟩ } }
    s.owns .second 5 ∧ s.scaleFitted 7 = true ∧ ((shadowed 255 255 7).shadows.scale.get 7).boat.toNat ≤ 255 ∧
      255 < ((shadowed 256 0 0).shadows.scale.get 7).boat.toNat ∧
      255 < ((shadowed 0 256 0).shadows.scale.get 7).species.toNat ∧
      7 < ((shadowed 0 0 8).shadows.scale.get 7).grade.toNat ∧
      (s.scale 7).commit = .opened ∧ s.engine.queue.length < 12 ∧ (t.scale 7).commit = .committed ∧
      ((withScale .settled (.pending 3)).scale 7).commit = .pending 3 ∧
      (withScale .empty .opened).engine.mode = .trading ∧
      ((withScale .empty .opened).scale 7).state ≠ .settled ∧ 12 ≤ (queued s 12).engine.queue.length ∧
      (queued s 11).engine.queue.length < 12 ∧ (s.scale 7).weight ≤ 500000 := by decide +kernel

/-- The hall with code v read n times by reader r. -/
def withReads (r : Fin 12) (v : Word) (n : Nat) : State :=
  hall.setReader r { hall.reader r with history := List.replicate n v }

theorem test_witness_RawReads :
    let s := withReads 11 0x00900009 5
    let h := pushRead s.tags.mode.history (s.reader 11).history 0x00900009
    s.owns .second 5 ∧ s.readerFitted (gateReader 3) = true ∧ gateReader 3 = 11 ∧
      s.tags.mode.threshold ≤ h.count 0x00900009 ∧ (s.reader 11).last ≠ some 0x00900009 ∧
      (s.reader 11).held = false ∧ s.engine.mode = .trading ∧
      State.owns { s with engine := { s.engine with mode := .setup } } .second 5 ∧
      (pushRead s.tags.mode.history ((withReads 11 0x00900009 4).reader 11).history 0x00900009).count
        0x00900009 < s.tags.mode.threshold ∧
      s.tags.mode.threshold ≤ (pushRead s.tags.mode.history ((withReads 0 9 5).reader 0).history 9).count
        9 := by decide +kernel

/-- The hall with the shadows of bay 5 at the ends of their ranges. -/
def withBayShadow : State :=
  { hall with shadows := { hall.shadows with bay := hall.shadows.bay.set 5 ⟨255, 5000, 6000⟩ } }

theorem test_witness_BayTriggers :
    let s := withBayShadow
    let d := withBay s 5 (bayOf bayDispensing)
    let k := withBay s 5 (bayOf bayStalled)
    let g := guardedBay s 5
    let setup : State := { s with engine := { s.engine with mode := .setup } }
    s.owns .second 5 ∧ s.bayFitted 5 = true ∧ s.guarded (.bay 5) = false ∧
      (s.shadows.bay.get 5).boat.toNat ≤ 255 ∧ 1 ≤ (s.shadows.bay.get 5).kg.toNat ∧
      (s.shadows.bay.get 5).kg.toNat ≤ 5000 ∧ s.engine.mode = .trading ∧
      (s.bay 5).copy.state = bayIdle ∧ s.engine.queue.length < 12 ∧
      12 ≤ (queued s 12).engine.queue.length ∧ (s.shadows.bay.get 5).delivered.toNat ≤ 6000 ∧
      d.owns .second 5 ∧ d.bayFitted 5 = true ∧ (d.bay 5).copy.state = bayDispensing ∧
      (k.bay 5).copy.state = bayStalled ∧ (d.bay 5).copy.state ≠ bayIdle ∧
      g.owns .second 5 ∧ g.guarded (.bay 5) = true ∧ setup.owns .second 5 ∧
      setup.guarded (.bay 5) = false ∧ setup.engine.mode = .setup := by
  decide +kernel

theorem test_witness_DeskBookTriggers : hall.owns .first 6 ∧ hallSetup.owns .first 6 ∧
    hallSetup.engine.mode = .setup ∧ hall.engine.mode = .trading ∧
    hall.slotFree (.trigger (rostrumSlot 1)) = true ∧ hall.slotFree (.trigger deskSlot) = true ∧
    (hall.setDesk deskSlot (.plain .taken)).slotFree (.trigger deskSlot) = false ∧
    (hall.setDesk 1 (.plain .taken)).slotFree (.trigger (rostrumSlot 1)) = false ∧
    hall.engine.queue.length < 12 ∧ 12 ≤ (queued hall 12).engine.queue.length := by decide +kernel

/-! ## Reads and plain books -/

theorem test_witness_Reads :
    let bad : State := { hall with store := { hall.store with bad := [180, 4096] } }
    let guarded := hall.withGuard [.account 255, .crate 4095]
    let waits := (hall.setWait .first (.guard ⟨portAddr 3 (16 * 4095), .word, none⟩))
    hall.idlePort .first ∧ hall.store.failing (hall.controlAddr ConfigWord.feeRate.offset) 4 = false ∧
      bad.store.failing (bad.controlAddr ConfigWord.feeRate.offset) 4 = true ∧
      (255 : BitVec 12).toNat < 256 ∧ hall.guarded (.account 255) = false ∧
      hall.store.failing (hall.accountAddr 255) 64 = false ∧
      bad.store.failing (bad.accountAddr 0) 64 = true ∧ bad.guarded (.account 0) = false ∧
      guarded.guarded (.account 255) = true ∧
      (waits.path .first).wait = .guard ⟨portAddr 3 (16 * 4095), .word, none⟩ ∧
      waits.guarded (.crate 4095) = false ∧ guarded.guarded (.crate 4095) = true ∧
      waits.store.failing (waits.base 3 + 16 * 4095) 4 = false ∧
      guardRecord 3 (16 * 4095) = some (.crate 4095) ∧ guardRecord 2 (64 * 2047) = some (.lot 2047) ∧
      isLatching 2 ⟨portAddr 2 (64 * 2047), .word, none⟩ = true ∧
      isLatching 3 ⟨portAddr 3 (16 * 4095), .word, none⟩ = false ∧
      hall.guarded (.lot 2047) = false ∧ hall.store.failing (hall.lotAddr 2047) 64 = false ∧
      (2047 : BitVec 12).toNat < 2048 := by decide +kernel

/-- The words of the last slot of each station, with every field of a STATUS group present. -/
theorem test_stationReads :
    let st : Status := ⟨.refused, some .dayMismatch, some 0x12345678, some 9, true, 0xABC⟩
    let s := (((withScale .settled (.pending 3)).setBay 5 { hall.bay 5 with status := st }).setReader 11
      { hall.reader 11 with last := some 5 }).setDesk 2 st
    let reads (off : Nat) (w : Word) : Prop :=
      after (.portRead .second (portAddr 5 off) .word) s = some (s.answer .second (.data w))
    reads (0x118 + 64 * 7) 12000 ∧ reads (0x11C + 64 * 7) 0x00040006 ∧ reads (0x120 + 64 * 7) 0x00090001 ∧
      reads 0x118 s.copies.substitute ∧ reads (0x308 + 32 * 11) 5 ∧ reads 0x308 s.copies.substitute ∧
      reads (0x534 + 64 * 5) 0xABC71504 ∧ reads (0x538 + 64 * 5) 0x12345678 ∧ reads 0x538 0 ∧
      after (.portRead .first (portAddr 6 0x5C) .word) s = some (s.answer .first (.data 9)) := by
  decide +kernel

/-- A valid snapshot of a guarded, struck record answers a word at its last offset, and a byte and a halfword
within word 0 beyond offset 0; a byte at offset 0 goes to the store. -/
theorem test_witness_SnapshotReads :
    let words : List Word := 0xBBCCDDEE :: (List.range 15).map fun k => BitVec.ofNat 32 ((k + 1) * 0x01010101)
    let snap (s : State) (b : LatchBook) (n : Nat) : State :=
      s.setPath .second { s.path .second with snapshot := some ⟨b, n, words⟩ }
    let lots := snap (struckAt (hall.withGuard [.lot 2047]) [hall.lotAddr 2047 + 60]) .lots 2047
    let accounts := snap hall .accounts 255
    after (.portRead .second (portAddr 2 (64 * 2047 + 60)) .word) lots =
        some (lots.answer .second (.data 0x0F0F0F0F)) ∧
      after (.portRead .second (portAddr 1 (64 * 255 + 1)) .byte) accounts =
        some (accounts.answer .second (.data 0xDD)) ∧
      after (.portRead .second (portAddr 1 (64 * 255 + 2)) .half) accounts =
        some (accounts.answer .second (.data 0xBBCC)) ∧
      after (.portRead .second (portAddr 1 (64 * 255)) .byte) accounts =
        some ((accounts.granted (accounts.grantee .second)).answer .second (.data 0)) ∧
      lots.idlePort .second ∧ lots.guarded (.lot 2047) = true ∧
      lots.store.failing (lots.lotAddr 2047) 64 = true ∧ accounts.guarded (.account 255) = false ∧
      accounts.store.failing (accounts.accountAddr 255) 2 = false ∧ 60 + sizeBytes .word ≤ 64 := by
  decide +kernel

/-- The hall with a HELD descriptor of book 7 in the last entry. -/
def withDescriptor : State :=
  { hall with cache := { hall.cache with
      entries := hall.cache.entries.set 15 (.held 7 ⟨true, 400, 256, .office, 2, false⟩) } }

theorem test_witness_PlainBookAccess :
    let s := withDescriptor
    let locked : State := { s with cache := { s.cache with
      entries := s.cache.entries.set 15 (.held 7 ⟨true, 400, 256, .office, 1, true⟩) } }
    s.idlePort .second ∧ (addrBook (portAddr 7 252)).toNat = 7 ∧
      s.cache.find (addrBook (portAddr 7 252)) = some (.held 7 ⟨true, 400, 256, .office, 2, false⟩) ∧
      addrOffset (portAddr 7 252) + sizeBytes .word ≤ (256 : Word).toNat ∧
      addrOffset (portAddr 7 252) % sizeBytes .word = 0 ∧
      s.store.failing (400 * 1024 + 252) 4 = false ∧
      after (.portRead .second (portAddr 7 253) .word) s =
        some (s.faultAccess .second ⟨portAddr 7 253, .word, none⟩ .limit) ∧
      after (.portWrite .second (portAddr 7 252) .word 1) locked =
        some (locked.faultAccess .second ⟨portAddr 7 252, .word, some 1⟩ .rights) ∧
      after (.portWrite .first (portAddr 7 252) .word 1) locked =
        some (locked.faultAccess .first ⟨portAddr 7 252, .word, some 1⟩ .writeLock) := by
  decide +kernel

/-- A miss whose pointer stands at the last entry, which is FETCHING: the first entry is the victim. -/
theorem test_witness_PlainBookMiss :
    let s : State := { hall with cache := ⟨hall.cache.entries.set 15 (.fetching 9 false), 15⟩ }
    s.idlePort .second ∧ s.cache.find 63 = none ∧
      (s.cache.entries.get (passed s.cacheSets 1 s.cache.victim)).isFetching = false ∧
      (s.cache.entries.get (passed s.cacheSets 0 s.cache.victim)).isFetching = true ∧
      passed s.cacheSets 1 s.cache.victim = 0 := by decide +kernel

theorem test_witness_DescriptorFetchEnds :
    let s : State := { hall with cache := { hall.cache with
      entries := hall.cache.entries.set 0 (.fetching 63 true) } }
    let t : State := { hall with cache := { hall.cache with
      entries := hall.cache.entries.set 15 (.fetching 7 false) } }
    let bad : State := { t with store := { t.store with bad := [0x200] } }
    s.cache.find 63 = some (.fetching 63 true) ∧ s.store.failing (s.descriptorAddr 63) 8 = false ∧
      t.cache.find 7 = some (.fetching 7 false) ∧
      t.store.failing (t.descriptorAddr 7) 8 = false ∧ bad.store.failing (bad.descriptorAddr 7) 8 = true := by
  decide +kernel

/-- A quay read and an office write wait on the fetch of book 7: with a good descriptor the office's access
comes first, after a parity error both fault, and an access that waits on another book goes on waiting. -/
theorem test_fetchWaiters :
    let good := put hall [(hall.descriptorAddr 7, 0xA0000190), (hall.descriptorAddr 7 + 4, 256)]
    let s (v : State) (book : Nat) : State :=
      (({ v with cache := { v.cache with entries := v.cache.entries.set 15 (.fetching 7 false) } }).setWait
        .first (.fetch ⟨portAddr book 252, .word, some 5⟩)).setWait .second
        (.fetch ⟨portAddr 7 252, .word, none⟩)
    let ends (v : State) : Option (Answer × Answer) :=
      (after (.descriptorFetchDone 7) v).map fun t => ((t.path .first).answer, (t.path .second).answer)
    (s good 7).side .first = .office ∧ ends (s good 7) = some (.done, .data 5) ∧
      ends (s (struckAt good [hall.descriptorAddr 7 + 7]) 7) =
        some (.fault .storeParity, .fault .storeParity) ∧
      (after (.descriptorFetchDone 7) (s good 63)).map (fun t => ((t.path .first).wait, (t.path .second).answer))
        = some (.fetch ⟨portAddr 63 252, .word, some 5⟩, .data 0) := by decide +kernel

/-- The hall with the last notice and the last indication set, and both enabled. -/
def noisy : State :=
  { hall with notices := { hall.notices with
      flags := 0x200, enable := 0x200, quayFlags := 0x2000000, quayEnable := 0x2000000 } }

theorem test_witness_NoticeLines :
    noisy.officeLine = true ∧ noisy.quayLine = true ∧ noisy.owns .first 0 ∧ noisy.owns .second 5 ∧
      (after (.noticeEnableWrite .first 0x1FF) noisy).map State.officeLine = some false ∧
      (after (.noticeFlagsClear .first 0x200) noisy).map State.officeLine = some false ∧
      (after (.portWrite .second (portAddr 5 4) .word 0x1FFFFFF) noisy).map State.quayLine = some false ∧
      (after (.quayIndicationClear .second 0x2000000) noisy).map State.quayLine = some false ∧
      ({ noisy with part := .unpowered } : State).part = .unpowered := by decide +kernel

/-! ## Clock, power and the part's own steps -/

/-- Ticks of parts that are not RUNNING: at the wrap of hall time under main power and on the backup supply,
and none without any supply. -/
theorem test_witness_TicksOutsideRunning :
    let s (part : PartState) (lost : Bool) : State :=
      { hall with part := part, clock := { hall.clock with
          date := ⟨2099, 12, 31⟩, time := ⟨23, 59, 59⟩, fail := false, backupLost := lost } }
    let ticked (v : State) : Option (Date × Bool × Bool) :=
      (after .secondTick v).map fun t => (t.clock.date, t.clock.fail, t.noticed .clockFail)
    (s .starting false).clock.wraps = true ∧ (s .starting false).clock.hold = false ∧
      (s .starting false).clock.crystal = true ∧
      ticked (s .starting false) = some (⟨2000, 1, 1⟩, true, true) ∧
      ticked (s .noProfile false) = some (⟨2000, 1, 1⟩, true, true) ∧
      ticked (s .unpowered false) = some (⟨2000, 1, 1⟩, true, false) ∧
      ticked (s .unpowered true) = some (⟨2099, 12, 31⟩, false, false) := by decide +kernel

theorem test_witness_TicksAndCrystal :
    let s := withBay hall 5 { bayOf bayDispensing with elapsed := 599 }
    s.part = .running ∧ s.clock.hold = false ∧ s.clock.crystal = true ∧ s.bayFitted 5 = true ∧
      (s.bay 5).copy.state = bayDispensing ∧
      s.ice.limit.toNat ≤ ((s.bay 5).copy.elapsed + 1).toNat := by decide +kernel

/-- The hall a second before midnight, with a schedule. -/
def scheduled (entries : Vector Word 4) : State :=
  { hall with clock := { hall.clock with time := ⟨23, 59, 59⟩, schedule := entries } }

/-- A DAY_CLOSE entry of midnight that matches with both tariffs and a NOTICE; and a full schedule of
tariff entries. -/
theorem test_witness_ScheduleActions :
    let s := scheduled #v[0x82FFFFFF, 0x81FFFFFF, 0x80000000, 0x83FFFFFF]
    s.part = .running ∧ s.clock.hold = false ∧ s.clock.crystal = true ∧ s.clock.request = .none ∧
      (∀ k : Fin 4, entryMatches (s.clock.schedule.get k) s.clock.time.next.1 = true) ∧
      (after .secondTick s).map (fun t => (t.ice.band, t.noticed .schedule, t.clock.request)) =
        some (.a, true, .waiting { post .dayClose .schedule 3 0 0 0 with stamp := ⟨86400, true⟩ }) := by
  decide +kernel

theorem test_witness_PowerAndReset :
    let off : State := { hall with part := .unpowered }
    let dark : State := { off with clock := { off.clock with backupLost := true } }
    hall.part ≠ .unpowered ∧ hall.rom = some Profile.board ∧ Profile.board.isValid = true ∧
      hall.part = .running ∧ hall.engine.work = .none ∧ hall.store.fuse = none ∧
      ({ Profile.board with checkSum := 0 } : Profile).isValid = false ∧
      off.part = .unpowered ∧ off.clock.backupLost = false ∧ dark.part = .unpowered ∧
      dark.clock.backupLost = true := by decide +kernel

/-- A reset that falls within the second write of a FORMAT run by ENGINE_FORMAT, before start-up has ended:
the engine record's day state and format state stand, and the part is STARTING. -/
theorem test_resetCutsEngineFormat :
    let s := haltedBy (withEntry 5 0) .redo
    let cut : Cut := ⟨.write .first (portAddr 0 4) 4, 1⟩
    (after (.reset ⟨cut, false⟩) s).map (fun t => (t.part, t.engineRecord.formatState, t.store.fuse)) =
      some (.starting, formatting, none) := by decide +kernel

/-- A reset that falls within a FORMAT after the tail write made in it: that tail write is the FORMAT's last
write to land. A part without power takes a cut that begins with a power-up, and no other. -/
theorem test_resetCutsTailWriteWithinFormat :
    let s := handed hallSetup (post .format .desk 0 0 0 0)
    let run : EngineRun := ⟨.inHand, .before7, []⟩
    let tail (n : Nat) : Option Word :=
      (after (.reset ⟨⟨.tailWithin .first 4 run, n⟩, false⟩) s).map fun t => t.store.word (s.controlAddr 0x0A0)
    let off : State := { hall with part := .unpowered }
    tail 314 = some 0 ∧ tail 315 = some 4 ∧
      off.cutTaken ⟨.tailWithin .first 4 ⟨.startUp, .withdrawn 0, []⟩, 1⟩ = true ∧
      off.cutTaken ⟨.tailWithin .first 4 run, 1⟩ = false := by decide +kernel

/-- A start-up that a reset cuts takes no access that waits for its end: a clock setting that waits is gone,
and hall time stands. -/
theorem test_cutStartUpDropsAccesses :
    let s : State := { hall with
      part := .starting
      clock := { hall.clock with hold := true }
      first := { hall.first with wait := .unchecked ⟨portAddr 0 0x018, .word, some 5⟩ } }
    s.dropAccesses.first.wait = .free ∧ s.dropAccesses.second.wait = .free ∧
      s.dropAccesses.clock = s.clock ∧
      s.runCut .inHand = s.dropAccesses.startUp := ⟨by decide +kernel, by decide +kernel, rfl, rfl⟩

/-- A descriptor with an assigned field, each unassigned bit at an end of its run, and the lock bit next to
them. -/
theorem test_descriptorUnassignedBits :
    field (0x00004000 : Word) 14 12 ≠ 0 ∧ field (0x02000000 : Word) 14 12 ≠ 0 ∧
      (0x40000000 : Word).getLsbD 30 = true ∧ field (0x84003FFF : Word) 14 12 = 0 ∧
      (0x84003FFF : Word).getLsbD 30 = false ∧
      (((put blank [(blank.tableAddr 0, 0xFFFFFFFF)]).invalidate 0).store.word
        (blank.tableAddr 0)) = 0x3C003FFF ∧ descriptorReplaced 0x84003FFF 262144 = false ∧
      descriptorReplaced 0x84007FFF 262144 = true ∧ descriptorReplaced 0xC4003FFF 262144 = true := by
  decide +kernel

/-- Words out of range, a struck word and a struck descriptor; the limits of a descriptor at their ends. -/
theorem test_witness_StartUpNormalises :
    let a := hall.controlAddr
    let s := struckAt (put hall [(a 0xB4, 201), (a 0x204, 262144), (a 0x20C, 262145)]) [a 0xCC, a 0x217]
    s.store.fuse = none ∧
      ConfigWord.takes .feeRate 0 0 (s.store.word (a ConfigWord.feeRate.offset)) = false ∧
      s.store.failing (a ConfigWord.settleWindow.offset) 4 = true ∧
      (s.store.word (s.tableAddr 0 + 4)).toNat ≤ 262144 ∧ 262144 < (s.store.word (s.tableAddr 1 + 4)).toNat ∧
      s.store.failing (s.tableAddr 2) 8 = true ∧ (a 4096 ≤ hall.accountAddr 0) := by decide +kernel

theorem test_witness_StartUpRedo :
    let s := withEntry 5 1
    let a := s.entryAddr 5
    let images := dueHere.entry.images
    s.profile = some Profile.board ∧ Profile.board.isValid = true ∧ s.store.fuse = none ∧
      s.isFormatted = true ∧ s.store.failing a 256 = false ∧ s.store.word (a + 4) = 5 ∧
      entryImages s.store a = images ++ [.engine dayOpen 6 9 3] ∧
      (∀ i ∈ images, RecordId.engine ∉ i.targets) ∧
      images.Pairwise (fun i j => ∀ x ∈ i.targets, x ∉ j.targets) ∧ field (s.store.word a) 0 8 = 1 ∧
      s.engineRecord = s.engine.copy ∧ s.bayFitted 5 = true := by decide +kernel

/-- The other entries that redo meets: a struck one, an old one, an empty one, and a DONE one. -/
theorem test_witness_StartUpRedoOthers :
    let struck := struckAt (withEntry 5 1) [hall.entryAddr 5]
    struck.isFormatted = true ∧ struck.store.failing (hall.entryAddr 5) 256 = true ∧
      (withEntry 4 1).store.word (hall.entryAddr 5 + 4) ≠ 5 ∧
      field ((withEntry 5 0).store.word (hall.entryAddr 5)) 0 8 = 0 ∧
      field ((withEntry 5 2).store.word (hall.entryAddr 5)) 0 8 = 2 := by decide +kernel

/-- The hall with a bay in each state that the fix-ups tell apart, and a struck record. -/
theorem test_witness_BayFixUps :
    let s := struckAt (put hall (wordsAt (hall.bayAddr 0) (bayOf bayHoldPending).words ++
      wordsAt (hall.bayAddr 1) (bayOf bayDispensing).words)) [hall.bayAddr 4 + 31]
    s.profile = some Profile.board ∧ s.store.fuse = none ∧ s.engine.guard = [] ∧
      s.engine.copy.formatState ≠ unformatted ∧ 5 < Profile.board.bays.toNat ∧
      (s.bayRecord 0).state = bayHoldPending ∧ (s.bayRecord 1).state = bayDispensing ∧
      (s.bayRecord 2).state = baySettlePending ∧ (s.bayRecord 3).state = bayStalled ∧
      s.recordFails (.bay 4) = true ∧ s.recordFails (.bay 3) = false ∧
      ({ Profile.board with bays := 5 } : Profile).bays.toNat ≤ (5 : Fin 6).val ∧
      State.reset.engine.copy.formatState = unformatted := by decide +kernel

/-- A REQUEST that waited through start-up at the last bay. -/
theorem test_witness_WaitedRequest :
    let s := hallSetup.setWait .second (.unchecked ⟨portAddr 5 0x66C, .word, some 9⟩)
    s.part = .running ∧ s.engine.mode = .setup ∧ s.mayWrite (s.side .second) 5 = true ∧
      s.bayFitted 5 = true ∧ s.guarded (.bay 5) = false ∧ 0x52C + 64 * (5 : Fin 6).val = 0x66C ∧
      (s.shadows.bay.get 5).kg = 0 ∧
      ((s.checkWaiting .second).bay 5).status.reason = some .hallSetup ∧
      ((s.checkWaiting .second).path .second).answer = .done := by decide +kernel

/-- The office's waiting HALL_MODE write opens trading before the quay's waiting REQUEST is checked, which
then faults by its zeroed shadows. -/
theorem test_waitedRequestInTrading :
    let w := hall.setWait .second (.unchecked ⟨portAddr 5 0x66C, .word, some 9⟩)
    let s := (hallSetup.setWait .second (.unchecked ⟨portAddr 5 0x66C, .word, some 9⟩)).setWait .first
      (.unchecked ⟨portAddr 0 0, .word, some 2⟩)
    let t := s.bothPorts State.checkWaiting
    t.engine.mode = .trading ∧ (t.path .first).answer = .done ∧
      (t.path .second).answer = .fault .badValue ∧ (t.bay 5).copy.state = bayIdle ∧
      t.engine.queue = [] ∧ w.part = .running ∧ w.engine.mode = .trading ∧ (w.shadows.bay.get 5).kg = 0 ∧
      w.mayWrite (w.side .second) 5 = true ∧ w.bayFitted 5 = true := by decide +kernel

theorem test_witness_BayBackgroundSteps :
    let h : HeldTrigger := ⟨.second, true, ⟨3, 1, 6000⟩, 0⟩
    let r : HeldTrigger := ⟨.first, false, ⟨3, 5000, 0⟩, 0⟩
    let s := hall.setBay 5 { hall.bay 5 with held := [h], writeDue := true, copy := bayOf bayStalled }
    let t := hall.setBay 5 { hall.bay 5 with held := [r, h] }
    s.guarded (.bay 5) = false ∧ (guardedBay s 5).guarded (.bay 5) = true ∧ (s.bay 5).writeDue = true ∧
      s.store.fuse = none ∧ (s.bay 5).held = [h] ∧ (s.bay 5).copy.state = bayStalled ∧
      t.guarded (.bay 5) = false ∧ (t.bay 5).held = r :: [h] ∧ r.isDone = false ∧
      (t.bay 5).copy.state = bayIdle ∧ t.engine.mode = .trading ∧ t.engine.queue.length < 12 ∧
      12 ≤ (queued t 12).engine.queue.length ∧ hallSetup.engine.mode = .setup ∧ h.isDone = true ∧
      (bayOf bayDispensing).state ≠ bayIdle ∧ (hall.bay 5).copy.state ≠ bayDispensing ∧
      (hall.bay 5).copy.state ≠ bayStalled := by decide +kernel

theorem test_witness_InternalAdmissionStep :
    let p := post .dayClose .schedule 3 0 0 0
    let s : State := { queued hall 15 with clock := { hall.clock with request := .waiting p } }
    16 ≤ (queued hall 16).engine.queue.length ∧ (∀ i : Fin 11, hall.waitingAt i = none) ∧
      s.engine.queue.length < 16 ∧
      (∀ j : Fin 11, j.val < (10 : Fin 11).val → s.waitingAt (s.engine.pointer + j) = none) ∧
      s.waitingAt (s.engine.pointer + 10) = some p := by decide +kernel

/-! ## Postings -/

/-- A full journal keeps each entry that falls due waiting: an applied posting's, a refused one's, that of
FORMAT in TRADING and that of an unknown kind. -/
theorem test_witness_JournalWaitEntry :
    let full := headAt hall 258
    let waits (i : Instr) (p : Posting) : Prop :=
      (after i (handed full p)).map (fun t => (t.engine.state, t.noticed .journalFull, t.store == full.store))
        = some (.journalWait, true, true)
    full.isFormatted = true ∧ full.journalFull = true ∧ (∀ b : Fin 6, (full.bay b).writeDue = false) ∧
      (full.engine.copy.head - 3 : Word) ≠ 256#32 ∧
      waits .freeze (post .freeze .desk 3 0 0 0) ∧ waits .freeze (post .freeze .desk 999 0 0 0) ∧
      waits .dayClose (post .dayClose .desk 4 0 0 0) ∧ waits .format (post .format .desk 0 0 0 0) ∧
      (post .format (.rostrum 0) 0 0 0 0).kindOf = none ∧
      waits .unknownKind (post .format (.rostrum 0) 0 0 0 0) := by decide +kernel

/-- The hall with a full journal and a lot in slot 0, which a DAY_CLOSE of day 3 would withdraw. -/
def fullClose : State :=
  handed (put (headAt hall 258) (wordsAt (hall.lotAddr 0) floorLot.words)) (post .dayClose .desk 3 0 0 0)

/-- A close in a full journal waits with its withdrawal, or with the refused entry of a struck lot or a struck
crate of its lot. -/
theorem test_witness_JournalWaitOfClose :
    let crate := struckAt fullClose [hall.crateAddr 10]
    let lot := struckAt fullClose [hall.lotAddr 0]
    let waits (s : State) : Option (CloseWork × Option Nat) :=
      (after .dayClose s).bind fun t =>
        match t.engine.state, t.engine.work with
        | .journalWait, .close c .struck => some (c, none)
        | .journalWait, .close c (.withdrawal slot _) => some (c, some slot)
        | _, _ => none
    fullClose.inHand .dayClose = some (post .dayClose .desk 3 0 0 0) ∧
      fullClose.engine.mode = .trading ∧ fullClose.engine.copy.day = 3 ∧ fullClose.part = .running ∧
      fullClose.profile = some Profile.board ∧ fullClose.recordFails .engine = false ∧
      (fullClose.lot 0).state = lotOnFloor ∧ (fullClose.lot 0).crates = [10] ∧
      crate.recordFails (.lot 0) = false ∧ crate.anyFails [.account 3, .crate 10] = true ∧
      fullClose.anyFails [.account 3, .crate 10] = false ∧ waits crate = some (closing, none) ∧
      waits lot = some (closing, none) ∧ waits fullClose = some (closing, some 0) := by decide +kernel

/-- A hall with no lot on the floor, whose close would wait with its DAY_CLOSED entry. -/
theorem test_witness_JournalWaitOfFinish :
    (headAt blank 258).store.bad = [] ∧ (headAt blank 258).journalFull = true ∧
      (headAt blank 258).store.cells = [] ∧ (blank.lot 2047).state ≠ lotOnFloor := by decide +kernel

/-- A tail write that makes room ends JOURNAL_WAIT, and one that makes none leaves it. -/
theorem test_witness_JournalWaitTail :
    let s (w : Work) : State :=
      { headAt hall 258 with engine := { (headAt hall 258).engine with state := .journalWait, work := w } }
    let due : Work := .due ((post .freeze .desk 3 0 0 0).due [] 7 none)
    let ends (w : Work) (t : Word) : Option EngineState :=
      (after (.tailWrite .first ⟨t, none⟩) (s w)).map fun u => u.engine.state
    (s due).owns .first 0 ∧ (s due).engine.tail = 2 ∧ (s due).engine.copy.head = 258 ∧
      ends due 2 = some .journalWait ∧ ends due 3 = some .applying ∧ ends due 258 = some .applying ∧
      ends (.close closing .finish) 3 = some .closingDay := by decide +kernel

theorem test_witness_JournalWaitRelease :
    let d : Due := (post .freeze .desk 3 0 0 0).due [] 7 none
    let s : State := { hall with engine := { hall.engine with state := .applying, work := .due d } }
    let t (w : CloseDue) : State :=
      { hall with engine := { hall.engine with state := .closingDay, work := .close closing w } }
    s.engine.state = .applying ∧ s.engine.work = .due d ∧ s.journalFull = false ∧
      (t .finish).engine.work = .close closing .finish ∧ (t .struck).engine.work = .close closing .struck ∧
      (t (.withdrawal 2047 d.entry)).engine.work = .close closing (.withdrawal 2047 d.entry) ∧
      (t .finish).engine.state = .closingDay ∧ (t .finish).journalFull = false ∧
      (headAt hall 258).journalFull = true ∧ (headAt hall 257).journalFull = false := by
  decide +kernel

theorem test_witness_AccountPostingsApply :
    let at_ (k : PostKind) (w0 w1 w2 : Word) (s : State) : Prop :=
      (handed s (post k .desk w0 w1 w2 0)).applies k (post k .desk w0 w1 w2 0) ∧
        (handed s (post k .desk w0 w1 w2 0)).readable [.account w0.toNat] ∧ 2 < w0.toNat ∧ w0.toNat ≤ 255
    let emptied := put hall (({ account kindBoat 0 0 with holds := 0, crates := 0, floor := 0 }).writes
      (hall.accountAddr 255) 0)
    at_ .openAccount 255 2 2147483647 hall ∧ (hall.account 255).kind = kindUnused ∧
      at_ .setCredit 3 2147483647 0 hall ∧ (hall.account 3).trades ∧ at_ .freeze 3 0 0 hallSetup ∧
      at_ .thaw 3 0 0 hall ∧ at_ .closeAccount 255 0 0 emptied ∧ (emptied.account 255).trades ∧
      (emptied.account 255).balance = 0 ∧ (emptied.account 255).holds = 0 ∧
      (emptied.account 255).crates = 0 ∧ (emptied.account 255).floor = 0 := by decide +kernel

theorem test_witness_TransferApplies :
    let p := post .transfer .desk 3 2 4910 0
    let s := handed hall p
    s.applies .transfer p ∧ s.readable [.account 3, .account 2] ∧ (s.account 3).kind ≠ kindUnused ∧
      (s.account 3).state = accountOpen ∧
      (4910 : Int) ≤ (s.account 3).balance.toInt + (s.account 3).credit.toInt - (s.account 3).holds.toInt ∧
      (s.account 2).trades ∧ (s.account 3).takes (-4910) ∧ (s.account 2).takes 4910 := by decide +kernel

theorem test_witness_LandApplies :
    let p := post .land (.scale 7) 0x00020903 1 501 0 [0x00900009]
    let s := handed hall p
    let c := s.crate 9
    s.applies .land p ∧ s.readable [.account 3, .lot 7, .crate 9] ∧ landBoat p = 3 ∧
      p.tray.map tagCrate = [9] ∧ (s.account 3).kind = kindBoat ∧ (s.account 3).state = accountOpen ∧
      c.state = crateLent ∧ c.serial = tagSerial 0x00900009 ∧ c.holder = 3 ∧ s.typeTare c.type = 500 ∧
      landGross p = 501 ∧ (s.lot 7).state ≠ lotOnFloor := by decide +kernel

theorem test_witness_LotPostingsApply :
    let w := post .withdraw (.rostrum 0) 6 0 0 0
    let p := post .sell (.rostrum 1) 6 4 100000 0
    let t := handed hall w
    let s := handed hall p
    let value := 12345 * 100000 / 100
    (s.lot 6).number = 6 ∧ (s.lot 6).state = lotOnFloor ∧ (s.lot 6).crates = [10] ∧
      t.applies .withdraw w ∧ t.readable [.lot 6, .account 3, .crate 10] ∧
      s.applies .sell (post .sell (.rostrum 1) 6 4 100000 0) ∧
      s.readable [.lot 6, .account 4, .account 0, .account 3, .crate 10] ∧
      (s.account 4).kind = kindBuyer ∧ (s.account 4).state = accountOpen ∧
      ¬ ((value + 40 : Nat) : Int) ≤ (s.account 4).balance.toInt ∧
      (let q := post .sell (.rostrum 1) 6 4 100 0
        let u := handed hall q
        u.applies .sell q ∧
        ((12345 + 40 : Nat) : Int) ≤
          (u.account 4).balance.toInt + (u.account 4).credit.toInt - (u.account 4).holds.toInt ∧
        (u.account 4).takes (-(12345 + 40)) ∧ (u.account 3).takes (12345 - 370 + 40) ∧
        (u.account 0).takes 370 ∧ (u.account 3).kind = kindBoat ∧ (u.account 0).kind = kindHall) := by
  decide +kernel

theorem test_witness_CratePostingsApply :
    let l := post .lend (.gate 0) 0x00800008 3 0 0
    let r := post .returnCrate (.gate 3) 0x00900009 0 0 0
    let x := post .returnCrate (.gate 3) 0x00B0000B 0 0 0
    let g := post .registerCrate .desk 4095 1048575 15 0
    let t := post .retireCrate .desk 8 0 0 0
    let o := post .writeOff .desk 9 0 0 0
    (handed hall l).applies .lend l ∧ (hall.crate 8).serial = tagSerial 0x00800008 ∧
      tagCrate 0x00800008 = 8 ∧ (hall.crate 8).state = crateInHall ∧ hall.typeDeposit (hall.crate 8).type = 40 ∧
      hall.readable [.crate 8, .account 1, .account 3] ∧ (hall.account 3).takes (-40) ∧
      (40 : Int) ≤ (hall.account 3).balance.toInt - (hall.account 3).holds.toInt ∧
      (handed hall r).applies .returnCrate r ∧ (hall.crate 9).state = crateLent ∧
      (hall.crate 9).holder = 3 ∧ (hall.account 1).takes (-40) ∧
      (handed hall x).applies .returnCrate x ∧ (hall.crate 11).state = crateLost ∧
      (handed hallSetup g).applies .registerCrate g ∧ (hall.crate 4095).state = crateRetired ∧
      (handed hall t).applies .retireCrate t ∧
      (handed hall o).applies .writeOff o ∧ (hall.account 0).takes 40 := by decide +kernel

theorem test_witness_IcePostingsApply :
    let h := post .iceHold (.bay 5) 5 3 545 9
    let e := post .iceSettle (.bay 2) 2 3 6000 0
    let f := post .bayRelease .desk 3 6000 0 0
    (handed hall h).applies .iceHold h ∧ (hall.account 3).kind = kindBoat ∧
      ((545 * 9 : Nat) : Int) ≤ (hall.account 3).balance.toInt - (hall.account 3).holds.toInt ∧
      hall.readable [.bay 5, .account 3] ∧ (handed hall e).applies .iceSettle e ∧
      (hall.bayRecord 2).state = baySettlePending ∧ (hall.account 3).takes (-54000) ∧
      (hall.account 0).takes 54000 ∧ (hall.bayRecord 2).heldCost.toNat ≤ (hall.account 3).holds.toNat ∧
      (handed hallSetup f).applies .bayRelease f ∧ (hall.bayRecord 3).state = bayStalled ∧
      hall.profile = some Profile.board ∧ 3 < Profile.board.bays.toNat ∧
      (hall.bayRecord 3).boat.toNat = 3 := by
  decide +kernel

theorem test_witness_FormatBuildsEmptyHall :
    let p := post .format .desk 0 0 0 0
    let s := handed blankSetup p
    s.inHand .format = some p ∧ s.engine.mode = .setup ∧ (∀ b : Fin 6, (s.bay b).copy.state = bayIdle) ∧
      s.profile = some Profile.board ∧ Profile.board.isValid = true ∧ s.store.fuse = none ∧
      s.store.failing s.engineAddr 16 = false ∧ (withEntry 5 0).engineRecord = (withEntry 5 0).engine.copy := by
  decide +kernel

/-- Tail writes within a FORMAT at the values where they begin to fault: old head 5 and old tail 2, then
head 0, then head 1. Where the FORMAT in hand would be refused there is none to fall within. -/
theorem test_tailWritesWithinFormat :
    let s := handed blankSetup (post .format .desk 0 0 0 0)
    let ends (point : RunPoint) (w : Word) : Option (Word × Answer) :=
      (after (.tailWrite .first ⟨w, some ⟨.inHand, point, []⟩⟩) s).map fun t =>
        (t.engine.tail, (t.path .first).answer)
    s.idlePort .first ∧ s.side .first = .office ∧
      ends .before7 5 = some (0, .done) ∧ ends .before7 6 = some (0, .fault .badValue) ∧
      ends .before8 0 = some (0, .done) ∧ ends .before8 1 = some (0, .fault .badValue) ∧
      ends .before9 1 = some (1, .done) ∧ ends .before9 2 = some (0, .fault .badValue) ∧
      (handed hall (post .format .desk 0 0 0 0)).formatRefusal = some .hallTrading ∧
      s.formatRefusal = none := by decide +kernel

/-- ENGINE_FORMAT, and two tail writes within its FORMAT. -/
theorem test_witness_EngineFormatCommand :
    let s := haltedBy blank (.close closing)
    let ends (i : Instr) : Option (EngineRecord × Word × Answer) :=
      (after i s).map fun t => (t.engine.copy, t.engine.tail, (t.path .first).answer)
    s.owns .first 0 ∧ s.engine.state = .halted ∧ s.engine.halt = some (.close closing) ∧
      ends (.engineFormat .first) = some (⟨1, 1, 1, dayOpen, formatted⟩, 0, .done) ∧
      ends (.tailWrite .first ⟨1, some ⟨.engineFormat .first, .before8, [(.before9, .first, 1)]⟩⟩) =
        some (⟨1, 1, 1, dayOpen, formatted⟩, 1, .done) := by decide +kernel

/-- A hall with one lot on the floor and nothing else but the boat's kind. -/
def oneLot : State :=
  put blank [(blank.lotAddr 6, 6), (blank.lotAddr 6 + 4, 0x03000001), (blank.accountAddr 3, 0x101)]

theorem test_witness_DayCloseOpensNextDay :
    let p := post .dayClose .schedule 3 0 0 0
    let s := handed oneLot p
    let h := haltedBy oneLot (.close { closing with source := .schedule })
    h.owns .first 0 ∧ h.engine.state = .halted ∧ closing.reports = true ∧ h.store.bad = [] ∧
      s.applies .dayClose p ∧ p.params.w0 = s.engine.copy.day ∧ s.engine.copy.day ≠ 0 ∧
      s.store.bad = [] ∧ (s.lot 6).state = lotOnFloor := by
  decide +kernel

/-- A close goes on from its withdrawal at slot 2046 with room for one entry and a lot in slot 2047; account 0
is struck, which halts it there. A tail write after the first withdrawal lets it come so far without
JOURNAL_FULL; one beyond the head faults, and the close waits. -/
theorem test_tailWriteWithinClose :
    let h := struckAt (put (headAt blank 257) [(blank.lotAddr 2047 + 4, 0x03000001)]) [blank.accountAddr 0]
    let s : State := { h with engine := { h.engine with
      state := .closingDay, work := .close closing (.withdrawal 2046 dueHere.entry), guard := [.engine] } }
    let ends (w : Word) : Option (Word × Bool × Answer) :=
      (after (.tailWrite .first ⟨w, some ⟨.journalRelease, .withdrawn 1, []⟩⟩) s).map fun t =>
        (t.engine.copy.head, t.noticed .journalFull, (t.path .first).answer)
    ends 258 = some (260, false, .done) ∧ ends 259 = some (258, true, .fault .badValue) := by decide +kernel

/-- Operands of the clause on a tail write within a close, at its bounds: room for one entry, two lots. -/
theorem test_witness_TailWriteWithinClose :
    let s := headAt blank 257
    let head : Word := s.engine.copy.head + 1
    s.idlePort .first ∧ s.side .first = .office ∧ (s.engine.copy.head - s.engine.tail).toNat + 1 ≤ 256 ∧
      ((258 : Word) - s.engine.tail).toNat ≤ (head - s.engine.tail).toNat ∧ (head - 258).toNat + (2 - 1) < 256 ∧
      (head - s.engine.tail).toNat < ((259 : Word) - s.engine.tail).toNat := by decide +kernel

theorem test_witness_DayCloseHasRoom :
    (oneLot.engine.copy.head - oneLot.engine.tail).toNat +
      (List.range 2048).countP (fun slot => (oneLot.lot slot).state == lotOnFloor) < 256 := by
  decide +kernel

theorem test_witness_CommonChecksUnknownKind :
    let p := post .land .desk 0 0 0 0
    let s := handed hall p
    let t := handed { State.reset with part := .running } p
    p.kindOf = none ∧ s.engine.state = .applying ∧ s.engine.work = .taken p ∧ s.isFormatted = true ∧
      s.journalFull = false ∧ s.readable [] ∧ t.isFormatted = false := by decide +kernel

/-- The STATUS of the station that a posting came from. -/
def told (t : State) : Source → Status
  | .scale n => (t.scale n).status
  | .gate g => (t.reader (gateReader g)).status
  | .bay b => (t.bay b).status
  | .rostrum r => t.desk.get (rostrumSlot r)
  | _ => t.desk.get deskSlot

/-- The reason that a command reports for a posting in hand. -/
def refusal (s : State) (i : Instr) (p : Posting) : Option Reason :=
  (after i (handed s p)).bind fun t => (told t p.source).reason

/-- A posting in hand reaches its own checks, and its command refuses it with a reason. -/
def refusesAs (k : PostKind) (i : Instr) (s : State) (p : Posting) (r : Reason) : Bool :=
  decide ((handed s p).applies k p) && refusal s i p == some r

theorem test_witness_CommonChecksRefuse :
    let f := post .freeze .desk 3 0 0 0
    let l := post .lend (.gate 0) 0x00800008 3 0 0
    let z := post .format .desk 0 0 0 0
    let empty := handed { State.reset with part := .running } f
    PostKind.row .freeze = some .freeze ∧ empty.inHand .freeze = some f ∧ empty.isFormatted = false ∧
      (handed hall f).ready ∧ (handed (struckAt hall [hall.engineAddr]) f).recordFails .engine = true ∧
      (handed hallSetup l).inHand .lend = some l ∧ modeRefusal .setup .lend = some .hallSetup ∧
      (handed hall z).inHand .format = some z ∧
      ((handed (withBay hallSetup 5 (bayOf bayStalled)) z).bay 5).copy.state ≠ bayIdle ∧
      refusal hall .format z = some .hallTrading ∧
      refusal (withBay hallSetup 5 (bayOf bayStalled)) .format z = some .bayBusy := by
  decide +kernel

theorem test_witness_CommonChecksDayClose :
    refusesAs .dayClose .dayClose hall (post .dayClose .desk 0 0 0 0) .badValue = true ∧
      refusesAs .dayClose .dayClose hall (post .dayClose .desk 2 0 0 0) .dayMismatch = true := by
  decide +kernel

/-- The checks of the account postings, each at the end of its range. -/
theorem test_witness_AccountPostingsRefused :
    let by_ (k : PostKind) (i : Instr) (w0 w1 : Word) (r : Reason) : Bool :=
      refusesAs k i hall (post k .desk w0 w1 0 0) r
    hall.store.bad = [] ∧ by_ .openAccount .openAccount 256 1 .badValue = true ∧
      by_ .openAccount .openAccount 2 1 .wrongKind = true ∧
      by_ .openAccount .openAccount 5 3 .badValue = true ∧
      by_ .openAccount .openAccount 3 2 .notEmpty = true ∧
      by_ .setCredit .setCredit 3 0x80000000 .badValue = true ∧
      by_ .setCredit .setCredit 5 0 .noAccount = true ∧ by_ .freeze .freeze 2 0 .wrongKind = true ∧
      by_ .thaw .thaw 255 0 .noAccount = true ∧
      by_ .closeAccount .closeAccount 3 0 .notEmpty = true := by decide +kernel

theorem test_witness_TransferRefused :
    let by_ (w0 w1 w2 : Word) (r : Reason) : Bool :=
      refusesAs .transfer .transfer hall (post .transfer .desk w0 w1 w2 0) r
    by_ 3 4 0 .badValue = true ∧ by_ 1 4 1 .wrongKind = true ∧ by_ 3 3 1 .badValue = true ∧
      by_ 5 4 1 .noAccount = true ∧ by_ 3 5 1 .noAccount = true ∧ by_ 3 4 4911 .credit = true ∧
      by_ 2 4 0x7FFFFFFF .range = true := by decide +kernel

/-- LAND without an account, of a crate of another boat, without net weight, and into a slot that is taken. -/
theorem test_witness_LandRefused :
    let by_ (s : State) (w0 gross : Word) (tray : List Word) (r : Reason) : Bool :=
      refusesAs .land .land s (post .land (.scale 7) w0 1 gross 0 tray) r
    let taken : State := { hall with engine := { hall.engine with
      copy := { hall.engine.copy with nextLot := 2054 } } }
    by_ hall 0x00020905 501 [] .noAccount = true ∧ by_ hall 0x00020904 501 [] .wrongKind = true ∧
      by_ hall 0x00020903 501 [0x00900008] .badTag = true ∧
      by_ hall 0x00020903 501 [0x00800008] .crateHolder = true ∧
      by_ hall 0x00020903 500 [0x00900009] .netNegative = true ∧
      by_ taken 0x00020903 501 [] .lotsFull = true := by decide +kernel

theorem test_witness_LotPostingsRefused :
    let by_ (k : PostKind) (i : Instr) (w0 w1 w2 : Word) (s : State) (r : Reason) : Bool :=
      refusesAs k i s (post k (.rostrum 0) w0 w1 w2 0) r
    let sold := put hall (wordsAt (hall.lotAddr 6) { floorLot with state := lotSold }.words)
    by_ .withdraw .withdraw 0 0 0 hall .badValue = true ∧ by_ .withdraw .withdraw 2054 0 0 hall .noLot = true ∧
      by_ .withdraw .withdraw 6 0 0 sold .lotState = true ∧ by_ .sell .sell 6 256 1 hall .badValue = true ∧
      by_ .sell .sell 6 5 1 hall .noAccount = true ∧ by_ .sell .sell 6 3 1 hall .wrongKind = true ∧
      by_ .sell .sell 6 4 100001 hall .badValue = true ∧ by_ .sell .sell 6 4 100000 hall .credit = true := by
  decide +kernel

theorem test_witness_CratePostingsRefused :
    let by_ (k : PostKind) (i : Instr) (src : Source) (w0 w1 w2 : Word) (r : Reason) : Bool :=
      refusesAs k i hall (post k src w0 w1 w2 0) r
    by_ .lend .lend (.gate 3) 0x00800009 3 0 .badTag = true ∧
      by_ .lend .lend (.gate 3) 0x00900009 3 0 .crateState = true ∧
      by_ .lend .lend (.gate 3) 0x00800008 256 0 .badValue = true ∧
      by_ .lend .lend (.gate 3) 0x00800008 255 0 .noAccount = true ∧
      by_ .lend .lend (.gate 3) 0x00800008 2 0 .wrongKind = true ∧
      by_ .returnCrate .returnCrate (.gate 0) 0 0 0 .badTag = true ∧
      by_ .returnCrate .returnCrate (.gate 0) 0x00800008 0 0 .crateState = true ∧
      by_ .registerCrate .registerCrate .desk 4096 1 0 .badValue = true ∧
      by_ .registerCrate .registerCrate .desk 4095 1048576 15 .badValue = true ∧
      by_ .registerCrate .registerCrate .desk 8 1 15 .crateState = true ∧
      by_ .retireCrate .retireCrate .desk 9 0 0 .crateState = true ∧
      by_ .writeOff .writeOff .desk 11 0 0 .crateState = true := by decide +kernel

theorem test_witness_IcePostingsRefused :
    let by_ (k : PostKind) (i : Instr) (src : Source) (w0 w1 w2 w3 : Word) (s : State) (r : Reason) : Bool :=
      refusesAs k i s (post k src w0 w1 w2 w3) r
    let dear := put hall (wordsAt (hall.bayAddr 5) { bayOf baySettlePending with rate := 1000 }.words)
    by_ .iceHold .iceHold (.bay 5) 5 255 1 9 hall .noAccount = true ∧
      by_ .iceHold .iceHold (.bay 5) 5 4 1 9 hall .wrongKind = true ∧
      by_ .iceHold .iceHold (.bay 5) 5 3 546 9 hall .credit = true ∧
      by_ .iceSettle .iceSettle (.bay 5) 5 3 6000 0 hall .notDispensing = true ∧
      by_ .iceSettle .iceSettle (.bay 5) 5 3 2147484 0 dear .range = true ∧
      by_ .bayRelease .bayRelease .desk 6 0 0 0 hallSetup .badValue = true ∧
      by_ .bayRelease .bayRelease .desk 3 6001 0 0 hallSetup .badValue = true ∧
      by_ .bayRelease .bayRelease .desk 2 6000 0 0 hallSetup .notStalled = true := by decide +kernel

/-- A report at each kind of source. -/
theorem test_reportsReachStations :
    let ended (p : Posting) (r : Option Reason) (images : List Image) : State :=
      (withBay (withScale .settled (.pending 4)) 5 (bayOf bayHoldPending)).writeDueEntry
        { p.due images 7 none with entry := p.entry r images }
    let hold := post .iceHold (.bay 5) 5 3 10 9
    let settle := post .iceSettle (.bay 5) 5 3 10 0
    ((ended (post .land (.scale 7) 3 4 1 0) none []).scale 7).commit = .committed ∧
      ((ended (post .land (.scale 7) 3 4 1 0) (some .badTag) []).scale 7).commit = .opened ∧
      ((ended (post .lend (.gate 3) 0 0 0 0) none []).reader 11).status.outcome = .applied ∧
      (ended (post .sell (.rostrum 1) 0 0 0 0) none []).noticed .desk = true ∧
      ((ended hold none [.bay 5 (bayOf bayDispensing)]).bay 5).status.outcome = .go ∧
      ((ended hold (some .credit) []).bay 5).copy.state = bayIdle ∧
      ((ended settle (some .storeError) []).bay 5).pending = some settle ∧
      ((ended settle (some .range) []).bay 5).copy.state = bayStalled ∧
      ((ended (post .bayRelease .desk 5 0 0 0) none [.bay 5 (bayOf bayIdle)]).bay 5).status.outcome =
        .settled := by decide +kernel

theorem test_witness_AppliedImagesStand :
    let is := [Image.account 0 (account kindHall 1 0), .account 4 (account kindBuyer 1 0),
      lotImage 6 0x0176 floorLot, .crates [10, 11] crateSold 4 none none, .bay 5 (bayOf bayIdle)]
    (∀ i ∈ is, i.wellFormed = true ∧ RecordId.engine ∉ i.targets) ∧
      is.Pairwise (fun i j => ∀ x ∈ i.targets, x ∉ j.targets) := by decide +kernel

/-- The engine after a posting's end: HALTED, PAUSED, at the queue head, IDLE, and at the queue head in a part
that is STARTING. -/
theorem test_witness_PostingEndNext :
    let p := post .freeze .desk 3 0 0 0
    let good : Due := p.due [] 7 none
    let stepping (s : State) : State := { s with engine := { s.engine with stepMode := true } }
    let ends (s : State) (d : Due) : EngineState × Work × Nat :=
      let t := s.writeDueEntry d
      (t.engine.state, t.engine.work, t.engine.queue.length)
    ends (stepping (queued hall 1)) (p.refusal hall .storeError) = (.halted, .none, 1) ∧
      ends (stepping (queued hall 1)) good = (.paused, .none, 1) ∧
      ends (queued hall 2) good = (.applying, .taken p, 1) ∧ ends hall good = (.idle, .none, 0) ∧
      ends (stepping { queued hall 2 with part := .starting }) good = (.applying, .taken p, 1) := by
  decide +kernel

/-- Bytes that lie outside everything a posting's end writes. -/
theorem test_witness_PostingEndFrame :
    let d : Due := (post .freeze .desk 3 0 0 0).due [.account 3 (account kindBoat 1 0)] 7 none
    hall.store.fuse = none ∧ ¬ hall.slotRange hall.engine.copy.head (hall.entryAddr 6) ∧
      ¬ hall.engineRange (hall.engineAddr + 16) ∧
      (∀ i ∈ d.entry.images, outside (i.writes hall hall.engine.copy.head) (hall.accountAddr 3 + 0x14)) := by
  decide +kernel

end Sys2Proof.Tests
end

section
/-! What the stations, the clock and the reads leave of the Posting Engine: all of it. -/

namespace Sys2Proof.Machine

variable (s : State)

/-! ## The engine under the stations' updates -/

@[simp] theorem State.setBayCopy_engine (b : Fin 6) (r : BayRecord) :
    (s.setBayCopy b r).engine = s.engine := by simp [State.setBayCopy]
@[simp] theorem State.bayTransition_engine (b : Fin 6) (r : BayRecord) :
    (s.bayTransition b r).engine = s.engine := by
  unfold State.bayTransition
  dsimp only
  split <;> simp
@[simp] theorem State.bayChange_engine (b : Fin 6) (r : BayRecord) (ps : List Nat) (rs : List Request) :
    (s.bayChange b r ps rs).engine = s.engine := by simp [State.bayChange]
@[simp] theorem State.bayStatus_engine (b : Fin 6) (t : Status) :
    (s.bayStatus b t).engine = s.engine := by simp [State.bayStatus]
@[simp] theorem State.stall_engine (b : Fin 6) (ps : List Nat) : (s.stall b ps).engine = s.engine := by
  simp [State.stall]
@[simp] theorem State.writeBack_engine (b : Fin 6) : (s.writeBack b).engine = s.engine := by
  simp [State.writeBack]
@[simp] theorem State.settleDue_engine (rs : List RecordId) : (s.settleDue rs).engine = s.engine := by
  induction rs generalizing s with
  | nil => rfl
  | cons r rs ih =>
    cases r with
    | bay b =>
      simp only [State.settleDue, ih]
      split
      · split <;> simp
      · rfl
    | _ => exact ih s
@[simp] theorem State.placeGuard_engine (rs : List RecordId) :
    (s.placeGuard rs).engine = { s.engine with guard := distinct (s.engine.guard ++ rs) } := by
  simp [State.placeGuard]
@[simp] theorem State.scaleStatus_engine (n : Fin 8) (t : Status) :
    (s.scaleStatus n t).engine = s.engine := by simp [State.scaleStatus]
@[simp] theorem State.takeSample_engine (n : Fin 8) (v : Nat) : (s.takeSample n v).engine = s.engine := by
  simp [State.takeSample]
@[simp] theorem State.takeTest_engine (n : Fin 8) : (s.takeTest n).engine = s.engine := by
  simp [State.takeTest]
@[simp] theorem State.readerStatus_engine (r : Fin 12) (t : Status) :
    (s.readerStatus r t).engine = s.engine := by simp [State.readerStatus]
@[simp] theorem State.declareAtScale_engine (n : Fin 8) (v : Word) :
    (s.declareAtScale n v).engine = s.engine := by simp [State.declareAtScale]
@[simp] theorem State.declareAtGate_engine (g : Fin 4) (v : Word) :
    (s.declareAtGate g v).engine = s.engine := by
  unfold State.declareAtGate
  dsimp only
  split <;> simp
@[simp] theorem State.declare_engine (r : Fin 12) (v : Word) : (s.declare r v).engine = s.engine := by
  unfold State.declare
  dsimp only
  split <;> simp
@[simp] theorem State.takeRaw_engine (r : Fin 12) (v : Word) : (s.takeRaw r v).engine = s.engine := by
  unfold State.takeRaw
  dsimp only
  split
  · simp
  · split <;> simp
@[simp] theorem State.setDeclareMode_engine (m : DeclareMode) :
    (s.setDeclareMode m).engine = s.engine := by
  unfold State.setDeclareMode
  split <;> rfl
@[simp] theorem State.restartBay_engine (b : Fin 6) : (s.restartBay b).engine = s.engine := by
  unfold State.restartBay
  split <;> simp
@[simp] theorem State.restartBays_engine (rs : List Request) : (s.restartBays rs).engine = s.engine := by
  simp [State.restartBays]
@[simp] theorem State.quayRestart_engine (rs : List Request) : (s.quayRestart rs).engine = s.engine := by
  simp [State.quayRestart, State.restartReaders, State.restartScales]
@[simp] theorem State.tickBay_engine (b : Fin 6) : (s.tickBay b).engine = s.engine := by
  unfold State.tickBay
  dsimp only
  split
  · split <;> simp
  · rfl
@[simp] theorem State.tickBays_engine : s.tickBays.engine = s.engine := by simp [State.tickBays]
@[simp] theorem State.takeDone_engine (b : Fin 6) (sh : BayShadow) (rs : List Request) :
    (s.takeDone b sh rs).engine = s.engine := by
  unfold State.takeDone
  dsimp only
  split <;> simp

/-! ## The engine under the clock -/

@[simp] theorem State.takeHold_engine (on : Bool) : (s.takeHold on).engine = s.engine := by
  unfold State.takeHold
  split <;> rfl
@[simp] theorem State.clockControlWrite_engine (v : Word) :
    (s.clockControlWrite v).engine = s.engine := by simp [State.clockControlWrite]
@[simp] theorem State.scheduleAction_engine (k : Fin 4) : (s.scheduleAction k).engine = s.engine := by
  unfold State.scheduleAction
  split
  · split <;> rfl
  all_goals rfl
@[simp] theorem State.matchEntry_engine (k : Fin 4) : (s.matchEntry k).engine = s.engine := by
  unfold State.matchEntry
  dsimp only
  split <;> simp
@[simp] theorem State.matchSchedule_engine : s.matchSchedule.engine = s.engine := by
  simp [State.matchSchedule]
@[simp] theorem State.tick_engine : s.tick.engine = s.engine := by
  unfold State.tick
  dsimp only
  split
  · split <;> simp
  · rfl

/-! ## The engine under the reports -/

@[simp] theorem State.reportDesk_engine (slot : Fin 3) (t : Status) :
    (s.reportDesk slot t).engine = s.engine := by simp [State.reportDesk]
@[simp] theorem State.bayApplied_engine (b : Fin 6) (r : BayRecord) (q : Option Word) :
    (s.bayApplied b r q).engine = s.engine := by simp [State.bayApplied]
@[simp] theorem State.holdRefused_engine (b : Fin 6) (t : Status) :
    (s.holdRefused b t).engine = s.engine := by simp [State.holdRefused]
@[simp] theorem State.settleRefused_engine (b : Fin 6) (p : Posting) (r : Reason) (t : Status) :
    (s.settleRefused b p r t).engine = s.engine := by
  unfold State.settleRefused
  dsimp only
  split <;> simp
@[simp] theorem State.reportBay_engine (b : Fin 6) (p : Posting) (r : Option Reason) (q : Option Word)
    (is : List Image) : (s.reportBay b p r q is).engine = s.engine := by
  unfold State.reportBay
  split
  · split <;> simp
  · split <;> simp
@[simp] theorem State.handBayImage_engine (is : List Image) (q : Option Word) :
    (s.handBayImage is q).engine = s.engine := by
  unfold State.handBayImage
  split <;> simp
@[simp] theorem State.reportScale_engine (n : Fin 8) (r : Option Reason) (t : Status) :
    (s.reportScale n r t).engine = s.engine := by simp [State.reportScale]
@[simp] theorem State.reportGate_engine (g : Fin 4) (t : Status) :
    (s.reportGate g t).engine = s.engine := by simp [State.reportGate]
/-- A report leaves the engine as it is (R20). -/
@[simp] theorem State.report_engine (p : Posting) (r : Option Reason) (q v : Option Word)
    (is : List Image) : (s.report p r q v is).engine = s.engine := by
  unfold State.report
  dsimp only
  split <;> simp

/-! ## The engine under the journal's writes -/

@[simp] theorem State.writeImages_engine (seq : Word) (is : List Image) :
    (s.writeImages seq is).engine = s.engine := by
  induction is generalizing s with
  | nil => rfl
  | cons i is ih => simp [State.writeImages, ih]
@[simp] theorem State.setEngineRecord_engine (r : EngineRecord) :
    (s.setEngineRecord r).engine = { s.engine with copy := r } := rfl
@[simp] theorem State.openEntry_engine (e : JournalEntry) (seq : Word) (i : Image) (st : Word) :
    (s.openEntry e seq i st).engine = s.engine := rfl
@[simp] theorem State.closeEntry_engine (seq : Word) : (s.closeEntry seq).engine = s.engine := rfl
/-- An entry written changes the engine's copy of its record alone (R40, R47). -/
@[simp] theorem State.writeEntry_engine (e : JournalEntry) (r : EngineRecord) :
    (s.writeEntry e r).engine = { s.engine with copy := r } := by
  unfold State.writeEntry
  dsimp only
  split <;> simp
@[simp] theorem State.copyBayImage_engine (n : BitVec 8) (r : BayRecord) :
    (s.copyBayImage n r).engine = s.engine := by
  unfold State.copyBayImage
  split
  · split <;> simp
  · rfl
@[simp] theorem State.copyBayImages_engine (is : List Image) : (s.copyBayImages is).engine = s.engine := by
  induction is generalizing s with
  | nil => rfl
  | cons i is ih => cases i <;> simp [State.copyBayImages, ih]

/-! ## The engine under accesses that fault or read -/

@[simp] theorem State.latchFault_engine (p : PortId) (a : Access) (r : FaultReason) :
    (s.latchFault p a r).engine = s.engine := by
  unfold State.latchFault
  split <;> rfl
@[simp] theorem State.faultAccess_engine (p : PortId) (a : Access) (r : FaultReason) :
    (s.faultAccess p a r).engine = s.engine := by simp [State.faultAccess]
@[simp] theorem State.storeRead_engine (p : PortId) (a : Access) (base : Nat) :
    (s.storeRead p a base).engine = s.engine := by
  unfold State.storeRead
  dsimp only
  split <;> simp
@[simp] theorem State.latchRecord_engine (p : PortId) (book : Fin 7) (a : Access) :
    (s.latchRecord p book a).engine = s.engine := by
  unfold State.latchRecord
  dsimp only
  split <;> simp
@[simp] theorem State.storedRead_engine (p : PortId) (book : Fin 7) (a : Access) :
    (s.storedRead p book a).engine = s.engine := by
  unfold State.storedRead
  split <;> simp
@[simp] theorem State.guardedRead_engine (p : PortId) (book : Fin 7) (a : Access) :
    (s.guardedRead p book a).engine = s.engine := by
  unfold State.guardedRead
  split <;> simp
@[simp] theorem State.readSpecial_engine (p : PortId) (book : Fin 7) (a : Access) :
    (s.readSpecial p book a).engine = s.engine := by
  unfold State.readSpecial
  split
  · simp [State.readDate]
  · simp [State.readTime]
  · split
    · simp
    · split
      · simp
      · split <;> simp
@[simp] theorem State.writePlain_engine (p : PortId) (base : Nat) (a : Access) (v : Word) :
    (s.writePlain p base a v).engine = s.engine := by simp [State.writePlain]
@[simp] theorem State.checkPlain_engine (p : PortId) (d : Descriptor) (a : Access) :
    (s.checkPlain p d a).engine = s.engine := by
  unfold State.checkPlain
  split
  · simp
  · split <;> simp
@[simp] theorem State.plainAccess_engine (p : PortId) (book : BitVec 6) (a : Access) :
    (s.plainAccess p book a).engine = s.engine := by
  unfold State.plainAccess
  split <;> simp
@[simp] theorem State.settleFetch_engine (book : BitVec 6) (d : Option Descriptor) (p : PortId) :
    (s.settleFetch book d p).engine = s.engine := by
  unfold State.settleFetch
  split
  · split
    · split <;> simp
    · rfl
  · rfl
@[simp] theorem State.endFetch_engine (book : BitVec 6) : (s.endFetch book).engine = s.engine := by
  unfold State.endFetch
  split
  · dsimp only
    split
    · simp [State.bothPorts]
    · split <;> simp [State.bothPorts]
  · rfl
@[simp] theorem State.resumeRead_engine (p : PortId) : (s.resumeRead p).engine = s.engine := by
  unfold State.resumeRead
  split
  · split
    · split <;> simp
    · rfl
  · rfl

end Sys2Proof.Machine
end

section
/-! The queue law: every operation that reaches the engine keeps it. -/

namespace Sys2Proof.Machine

variable {s : State}

/-! ## Operations that leave the engine, or its queue and its IDLE state -/

/-- A state with the same engine keeps the queue law. -/
theorem QueueLaw.of_engine {t : State} (h : QueueLaw s) (e : t.engine = s.engine) : QueueLaw t := by
  simpa only [QueueLaw, e] using h

/-- A state with the same queue whose engine is not IDLE keeps the queue law. -/
theorem QueueLaw.of_busy {t : State} (h : QueueLaw s) (q : t.engine.queue = s.engine.queue)
    (busy : t.engine.state ≠ .idle) : QueueLaw t :=
  ⟨q ▸ h.1, fun e => absurd e busy⟩

/-- A state with the same queue and engine state keeps the queue law. -/
theorem QueueLaw.of_queue {t : State} (h : QueueLaw s) (q : t.engine.queue = s.engine.queue)
    (e : t.engine.state = s.engine.state) : QueueLaw t :=
  ⟨q ▸ h.1, fun i => q ▸ h.2 (e ▸ i)⟩

/-- The engine's tail copy is no part of the queue law. -/
theorem QueueLaw.withTail (h : QueueLaw s) (t : Word) :
    QueueLaw { s with engine := { s.engine with tail := t } } := h.of_queue rfl rfl

/-- What comes between the steps of a FORMAT or the entries of a close keeps the queue law. -/
def Between.KeepsQueue (between : Between) : Prop := ∀ point u, QueueLaw u → QueueLaw (between point u)

theorem undisturbed_keepsQueue : Between.KeepsQueue undisturbed := fun _ _ h => h

/-! ## Journal and reports -/

theorem State.write_queueLaw (h : QueueLaw s) (g : Grantee) (ws : List (Nat × Word)) :
    QueueLaw (s.write g ws) := h.of_engine rfl

theorem State.granted_queueLaw (h : QueueLaw s) (g : Grantee) : QueueLaw (s.granted g) := h.of_engine rfl

theorem State.setEngineRecord_queueLaw (h : QueueLaw s) (r : EngineRecord) :
    QueueLaw (s.setEngineRecord r) := h.of_queue rfl rfl

theorem State.writeEntry_queueLaw (h : QueueLaw s) (e : JournalEntry) (r : EngineRecord) :
    QueueLaw (s.writeEntry e r) := h.of_queue (by simp) (by simp)

theorem State.withGuard_queueLaw (h : QueueLaw s) (g : List RecordId) : QueueLaw (s.withGuard g) :=
  h.of_queue rfl rfl

theorem State.placeGuard_queueLaw (h : QueueLaw s) (rs : List RecordId) : QueueLaw (s.placeGuard rs) :=
  h.of_queue (by simp) (by simp)

theorem State.report_queueLaw (h : QueueLaw s) (p : Posting) (r : Option Reason) (q v : Option Word)
    (is : List Image) : QueueLaw (s.report p r q v is) := h.of_engine (by simp)

theorem State.haltAt_queueLaw (h : QueueLaw s) (c : HaltCause) : QueueLaw (s.haltAt c) :=
  h.of_busy rfl (fun e => by cases e)

theorem State.haltAtRedo_queueLaw (h : QueueLaw s) : QueueLaw s.haltAtRedo :=
  h.of_busy rfl (fun e => by cases e)

theorem State.waitForJournal_queueLaw (h : QueueLaw s) (w : Work) : QueueLaw (s.waitForJournal w) :=
  h.of_busy rfl (fun e => by cases e)

theorem State.writeDueEntry_queueLaw (h : QueueLaw s) (d : Due) : QueueLaw (s.writeDueEntry d) := by
  have reported := State.report_queueLaw (State.withGuard_queueLaw
    (State.writeEntry_queueLaw h d.entry (s.nextRecord d.nextLot)) []) d.posting d.entry.reason
    (some s.engine.copy.head) d.value d.entry.images
  unfold State.writeDueEntry
  dsimp only
  split
  · exact State.haltAt_queueLaw reported _
  · exact State.endPosting_queueLaw reported.1

theorem State.entryDue_queueLaw (h : QueueLaw s) (d : Due) : QueueLaw (s.entryDue d) := by
  unfold State.entryDue
  split
  · exact State.waitForJournal_queueLaw h _
  · exact State.writeDueEntry_queueLaw h d

theorem State.refuse_queueLaw (h : QueueLaw s) (p : Posting) (r : Reason) : QueueLaw (s.refuse p r) :=
  State.entryDue_queueLaw h _

theorem State.refuseBare_queueLaw (h : QueueLaw s) (p : Posting) (r : Reason) :
    QueueLaw (s.refuseBare p r) :=
  State.endPosting_queueLaw (State.report_queueLaw h _ _ _ _ _).1

/-! ## Redo -/

theorem State.writeImages_queueLaw (h : QueueLaw s) (seq : Word) (is : List Image) :
    QueueLaw (s.writeImages seq is) := h.of_engine (by simp)

theorem State.redoEngineImage_queueLaw (h : QueueLaw s) (is : List Image) :
    QueueLaw (s.redoEngineImage is) := by
  unfold State.redoEngineImage
  split
  · exact h
  · exact h.of_queue (by simp) (by simp)

/-- A redo that is not struck keeps the queue law (R49). -/
theorem State.redo_queueLaw {t : State} (h : QueueLaw s) (e : s.redo = some t) : QueueLaw t := by
  have granted : QueueLaw (s.granted (.inner .engine)) := h.of_engine rfl
  unfold State.redo at e
  dsimp only at e
  split at e
  · cases e
  · split at e
    · cases e; exact granted
    · split at e
      · cases e
        exact State.redoEngineImage_queueLaw (granted.of_engine (by simp)) _
      · split at e
        · cases e; exact State.redoEngineImage_queueLaw granted _
        · cases e; exact granted

/-! ## FORMAT -/

theorem State.formatBay_engine (s : State) (b : Fin 6) : (s.formatBay b).engine = s.engine := by
  simp [State.formatBay]

/-- Steps 1 to 6 of FORMAT leave the engine FORMATTING (R31, R32). -/
theorem State.formatStores_engine (s : State) :
    s.formatStores.engine =
      { s.engine with state := .formatting, copy := { s.engine.copy with formatState := formatting } } := by
  simp [State.formatStores, State.formatBays, State.formatBay_engine, State.formatJournal,
    State.formatRecords]

theorem State.formatEngine_engine (s : State) :
    s.formatEngine.engine = { s.engine with copy := formatRecord 0 formatting, tail := 0 } := rfl

theorem State.formatEntry_engine (s : State) (ps : Params) (st : Stamp) :
    (s.formatEntry ps st).engine = { s.engine with copy := formatRecord 1 formatting } := by
  simp [State.formatEntry]

theorem State.formatEnd_engine (s : State) :
    s.formatEnd.engine = { s.engine with copy := formatRecord 1 formatted, guard := [] } := rfl

theorem State.formatHall_queueLaw (h : QueueLaw s) (ps : Params) (st : Stamp) {between : Between}
    (hb : between.KeepsQueue) : QueueLaw (s.formatHall ps st between) := by
  have stores : QueueLaw s.formatStores :=
    h.of_busy (by simp [State.formatStores_engine]) (by simp [State.formatStores_engine])
  have step7 : ∀ u : State, QueueLaw u → QueueLaw u.formatEngine := fun u hu => hu.of_queue rfl rfl
  have step8 : ∀ u : State, QueueLaw u → QueueLaw (u.formatEntry ps st) := fun u hu =>
    State.writeEntry_queueLaw hu _ _
  have step9 : ∀ u : State, QueueLaw u → QueueLaw u.formatEnd := fun u hu => hu.of_queue rfl rfl
  exact step9 _ (hb _ _ (step8 _ (hb _ _ (step7 _ (hb _ _ stores)))))

theorem State.applyFormat_queueLaw (h : QueueLaw s) (p : Posting) {between : Between}
    (hb : between.KeepsQueue) : QueueLaw (s.applyFormat p between) := by
  unfold State.applyFormat
  split
  · split
    · exact State.refuse_queueLaw (State.placeGuard_queueLaw h _) _ _
    · exact State.refuseBare_queueLaw h _ _
  · exact State.endPosting_queueLaw
      (State.report_queueLaw (State.formatHall_queueLaw h _ _ hb) _ _ _ _ _).1

theorem State.forceFormat_queueLaw (h : QueueLaw s) {between : Between} (hb : between.KeepsQueue) :
    QueueLaw (s.forceFormat between) := by
  have formatted : ∀ u : State, QueueLaw u →
      QueueLaw { u with engine := { u.engine with halt := none, work := .none } } :=
    fun u hu => hu.of_queue rfl rfl
  have ended := formatted _ (State.formatHall_queueLaw h Params.zero s.stamp hb)
  unfold State.forceFormat
  apply State.endPosting_queueLaw
  split
  · split
    · exact (State.report_queueLaw ended _ _ _ _ _).1
    · exact ended.1
  · exact ended.1

/-! ## Day close -/

theorem State.stopClose_queueLaw (h : QueueLaw s) (c : CloseWork) : QueueLaw (s.stopClose c) :=
  h.of_busy rfl (fun e => by cases e)

theorem State.writeStruck_queueLaw (h : QueueLaw s) (c : CloseWork) : QueueLaw (s.writeStruck c) :=
  State.haltAt_queueLaw (State.withGuard_queueLaw (State.writeEntry_queueLaw h _ _) _) _

theorem State.strikeClose_queueLaw (h : QueueLaw s) (c : CloseWork) : QueueLaw (s.strikeClose c) := by
  unfold State.strikeClose
  split
  · exact State.stopClose_queueLaw h c
  · split
    · exact State.waitForJournal_queueLaw h _
    · exact State.writeStruck_queueLaw h c

theorem State.holdClose_queueLaw (h : QueueLaw s) (c : CloseWork) (d : CloseDue) :
    QueueLaw (s.holdClose c d) := by
  unfold State.holdClose
  split
  · exact State.stopClose_queueLaw h c
  · exact State.waitForJournal_queueLaw h _

theorem State.writeClosed_queueLaw (h : QueueLaw s) (c : CloseWork) : QueueLaw (s.writeClosed c) := by
  have opened := State.withGuard_queueLaw
    (State.writeEntry_queueLaw h (c.closedEntry none) (s.openedRecord c)) []
  have raised : QueueLaw
      (((s.writeEntry (c.closedEntry none) (s.openedRecord c)).withGuard []).raise .dayClosed) :=
    opened.of_engine rfl
  unfold State.writeClosed
  apply State.endPosting_queueLaw
  split
  · exact (State.report_queueLaw raised _ _ _ _ _).1
  · exact raised.1

theorem State.finishClose_queueLaw (h : QueueLaw s) (c : CloseWork) : QueueLaw (s.finishClose c) := by
  unfold State.finishClose
  split
  · exact State.holdClose_queueLaw h _ _
  · exact State.writeClosed_queueLaw h c

theorem State.rollAccounts_queueLaw (h : QueueLaw s) (c : CloseWork) (n : Nat) :
    QueueLaw (s.rollAccounts c n) := by
  induction n generalizing s c with
  | zero => exact State.finishClose_queueLaw h c
  | succ n ih =>
    have guarded (g : List RecordId) : QueueLaw ((s.withGuard g).granted (.inner .engine)) :=
      h.of_queue rfl rfl
    unfold State.rollAccounts
    dsimp only
    split
    · exact State.strikeClose_queueLaw (guarded _) c
    · split
      · refine ih ?_ _
        exact State.withGuard_queueLaw (State.write_queueLaw (guarded _) _ _) _
      · exact ih (State.withGuard_queueLaw (guarded _) _) _

theorem State.withdrawOne_queueLaw (h : QueueLaw s) (c : CloseWork) (e : JournalEntry)
    {between : Between} (hb : between.KeepsQueue) : QueueLaw (s.withdrawOne c e between) :=
  hb _ _ (State.withGuard_queueLaw (State.writeEntry_queueLaw h _ _) _)

theorem State.withdrawLots_queueLaw (h : QueueLaw s) (c : CloseWork) {between : Between}
    (hb : between.KeepsQueue) (n : Nat) : QueueLaw (s.withdrawLots c between n) := by
  induction n generalizing s c with
  | zero => exact State.rollAccounts_queueLaw h c 256
  | succ n ih =>
    have guarded (g : List RecordId) : QueueLaw ((s.withGuard g).granted (.inner .engine)) :=
      h.of_queue rfl rfl
    unfold State.withdrawLots
    dsimp only
    split
    · exact State.strikeClose_queueLaw (guarded _) c
    · split
      · split
        · exact State.strikeClose_queueLaw (State.placeGuard_queueLaw (guarded _) _) c
        · split
          · exact State.holdClose_queueLaw (State.placeGuard_queueLaw (guarded _) _) _ _
          · exact ih (State.withdrawOne_queueLaw (State.placeGuard_queueLaw (guarded _) _) _ _ hb) _
      · exact ih (State.withGuard_queueLaw (guarded _) _) _

theorem State.runClose_queueLaw (h : QueueLaw s) (c : CloseWork) {between : Between}
    (hb : between.KeepsQueue) : QueueLaw (s.runClose c between) := by
  have entered : QueueLaw s.enterClose := h.of_busy rfl (fun e => by cases e)
  exact State.withdrawLots_queueLaw (hb _ _ entered) c hb 2048

theorem State.beginClose_queueLaw (h : QueueLaw s) (c : CloseWork) {between : Between}
    (hb : between.KeepsQueue) : QueueLaw (s.beginClose c between) :=
  State.runClose_queueLaw (State.setEngineRecord_queueLaw h _) c hb

theorem State.releaseWork_queueLaw (h : QueueLaw s) {between : Between} (hb : between.KeepsQueue) :
    QueueLaw (s.releaseWork between) := by
  have idle : QueueLaw { s with engine := { s.engine with work := .none } } := h.of_queue rfl rfl
  unfold State.releaseWork
  split
  · exact State.writeDueEntry_queueLaw idle _
  · dsimp only
    split
    · exact State.withdrawLots_queueLaw (State.withdrawOne_queueLaw idle _ _ hb) _ hb _
    · exact State.writeClosed_queueLaw idle _
    · exact State.writeStruck_queueLaw idle _
  · exact h

theorem State.journalRelease_queueLaw (h : QueueLaw s) {between : Between} (hb : between.KeepsQueue) :
    QueueLaw (s.journalRelease between) := by
  unfold State.journalRelease
  split
  · exact h
  · split
    · exact State.releaseWork_queueLaw h hb
    · exact State.releaseWork_queueLaw h hb
    · exact h

/-! ## The posting in hand -/

/-- The states that phases 1 to 4 of a posting leave keep the queue law. -/
def Applied.keepsQueue : Applied → Prop
  | .bare _ => True
  | .refused t _ => QueueLaw t
  | .accepted t _ => QueueLaw t
  | .closing t _ => QueueLaw t

theorem State.judge_keepsQueue (h : QueueLaw s) (p : Posting) (k : PostKind) (plan : Plan) :
    (s.judge p k plan).keepsQueue := by
  unfold State.judge
  split
  · exact h
  · split <;> exact h

theorem State.examine_keepsQueue (h : QueueLaw s) (p : Posting) (k : PostKind) (plan : Plan) :
    (s.examine p k plan).keepsQueue := by
  unfold State.examine
  split
  · trivial
  · have read : ∀ rs, QueueLaw ((s.placeGuard rs).granted (.inner .engine)) := fun rs =>
      (State.placeGuard_queueLaw h rs).of_engine rfl
    dsimp only
    split
    · exact read _
    · split
      · exact State.placeGuard_queueLaw (read _) _
      · exact State.judge_keepsQueue (State.placeGuard_queueLaw (read _) _) p k plan

theorem State.applyPlan_queueLaw (h : QueueLaw s) (p : Posting) (k : PostKind) (plan : Plan) :
    QueueLaw (s.applyPlan p k plan) := by
  have kept := State.examine_keepsQueue h p k plan
  unfold State.applyPlan
  cases e : s.examine p k plan with
  | bare r => exact State.refuseBare_queueLaw h p r
  | refused t r => rw [e] at kept; exact State.refuse_queueLaw kept p r
  | accepted t d => rw [e] at kept; exact State.entryDue_queueLaw kept d
  | closing t c => rw [e] at kept; exact State.beginClose_queueLaw kept c undisturbed_keepsQueue

theorem State.applyRow_queueLaw (h : QueueLaw s) (k : PostKind) (plan : Posting → Plan) :
    QueueLaw (s.applyRow k plan) := by
  unfold State.applyRow
  split
  · exact State.applyPlan_queueLaw h _ _ _
  · exact h

theorem State.formatRow_queueLaw (h : QueueLaw s) : QueueLaw s.formatRow := by
  unfold State.formatRow
  split
  · exact State.applyFormat_queueLaw h _ undisturbed_keepsQueue
  · exact h

theorem State.unknownRow_queueLaw (h : QueueLaw s) : QueueLaw s.unknownRow := by
  unfold State.unknownRow
  split
  · split
    · unfold State.applyUnknown
      split
      · exact State.refuse_queueLaw (State.granted_queueLaw (State.placeGuard_queueLaw h [.engine]) _) _ _
      · exact State.refuseBare_queueLaw h _ _
    · exact h
  · exact h

theorem State.closeWithin_queueLaw (h : QueueLaw s) (p : Posting) {between : Between}
    (hb : between.KeepsQueue) : QueueLaw (s.closeWithin p between) := by
  have kept := State.examine_keepsQueue h p .dayClose (dayClosePlan p)
  unfold State.closeWithin
  split
  · next e => rw [e] at kept; exact State.beginClose_queueLaw kept _ hb
  · exact h

theorem State.postingWithin_queueLaw (h : QueueLaw s) {between : Between} (hb : between.KeepsQueue) :
    QueueLaw (s.postingWithin between) := by
  unfold State.postingWithin
  split
  · split
    · exact State.applyFormat_queueLaw h _ hb
    · exact h
  · exact State.closeWithin_queueLaw h _ hb
  · exact h

/-! ## Commands to the engine -/

theorem State.stepCommand_queueLaw (h : QueueLaw s) : QueueLaw s.stepCommand := by
  unfold State.stepCommand
  split
  · exact State.takeNext_queueLaw h.1
  · exact h

theorem State.repeatRedo_queueLaw (h : QueueLaw s) {between : Between} (hb : between.KeepsQueue) :
    QueueLaw (s.repeatRedo between) := by
  unfold State.repeatRedo
  split
  · exact State.haltAtRedo_queueLaw h
  · next t e =>
    have redone := State.redo_queueLaw h e
    split
    · exact State.runClose_queueLaw redone _ hb
    · exact State.takeNext_queueLaw redone.1

theorem State.resumeCommand_queueLaw (h : QueueLaw s) {between : Between} (hb : between.KeepsQueue) :
    QueueLaw (s.resumeCommand between) := by
  have resumed : QueueLaw { s with engine := { s.engine with halt := none } } := h.of_queue rfl rfl
  unfold State.resumeCommand
  split
  · dsimp only
    split
    · exact State.repeatRedo_queueLaw resumed hb
    · exact State.runClose_queueLaw resumed _ hb
    · exact State.takeNext_queueLaw resumed.1
  · exact h

theorem State.formatCommand_queueLaw (h : QueueLaw s) {between : Between} (hb : between.KeepsQueue) :
    QueueLaw (s.formatCommand between) := by
  unfold State.formatCommand
  split
  · exact State.forceFormat_queueLaw h hb
  · exact h

theorem State.setStepMode_queueLaw (h : QueueLaw s) (on : Bool) : QueueLaw (s.setStepMode on) := by
  have set : QueueLaw { s with engine := { s.engine with stepMode := on } } := h.of_queue rfl rfl
  unfold State.setStepMode
  dsimp only
  split
  · exact State.takeNext_queueLaw set.1
  · exact set

theorem State.leaveJournalWait_queueLaw (h : QueueLaw s) : QueueLaw s.leaveJournalWait := by
  unfold State.leaveJournalWait
  split
  · exact h.of_busy rfl (fun e => by cases e)
  · exact h.of_busy rfl (fun e => by cases e)

theorem State.setTail_queueLaw (h : QueueLaw s) (t : Word) : QueueLaw (s.setTail t) := by
  have set : QueueLaw { s with engine := { s.engine with tail := t } } := h.of_queue rfl rfl
  unfold State.setTail
  dsimp only
  split
  · exact State.leaveJournalWait_queueLaw set
  · exact set

theorem State.takeCommand_queueLaw (h : QueueLaw s) (v : Word) : QueueLaw (s.takeCommand v) := by
  unfold State.takeCommand
  split
  · exact h.of_engine rfl
  · exact State.stepCommand_queueLaw h
  · exact State.resumeCommand_queueLaw h undisturbed_keepsQueue
  · exact State.formatCommand_queueLaw h undisturbed_keepsQueue
  · exact h

/-! ## Intake -/

/-- An offer that the queue admits keeps the queue law, whatever its station has changed of its own (R9). -/
theorem State.offer_queueLaw {u : State} (h : QueueLaw s) (room : s.admits = true)
    (same : u.engine = s.engine) (p : Posting) : QueueLaw (u.enqueue p) := by
  have twelve : s.engine.queue.length < 12 := by simpa [State.admits] using room
  exact State.enqueue_queueLaw (h.of_engine same) (by rw [same]; omega) p

theorem State.takeCommit_queueLaw (h : QueueLaw s) (n : Fin 8) : QueueLaw (s.takeCommit n) := by
  unfold State.takeCommit
  dsimp only
  split
  · exact h.of_engine (by simp)
  · split
    · exact h.of_engine (by simp)
    · split
      · exact h.of_engine (by simp)
      · split
        · next room =>
          apply State.offer_queueLaw h room
          rfl
        · exact h.of_engine (by simp)

theorem State.takeTrigger_queueLaw (h : QueueLaw s) (slot : Fin 3) (v : Word) :
    QueueLaw (s.takeTrigger slot v) := by
  unfold State.takeTrigger
  split
  · exact h.of_engine rfl
  · split
    · next room =>
      apply State.offer_queueLaw h room
      rfl
    · exact h.of_engine rfl

theorem State.takeRequest_queueLaw (h : QueueLaw s) (b : Fin 6) (sh : BayShadow) (rs : List Request) :
    QueueLaw (s.takeRequest b sh rs) := by
  unfold State.takeRequest
  split
  · exact h.of_engine (by simp)
  · split
    · exact h.of_engine (by simp)
    · split
      · next room => exact State.offer_queueLaw h room (by simp) _
      · exact h.of_engine (by simp)

theorem State.takeBayTrigger_queueLaw (h : QueueLaw s) (b : Fin 6) (isDone : Bool) (sh : BayShadow)
    (rs : List Request) : QueueLaw (s.takeBayTrigger b isDone sh rs) := by
  unfold State.takeBayTrigger
  split
  · exact h.of_engine (by simp)
  · exact State.takeRequest_queueLaw h b sh rs

theorem State.takeHeld_queueLaw (h : QueueLaw s) (b : Fin 6) : QueueLaw (s.takeHeld b) := by
  unfold State.takeHeld
  dsimp only
  split
  · exact h
  · split
    · exact h
    · refine QueueLaw.of_engine (State.takeBayTrigger_queueLaw ?_ b _ _ _) (State.answer_engine _ _ _)
      exact h.of_engine (State.setBay_engine _ _ _)

/-! ## Accesses -/

theorem State.setCopy_queueLaw (h : QueueLaw s) (c : ConfigWord) (v : Word) :
    QueueLaw (s.setCopy c v) := by
  cases c with
  | stepMode => exact State.setStepMode_queueLaw h _
  | declareMode => exact h.of_engine (by simp [State.setCopy])
  | _ => exact h.of_queue rfl rfl

theorem State.blockEffect_queueLaw (h : QueueLaw s) (w : SpecialWord) (v : Word) :
    QueueLaw (s.blockEffect w v) := by
  cases w with
  | command => exact State.takeCommand_queueLaw h v
  | tail => exact State.setTail_queueLaw h v
  | config c => exact State.setCopy_queueLaw h c v
  | commit n => exact State.takeCommit_queueLaw h n
  | trigger slot => exact State.takeTrigger_queueLaw h slot v
  | hallMode => exact h.of_queue rfl rfl
  | _ => exact h.of_engine (by simp [State.blockEffect, State.clearNotices, State.clearIndications,
      State.clockDateWrite, State.clockTimeWrite])

theorem State.deliverBay_queueLaw (h : QueueLaw s) (port : PortId) (b : Fin 6) (isDone : Bool) (v : Word)
    (rs : List Request) : QueueLaw (s.deliverBay port b isDone v rs) := by
  unfold State.deliverBay
  dsimp only
  split
  · exact h.of_engine (by simp)
  · exact State.takeBayTrigger_queueLaw h b isDone _ rs

theorem State.effect_queueLaw (h : QueueLaw s) (port : PortId) (w : SpecialWord) (v : Word)
    (rs : List Request) : QueueLaw (s.effect port w v rs) := by
  cases w with
  | quayRestart => exact h.of_engine (by simp [State.effect])
  | request b => exact State.deliverBay_queueLaw h port b false v rs
  | done b => exact State.deliverBay_queueLaw h port b true v rs
  | _ => exact (State.blockEffect_queueLaw h _ v).of_engine (State.serve_engine _ _)

theorem State.writeSpecial_queueLaw (h : QueueLaw s) (p : PortId) (book : Fin 7) (a : Access) (v : Word) :
    QueueLaw (s.writeSpecial p book a v) := by
  have taken := State.effect_queueLaw (s := s.dropSnapshot p) (h.of_engine (by simp)) p
    (specialWordAt book a.offset) v (s.wordRequest p book a v)
  unfold State.writeSpecial
  dsimp only
  split
  · exact taken
  · exact taken.of_engine (by simp)

theorem State.checkSpecial_queueLaw (h : QueueLaw s) (p : PortId) (book : Fin 7) (a : Access) :
    QueueLaw (s.checkSpecial p book a) := by
  unfold State.checkSpecial
  split
  · exact h.of_engine (by simp)
  · split
    · exact h.of_engine (by simp)
    · exact State.writeSpecial_queueLaw h p book a _

theorem State.checkAccess_queueLaw (h : QueueLaw s) (p : PortId) (a : Access) :
    QueueLaw (s.checkAccess p a) := by
  have free : QueueLaw (s.setWait p .free) := h.of_engine (by simp)
  unfold State.checkAccess
  dsimp only
  split
  · exact State.checkSpecial_queueLaw free p _ a
  · exact free.of_engine (by simp)

theorem State.arrive_queueLaw (h : QueueLaw s) (p : PortId) (a : Access) : QueueLaw (s.arrive p a) := by
  unfold State.arrive
  split
  · split
    · exact h
    · exact h.of_engine (by simp)
    · exact h.of_engine (by simp)
    · exact State.checkAccess_queueLaw h p a
  · exact h

/-- Tail writes that fall between the steps of a FORMAT or the entries of a close keep the queue law. -/
theorem tailsBetween_keepsQueue (tails : List (RunPoint × PortId × Word)) :
    (tailsBetween tails).KeepsQueue := by
  intro point u hu
  unfold tailsBetween
  generalize tails.filter _ = ts
  induction ts generalizing u with
  | nil => exact hu
  | cons t ts ih => exact ih _ (State.arrive_queueLaw hu _ _)

/-! ## Start-up -/

theorem foldl_queueLaw {α : Type} (f : State → α → State)
    (keeps : ∀ u a, QueueLaw u → QueueLaw (f u a)) (as : List α) (h : QueueLaw s) :
    QueueLaw (as.foldl f s) := by
  induction as generalizing s with
  | nil => exact h
  | cons a as ih => exact ih (keeps _ a h)

theorem State.loadCopies_queueLaw (h : QueueLaw s) : QueueLaw s.loadCopies := by
  have copied := foldl_queueLaw (fun t c => t.setCopy c (s.configWord c))
    (fun _ c hu => State.setCopy_queueLaw hu c _) configWords h
  unfold State.loadCopies
  exact copied.withTail _

theorem State.load_queueLaw (h : QueueLaw s) (ws : List (Nat × Word)) : QueueLaw (s.load ws) :=
  State.write_queueLaw h _ ws

theorem State.normaliseWord_queueLaw (h : QueueLaw s) (c : ConfigWord) : QueueLaw (s.normaliseWord c) := by
  have granted := State.granted_queueLaw h (.inner .loader)
  unfold State.normaliseWord
  dsimp only
  split
  · exact State.load_queueLaw granted _
  · exact granted

theorem State.invalidate_queueLaw (h : QueueLaw s) (slot : Fin 57) : QueueLaw (s.invalidate slot) :=
  State.load_queueLaw h _

theorem State.normaliseDescriptor_queueLaw (h : QueueLaw s) (slot : Fin 57) :
    QueueLaw (s.normaliseDescriptor slot) := by
  unfold State.normaliseDescriptor
  dsimp only
  split
  · exact State.invalidate_queueLaw h slot
  · exact h

theorem State.normaliseTail_queueLaw (h : QueueLaw s) : QueueLaw s.normaliseTail := by
  unfold State.normaliseTail
  dsimp only
  split
  · exact State.load_queueLaw h _
  · exact h

theorem State.normalise_queueLaw (h : QueueLaw s) : QueueLaw s.normalise := by
  have words := foldl_queueLaw (fun t c => t.normaliseWord c)
    (fun _ c hu => State.normaliseWord_queueLaw hu c) configWords h
  have table := foldl_queueLaw (fun t slot => t.normaliseDescriptor slot)
    (fun _ slot hu => State.normaliseDescriptor_queueLaw hu slot) (List.finRange 57) words
  unfold State.normalise
  exact State.loadCopies_queueLaw (State.normaliseTail_queueLaw table)

theorem State.loadRecord_queueLaw (h : QueueLaw s) (r : EngineRecord) : QueueLaw (s.loadRecord r) :=
  h.of_queue rfl rfl

theorem State.checkRecord_queueLaw (h : QueueLaw s) : QueueLaw s.checkRecord := by
  unfold State.checkRecord
  dsimp only
  split
  · exact State.loadRecord_queueLaw h _
  · refine State.loadRecord_queueLaw (State.loadCopies_queueLaw ?_) _
    exact foldl_queueLaw (fun t slot => t.invalidate slot)
      (fun _ slot hu => State.invalidate_queueLaw hu slot) _
      (State.load_queueLaw (State.load_queueLaw h _) _)

theorem State.repeatFormat_queueLaw (h : QueueLaw s) : QueueLaw s.repeatFormat := by
  unfold State.repeatFormat
  split
  · exact State.endPosting_queueLaw (State.formatHall_queueLaw h _ _ undisturbed_keepsQueue).1
  · exact h

theorem State.startRedo_queueLaw (h : QueueLaw s) : QueueLaw s.startRedo := by
  unfold State.startRedo
  split
  · split
    · next e => exact State.redo_queueLaw h e
    · exact State.haltAtRedo_queueLaw h
  · exact h

theorem State.resumeClose_queueLaw (h : QueueLaw s) : QueueLaw s.resumeClose := by
  unfold State.resumeClose
  split
  · exact State.runClose_queueLaw h _ undisturbed_keepsQueue
  · exact h

@[simp] theorem State.fixBay_engine (s : State) (b : Fin 6) : (s.fixBay b).engine = s.engine := by
  have fixed : ∀ u : State, (u.fixRecord b).engine = u.engine := by
    intro u
    unfold State.fixRecord
    dsimp only
    split
    · simp
    · split
      · simp
      · split <;> simp
  unfold State.fixBay
  split
  · simp [State.zeroBay]
  · split
    · dsimp only
      split
      · simp [State.retireBay]
      · simp [fixed]
    · rfl

theorem State.resetSlots_engine (s : State) : s.resetSlots.engine = s.engine := by
  simp only [State.resetSlots, State.load, State.write_engine]

theorem State.fixBays_engine (s : State) : s.fixBays.engine = s.engine := by
  simp only [State.fixBays, State.fixBay_engine]

theorem State.fixBays_queueLaw (h : QueueLaw s) : QueueLaw s.fixBays := h.of_engine s.fixBays_engine

theorem State.resetSlots_queueLaw (h : QueueLaw s) : QueueLaw s.resetSlots :=
  h.of_engine s.resetSlots_engine

theorem State.rerunClose_queueLaw (h : QueueLaw s) {between : Between} (hb : between.KeepsQueue) :
    QueueLaw (s.rerunClose between) := by
  unfold State.rerunClose
  split
  · exact State.runClose_queueLaw h _ hb
  · exact h

theorem State.checkWaiting_queueLaw (h : QueueLaw s) (p : PortId) : QueueLaw (s.checkWaiting p) := by
  unfold State.checkWaiting
  split
  · split
    · unfold State.checkWaitedRequest
      split
      · exact h.of_engine (by simp)
      · exact State.writeSpecial_queueLaw (h.of_engine (by simp)) p 5 _ _
    · exact State.checkAccess_queueLaw h p _
  · exact h

theorem State.bothPorts_queueLaw (h : QueueLaw s) {f : State → PortId → State}
    (hf : ∀ u p, QueueLaw u → QueueLaw (f u p)) : QueueLaw (s.bothPorts f) := hf _ _ (hf _ _ h)

theorem State.enterRunning_queueLaw (h : QueueLaw s) {between : Between} (hb : between.KeepsQueue) :
    QueueLaw (s.enterRunning between) := by
  have running : QueueLaw
      { s with part := .running, engine := { s.engine with mode := .setup } } := h.of_queue rfl rfl
  unfold State.enterRunning
  refine State.bothPorts_queueLaw (State.rerunClose_queueLaw ?_ hb) fun u p hu =>
    State.checkWaiting_queueLaw hu p
  exact running.of_engine (State.raiseIf_engine _ _ _)

/-- The start-up sequence keeps the queue law (R202). -/
theorem State.startWithin_queueLaw (h : QueueLaw s) {between : Between} (hb : between.KeepsQueue) :
    QueueLaw (s.startWithin between) := by
  unfold State.startWithin
  split
  · have lost : QueueLaw { s with part := .noProfile, profile := none } := h.of_engine rfl
    refine State.bothPorts_queueLaw lost fun u p hu => ?_
    unfold State.faultWaiting
    split
    · exact hu.of_engine (by simp)
    · exact hu
  · next p _ =>
    have held : QueueLaw
        { s with profile := some p, cache := { s.cache with victim := firstEntry p.sets } } :=
      h.of_engine rfl
    unfold State.startWith
    apply State.enterRunning_queueLaw _ hb
    apply State.resetSlots_queueLaw
    apply State.fixBays_queueLaw
    apply State.resumeClose_queueLaw
    apply State.startRedo_queueLaw
    apply State.repeatFormat_queueLaw
    apply State.checkRecord_queueLaw
    apply State.normalise_queueLaw
    exact held

theorem State.startUp_queueLaw (h : QueueLaw s) : QueueLaw s.startUp :=
  State.startWithin_queueLaw h undisturbed_keepsQueue

/-! ## Power, reset and runs with tail writes -/

/-- A reset leaves an IDLE engine and an empty queue (R8). -/
theorem State.dropVolatile_queueLaw (s : State) (part : PartState) : QueueLaw (s.dropVolatile part) :=
  ⟨Nat.zero_le _, fun _ => rfl⟩

theorem State.powerOn_queueLaw (h : QueueLaw s) : QueueLaw s.powerOn := by
  unfold State.powerOn
  split
  · unfold State.backupCheck
    split
    · exact (State.dropVolatile_queueLaw s .starting).of_engine rfl
    · exact State.dropVolatile_queueLaw s .starting
  · exact h

theorem State.powerUp_queueLaw (h : QueueLaw s) : QueueLaw s.powerUp := by
  unfold State.powerUp
  split
  · exact State.startUp_queueLaw (State.powerOn_queueLaw h)
  · exact h

theorem State.resetLine_queueLaw (h : QueueLaw s) (event : ResetEvent) :
    QueueLaw (s.resetLine event) := by
  unfold State.resetLine
  split
  · unfold State.startIf
    split
    · exact State.startUp_queueLaw (State.dropVolatile_queueLaw _ _)
    · exact State.dropVolatile_queueLaw _ _
  · exact h

theorem State.powerOff_queueLaw (h : QueueLaw s) (cut : Cut) : QueueLaw (s.powerOff cut) := by
  unfold State.powerOff
  split
  · exact State.dropVolatile_queueLaw _ _
  · exact h

theorem State.commandWithin_queueLaw (h : QueueLaw s) (p : PortId) {command : State → State}
    (hc : ∀ u, QueueLaw u → QueueLaw (command u)) : QueueLaw (s.commandWithin p command) := by
  unfold State.commandWithin
  split
  · exact hc _ (h.of_engine (by simp))
  · exact h

theorem State.runWithin_queueLaw (h : QueueLaw s) (work : RunWork) {between : Between}
    (hb : between.KeepsQueue) : QueueLaw (s.runWithin work between) := by
  unfold State.runWithin
  split
  · exact State.postingWithin_queueLaw h hb
  · exact State.commandWithin_queueLaw h _ fun _ hu => State.formatCommand_queueLaw hu hb
  · exact State.commandWithin_queueLaw h _ fun _ hu => State.resumeCommand_queueLaw hu hb
  · split
    · exact State.journalRelease_queueLaw h hb
    · exact h
  · split
    · exact State.startWithin_queueLaw (State.powerOn_queueLaw h) hb
    · exact h

theorem State.writeTail_queueLaw (h : QueueLaw s) (p : PortId) (event : TailEvent) :
    QueueLaw (s.writeTail p event) := by
  unfold State.writeTail
  split
  · exact State.arrive_queueLaw h _ _
  · exact State.runWithin_queueLaw h _ (tailsBetween_keepsQueue _)

/-! ## Steps -/

/-- Every command keeps the queue law. -/
theorem exec_queueLaw {t : State} (h : QueueLaw s) (i : Instr) (e : exec i s = .next t) : QueueLaw t := by
  cases i
  case powerUp => cases e; exact State.powerUp_queueLaw h
  case reset event => cases e; exact State.resetLine_queueLaw h event
  case mainPowerOff cut => cases e; exact State.powerOff_queueLaw h cut
  case secondTick => cases e; exact h.of_engine (by simp)
  case stallTimeout b =>
    cases e
    refine h.of_engine ?_
    unfold State.stallTick
    split <;> simp
  case crystalStop count =>
    cases e
    refine h.of_engine ?_
    unfold State.stopCrystal
    split <;> simp
  case crystalRunsAgain =>
    cases e
    refine h.of_engine ?_
    unfold State.startCrystal
    split <;> rfl
  case backupSupplyLost =>
    cases e
    refine h.of_engine ?_
    unfold State.loseBackup
    split <;> rfl
  case descriptorFetchDone book => cases e; exact h.of_engine (by simp)
  case guardedReadResume p => cases e; exact h.of_engine (by simp)
  case tailWrite p event => cases e; exact State.writeTail_queueLaw h p event
  case journalWaitRelease => cases e; exact State.journalRelease_queueLaw h undisturbed_keepsQueue
  case bayHeldTrigger b => cases e; exact State.takeHeld_queueLaw h b
  case bayRecordWriteBack b =>
    cases e
    refine h.of_engine ?_
    unfold State.writeBackStep
    split <;> simp
  case internalAdmission => cases e; exact State.admitInternal_queueLaw h
  case format => cases e; exact State.formatRow_queueLaw h
  case unknownKind => cases e; exact State.unknownRow_queueLaw h
  case openAccount | setCredit | freeze | thaw | closeAccount | transfer | land | sell | withdraw | lend |
      returnCrate | registerCrate | retireCrate | writeOff | iceHold | iceSettle | bayRelease | dayClose =>
    cases e; exact State.applyRow_queueLaw h _ _
  all_goals cases e; exact State.arrive_queueLaw h _ _

/-- Settles O4: each command keeps the queue law, and so does the start-up of a STARTING part. -/
theorem stepKeepsQueueLaw : Obligations.StepKeepsQueueLaw := by
  unfold Obligations.StepKeepsQueueLaw
  intro s t h e
  unfold step at e
  split at e
  · unfold idleStep at e
    split at e
    · cases e; exact State.startUp_queueLaw h
    · cases e; exact h
  · next c cs _ =>
    have rest : QueueLaw { s with pending := cs } := h.of_engine rfl
    exact exec_queueLaw rest c e

end Sys2Proof.Machine
end

section
/-! The reset state, and internal admission (R10, R11). -/

namespace Sys2Proof.Machine

variable {s : State}

/-! ## The reset state -/

theorem reset_scale (n : Fin 8) : State.reset.scale n = ScaleChannel.reset := by
  simp [State.scale, State.reset, Weigh.reset, Vector.get_eq_getElem]

theorem reset_reader (r : Fin 12) : State.reset.reader r = ReaderChannel.reset := by
  simp [State.reader, State.reset, Tags.reset, Vector.get_eq_getElem]

theorem reset_bay (b : Fin 6) : State.reset.bay b = BayChannel.reset := by
  simp [State.bay, State.reset, Ice.reset, Vector.get_eq_getElem]

theorem reset_storeCanonical : StoreCanonical State.reset := by
  refine ⟨⟨List.Pairwise.nil, ?_, List.Pairwise.nil⟩, rfl⟩
  intro c hc
  cases hc

theorem reset_trayLaw : TrayLaw State.reset := by
  intro n
  rw [reset_scale]
  exact ⟨Nat.zero_le _, List.nodup_nil, fun _ => rfl⟩

theorem reset_readerLaw : ReaderLaw State.reset := by
  intro r
  rw [reset_reader]
  exact ⟨Nat.zero_le _, Nat.zero_le _⟩

/-- Settles O2: every channel of the reset state is a replicated reset channel, where each invariant is plain. -/
theorem resetLeavesChannelsClear : Obligations.ResetLeavesChannelsClear := by
  unfold Obligations.ResetLeavesChannelsClear
  refine ⟨⟨rfl, rfl, rfl, rfl, rfl, rfl, rfl, rfl, rfl, ?paths, reset_scale, reset_reader, ?bays, ?desk,
    ?cache⟩, reset_storeCanonical, ?queue, reset_trayLaw, reset_readerLaw, ?trading, ?journal⟩
  case paths => intro p; cases p <;> rfl
  case bays => intro b; rw [reset_bay]; exact ⟨rfl, rfl, rfl⟩
  case desk => intro slot; simp [State.reset, Vector.get_eq_getElem]
  case cache => intro e; simp [State.reset, Vector.get_eq_getElem]
  case queue => exact ⟨Nat.zero_le _, fun _ => rfl⟩
  case trading => intro h; cases h
  case journal => exact Nat.zero_le _

/-! ## Internal admission -/

theorem State.firstWaiting_none (h : ∀ i : Fin 11, s.waitingAt i = none) (n : Nat) (i : Fin 11) :
    s.firstWaiting n i = none := by
  induction n generalizing i with
  | zero => rfl
  | succ n ih => rw [State.firstWaiting, h i]; exact ih _

/-- The first source that waits, `k` positions on from `i`, is the one found. -/
theorem State.firstWaiting_at {p : Posting} {n k : Nat} {i : Fin 11} (hk : k < n)
    (before : ∀ j : Nat, j < k → s.waitingAt (i + Fin.ofNat 11 j) = none)
    (waits : s.waitingAt (i + Fin.ofNat 11 k) = some p) :
    s.firstWaiting n i = some (i + Fin.ofNat 11 k, p) := by
  have here : i + Fin.ofNat 11 0 = i := by simp
  have next (j : Nat) : afterPosition i + Fin.ofNat 11 j = i + Fin.ofNat 11 (j + 1) := by
    ext; simp only [afterPosition, Fin.val_add, Fin.ofNat]; simp; omega
  induction n generalizing i k with
  | zero => omega
  | succ n ih =>
    cases k with
    | zero =>
      rw [here] at waits ⊢
      simp only [State.firstWaiting, waits]
    | succ k =>
      have skip : s.waitingAt i = none := by simpa only [here] using before 0 (by omega)
      simp only [State.firstWaiting, skip]
      rw [← next] at waits ⊢
      exact ih (by omega) (fun j hj => by rw [next]; exact before (j + 1) (by omega)) waits
        (by simp) (fun j => by ext; simp only [afterPosition, Fin.val_add, Fin.ofNat]; simp; omega)

theorem gateReader_injective {g h : Fin 4} (e : gateReader g = gateReader h) : g = h := by
  have := congrArg Fin.val e
  simp only [gateReader] at this
  exact Fin.ext (by omega)

/-- Once a posting has left its source, that source waits no longer and every other stands as it did. -/
theorem State.dropWaiting_waitingAt (s : State) (i j : Fin 11) :
    (s.dropWaiting i).waitingAt j = if j = i then none else s.waitingAt j := by
  have apart : j ≠ i ↔ j.val ≠ i.val := by rw [Ne, Fin.ext_iff]
  unfold State.dropWaiting
  split
  · next gate =>
    have keeps (h : j.val < 4) :
        gateReader ⟨j.val, h⟩ = gateReader ⟨i.val, gate⟩ ↔ j = i := by
      simp [gateReader, Fin.ext_iff]
    unfold State.waitingAt
    split
    · next h =>
      simp only [bank_get_set, keeps h]
      split <;> rfl
    · next h =>
      rw [if_neg (by rw [← Ne, apart]; omega)]
      rfl
  · next gate =>
    split
    · next bay =>
      unfold State.waitingAt
      split
      · next h => rw [if_neg (by rw [← Ne, apart]; omega)]; rfl
      · split
        · next h =>
          have keeps : (⟨j.val - 4, by omega⟩ : Fin 6) = ⟨i.val - 4, by omega⟩ ↔ j = i := by
            simp only [Fin.ext_iff]; omega
          simp only [State.bay_setBay, keeps]
          split <;> rfl
        · next h => rw [if_neg (by rw [← Ne, apart]; omega)]; rfl
    · next bay =>
      have last : j.val < 10 ∨ j = i := by
        rw [Fin.ext_iff]; omega
      rcases last with h | rfl
      · rw [if_neg (by rw [← Ne, apart]; omega)]
        unfold State.waitingAt
        cases s.clock.request <;> simp [h, State.bay]
      · rw [if_pos rfl]
        unfold State.waitingAt
        rw [dif_neg gate, dif_neg bay]
        cases e : s.clock.request <;> simp [e]

/-- A posting that joins the engine leaves every source as it is. -/
theorem State.enqueue_waitingAt (s : State) (p : Posting) (j : Fin 11) :
    (s.enqueue p).waitingAt j = s.waitingAt j := by
  unfold State.enqueue
  split <;> rfl

/-- Settles O44: the search finds the first source that waits, whose posting leaves it and is enqueued. -/
theorem internalAdmissionStep : Obligations.InternalAdmissionStep := by
  unfold Obligations.InternalAdmissionStep
  intro s
  refine ⟨fun full => ?full, fun none => ?none, fun k p room before waits => ?some⟩
  case full => simp [exec, execInternalAdmission, State.admitInternal, Nat.not_lt.2 full]
  case none =>
    simp only [exec, execInternalAdmission, State.admitInternal, State.firstWaiting_none none, ite_self]
  case some =>
    have found : s.firstWaiting 11 s.engine.pointer = some (s.engine.pointer + k, p) := by
      have e := State.firstWaiting_at (s := s) (p := p) (i := s.engine.pointer) (n := 11) k.isLt
        (fun j hj => by simpa [Nat.mod_eq_of_lt (lt_trans hj k.isLt)] using before (Fin.ofNat 11 j) (by
          simp [Nat.mod_eq_of_lt (lt_trans hj k.isLt)]; exact hj)) (by simpa using waits)
      simpa using e
    refine ⟨_, by simp only [exec, execInternalAdmission, State.admitInternal, room, if_true, found]; rfl, ?_⟩
    have engine : (s.dropWaiting (s.engine.pointer + k)).engine = s.engine := State.dropWaiting_engine _
    refine ⟨?pointer, fun j => ?waiting, fun idle => ?idle, fun busy => ?busy⟩
    case waiting => rw [State.enqueue_waitingAt]; exact State.dropWaiting_waitingAt s _ j
    case pointer => unfold State.enqueue; split <;> rfl
    case idle => rw [State.enqueue_idle (by rw [engine]; exact idle)]; exact ⟨rfl, rfl, by rw [engine]⟩
    case busy =>
      rw [State.enqueue_busy (by rw [engine]; exact busy)]
      exact ⟨by rw [engine], by rw [engine], by rw [engine]⟩

end Sys2Proof.Machine
end

section
/-! Writes of store words at a port whose effect stays off the paths and the store (R58, R69): the effect
is that on the state with the word written. Intake of COMMIT and of the rostrum and desk triggers
(R76, R93, R94, R112). -/

namespace Sys2Proof.Machine

variable {s : State}

/-! ## Effects apart from the paths and the store -/

/-- The state with another store, other arbiter pointers and other paths. -/
def State.rewired (u : State) (m : Memory) (a : Arbiter) (x y : Path) : State :=
  { u with store := m, arbiter := a, first := x, second := y }

/-- An effect that neither looks at the store, the arbiter and the paths nor changes them. -/
def Apart (f : State → State) : Prop :=
  ∀ u m a x y, f (u.rewired m a x y) = (f u).rewired m a x y

theorem Apart.fields {f : State → State} (h : Apart f) (u : State) :
    f u = (f u).rewired u.store u.arbiter u.first u.second := h u u.store u.arbiter u.first u.second

theorem Apart.store {f : State → State} (h : Apart f) (u : State) : (f u).store = u.store := by
  rw [h.fields u]; rfl
theorem Apart.arbiter {f : State → State} (h : Apart f) (u : State) : (f u).arbiter = u.arbiter := by
  rw [h.fields u]; rfl
theorem Apart.path {f : State → State} (h : Apart f) (u : State) (p : PortId) :
    (f u).path p = u.path p := by
  rw [h.fields u]; cases p <;> rfl

theorem Apart.dropSnapshot {f : State → State} (h : Apart f) (u : State) (p : PortId) :
    (f u).dropSnapshot p = f (u.dropSnapshot p) := by
  have rewire (v : State) : v.dropSnapshot p =
      v.rewired v.store v.arbiter (v.dropSnapshot p).first (v.dropSnapshot p).second := by
    cases p <;> rfl
  have one := h.path u .first
  have two := h.path u .second
  simp only [State.path] at one two
  rw [rewire (f u), rewire u, h, h.store, h.arbiter]
  congr 1 <;> (cases p <;> simp [State.dropSnapshot, State.setPath, State.path, one, two])

/-- A word written and its write answered are one rewiring, which an effect apart from them commutes with. -/
theorem Apart.wrote {f : State → State} (h : Apart f) (u : State) (g : Grantee) (ws : List (Nat × Word))
    (p : PortId) (r : Answer) : ((f u).write g ws).answer p r = f ((u.write g ws).answer p r) := by
  have outer (v : State) : (v.write g ws).answer p r = v.rewired (v.store.putAll ws)
      (if ws.isEmpty then v.arbiter else v.arbiter.grant g)
      ((v.write g ws).answer p r).first ((v.write g ws).answer p r).second := by
    cases p <;> rfl
  have firsts : (((f u).write g ws).answer p r).first = ((u.write g ws).answer p r).first := by
    have e := h.path u .first
    simp only [State.path] at e
    cases p <;> simp [State.answer, State.setPath, State.path, e]
  have seconds : (((f u).write g ws).answer p r).second = ((u.write g ws).answer p r).second := by
    have e := h.path u .second
    simp only [State.path] at e
    cases p <;> simp [State.answer, State.setPath, State.path, e]
  rw [outer (f u), firsts, seconds, h.store, h.arbiter, ← h, ← outer]

/-- A taken write of a store word, by an effect apart from the paths and the store. -/
theorem State.stored_write_apart {p : PortId} {book : Fin 7} {b off : Nat} {v : Word} {w : SpecialWord}
    (hb : book.val = b) (h : s.owns p book) (hw : specialWordAt book off = w)
    (ho : off + 4 ≤ bookLimit book) (ha : off % 4 = 0) (hl : off < 262144) (live : w.isLive = false)
    (ice : w.atIce = false) (checks : firstFail (s.wordChecks w v) = none)
    (apart : Apart fun u => u.blockEffect w v) :
    s.arrive p ⟨portAddr b off, .word, some v⟩ = (s.wroteWord p book off v).blockEffect w v := by
  rw [State.stored_write hb h hw ho ha hl live checks]
  · rw [State.effect_block ice]
    have one := ((s.dropSnapshot p).blockEffect w v).serve_requests (s.grantee p) [(s.base book + off, v)]
    rw [show [(s.grantee p, s.base book + off, v)] = requests (s.grantee p) [(s.base book + off, v)] from rfl,
      one]
    exact apart.wrote _ _ _ _ _
  · rw [State.effect_block ice, State.serve_path, apart.path]

/-! ## The state with a store word written -/

section WroteWord

variable (s) (p : PortId) (book : Fin 7) (off : Nat) (v : Word)

@[simp] theorem State.wroteWord_engine : (s.wroteWord p book off v).engine = s.engine := by
  simp [State.wroteWord]
@[simp] theorem State.wroteWord_shadows : (s.wroteWord p book off v).shadows = s.shadows := by
  simp [State.wroteWord]
@[simp] theorem State.wroteWord_scale (n : Fin 8) : (s.wroteWord p book off v).scale n = s.scale n := by
  simp [State.wroteWord]
@[simp] theorem State.wroteWord_stamp : (s.wroteWord p book off v).stamp = s.stamp := by
  simp [State.stamp, State.wroteWord]

end WroteWord

/-! ## COMMIT -/

theorem specialWordAt_commit : ∀ n : Fin 8, specialWordAt 5 (0x10C + 64 * n.val) = .commit n := by decide

theorem State.takeCommit_apart (n : Fin 8) : Apart fun u => u.takeCommit n := by
  intro u m a x y
  unfold State.takeCommit State.enqueue
  simp only [apply_ite (fun t : State => t.rewired m a x y)]
  rfl

/-- The checks of a COMMIT at a fitted scale: its shadows, then its slot (R57, R76, R93). -/
theorem State.commit_checks {n : Fin 8} (fitted : s.scaleFitted n.val = true) (v : Word) :
    firstFail (s.wordChecks (.commit n) v) =
      if (s.shadows.scale.get n).valid then
        if (s.scale n).commit.isPending then some .slotBusy else none
      else some .badValue := by
  simp only [State.wordChecks, firstFail, SpecialWord.writable, State.takesValue, SpecialWord.setupOnly,
    SpecialWord.needsHold, State.wordFitted, fitted, State.slotFree, State.quietAllows, State.formatAllows]
  cases (s.shadows.scale.get n).valid <;> cases (s.scale n).commit.isPending <;> rfl

theorem ScaleShadow.valid_iff (sh : ScaleShadow) :
    sh.valid = true ↔ sh.boat.toNat ≤ 255 ∧ sh.species.toNat ≤ 255 ∧ sh.grade.toNat ≤ 7 := by
  simp [ScaleShadow.valid, inRange, and_assoc]

theorem CommitState.isPending_eq_false {c : CommitState} :
    c.isPending = false ↔ ∀ l, c ≠ .pending l := by
  cases c <;> simp [CommitState.isPending]

section Commit

variable {p : PortId} {n : Fin 8} (own : s.owns p 5) (v : Word)
include own

/-- A COMMIT that fails a check faults with its reason (R55, R93). -/
theorem exec_commit_faults {r : FaultReason} (checks : firstFail (s.wordChecks (.commit n) v) = some r) :
    exec (.commit p n v) s =
      .next (s.faultAccess p ⟨portAddr 5 (0x10C + 64 * n.val), .word, some v⟩ r) := by
  have limit : 0x10C + 64 * n.val + 4 ≤ bookLimit 5 := by show _ ≤ 2048; omega
  exact congrArg _ (State.write_faults rfl own (specialWordAt_commit n) limit (by omega) (by omega) checks)

/-- A COMMIT that passes its checks is taken by intake (R93). -/
theorem exec_commit_taken (fitted : s.scaleFitted n.val = true) (valid : (s.shadows.scale.get n).valid = true)
    (free : (s.scale n).commit.isPending = false) :
    exec (.commit p n v) s = .next ((s.wroteWord p 5 (0x10C + 64 * n.val) v).takeCommit n) := by
  have limit : 0x10C + 64 * n.val + 4 ≤ bookLimit 5 := by show _ ≤ 2048; omega
  exact congrArg _ (State.stored_write_apart rfl own (specialWordAt_commit n) limit (by omega) (by omega)
    rfl rfl (by rw [State.commit_checks fitted, valid, free]; rfl) (State.takeCommit_apart n))

end Commit

/-- The fields that a LAND captures (R94, chapter 11). -/
theorem State.landPosting_fields {n : Fin 8} (valid : (s.shadows.scale.get n).valid = true) :
    (landBoat (s.landPosting n)).toNat = (s.shadows.scale.get n).boat.toNat ∧
      (landSpecies (s.landPosting n)).toNat = (s.shadows.scale.get n).species.toNat ∧
      (landGrade (s.landPosting n)).toNat = (s.shadows.scale.get n).grade.toNat := by
  obtain ⟨boat, species, grade⟩ := (ScaleShadow.valid_iff _).1 valid
  have byte (w : Word) (h : w.toNat ≤ 255) : (field w 0 8).toNat = w.toNat := by
    simp only [field, BitVec.extractLsb'_toNat, Nat.shiftRight_zero]
    omega
  simp only [landBoat, landSpecies, landGrade, State.landPosting]
  refine ⟨?_, ?_, ?_⟩
  · rw [← byte _ boat, field, BitVec.extractLsb'_append_eq_right]
  · rw [← byte _ species, field, BitVec.extractLsb'_append_eq_of_le (by omega),
      BitVec.extractLsb'_append_eq_right]
  · rw [← byte _ (by omega), field, BitVec.extractLsb'_append_eq_of_le (by omega),
      BitVec.extractLsb'_append_eq_of_le (by omega), BitVec.extractLsb'_append_eq_right]

/-- Settles O24: the checks in their order, then each case of the intake. -/
theorem commitIntake : Obligations.CommitIntake := by
  unfold Obligations.CommitIntake
  intro s p n v own fitted
  dsimp only
  refine ⟨fun range => ?_, fun boat species grade => ⟨fun l busy => ?_, fun free => ?_⟩⟩
  · refine exec_commit_faults own v ?_
    rw [State.commit_checks fitted, if_neg]
    rw [ScaleShadow.valid_iff]
    omega
  · have valid := (ScaleShadow.valid_iff _).2 ⟨boat, species, grade⟩
    refine exec_commit_faults own v ?_
    rw [State.commit_checks fitted, if_pos valid, busy]
    rfl
  · have valid := (ScaleShadow.valid_iff _).2 ⟨boat, species, grade⟩
    rw [exec_commit_taken own v fitted valid (CommitState.isPending_eq_false.2 free)]
    refine ⟨fun setup => ?_, fun trading unsettled => ?_, fun trading settled committed => ?_,
      fun trading settled opened room => ?_, fun trading settled opened full => ?_⟩
    · simp [State.takeCommit, setup, State.scaleStatus, Status.refusal, Status.reset]
    · simp [State.takeCommit, trading, unsettled, State.scaleStatus, Status.refusal, Status.reset]
    · simp [State.takeCommit, trading, settled, committed, State.scaleStatus, Status.refusal, Status.reset]
    · obtain ⟨boatEq, speciesEq, gradeEq⟩ := State.landPosting_fields (n := n) valid
      refine ⟨s.landPosting n, ?_, rfl, rfl, rfl, rfl, boatEq, speciesEq, gradeEq, rfl, fun light => ?_⟩
      · simp [State.takeCommit, trading, settled, opened, State.admits, room, State.landPosting,
          Status.plain, Status.reset]
      · simp only [landGross, State.landPosting, BitVec.toNat_ofNat]
        omega
    · simp [State.takeCommit, trading, settled, opened, State.admits, Nat.not_lt.2 full, State.scaleStatus,
        Status.plain, Status.reset]

/-! ## Rostrum and desk triggers -/

theorem specialWordAt_rostrum :
    ∀ r : Fin 2, specialWordAt 6 (0x10 + 32 * r.val) = .trigger (rostrumSlot r) := by decide

theorem State.takeTrigger_apart (slot : Fin 3) (v : Word) : Apart fun u => u.takeTrigger slot v := by
  intro u m a x y
  unfold State.takeTrigger State.enqueue
  simp only [apply_ite (fun t : State => t.rewired m a x y)]
  rfl

/-- The one check of a trigger that can fail is that its slot is free (R76). -/
theorem State.trigger_checks (s : State) (slot : Fin 3) (v : Word) :
    firstFail (s.wordChecks (.trigger slot) v) =
      if s.slotFree (.trigger slot) then none else some .slotBusy := by
  simp only [State.wordChecks, firstFail, SpecialWord.writable, State.takesValue, SpecialWord.setupOnly,
    SpecialWord.needsHold, State.wordFitted, State.quietAllows, State.formatAllows]
  cases s.slotFree (.trigger slot) <;> rfl

section Trigger

variable {p : PortId} {off : Nat} {slot : Fin 3} (own : s.owns p 6)
  (word : specialWordAt 6 off = .trigger slot) (limit : off + 4 ≤ 256) (align : off % 4 = 0) (v : Word)
include own word limit align

/-- A trigger on a slot whose posting is outstanding faults SLOT_BUSY (R76). -/
theorem State.trigger_faults (busy : s.slotFree (.trigger slot) = false) :
    s.writeWord p (portAddr 6 off) v = s.faultAccess p ⟨portAddr 6 off, .word, some v⟩ .slotBusy :=
  State.write_faults rfl own word limit align (by omega) (by rw [State.trigger_checks, busy]; rfl)

/-- A trigger on a free slot is taken by intake (R76). -/
theorem State.trigger_taken (free : s.slotFree (.trigger slot) = true) :
    s.writeWord p (portAddr 6 off) v = (s.wroteWord p 6 off v).takeTrigger slot v := by
  have checks : firstFail (s.wordChecks (.trigger slot) v) = none := by
    rw [State.trigger_checks, free]; rfl
  exact State.stored_write_apart (w := .trigger slot) (book := 6) rfl own word limit align (by omega) rfl rfl
    checks (State.takeTrigger_apart slot v)

end Trigger

/-- Settles O30: both rows are a write of a trigger word, faulted or taken by intake. -/
theorem deskBookTriggers : Obligations.DeskBookTriggers := by
  unfold Obligations.DeskBookTriggers
  intro s p v own
  have rostrum (r : Fin 2) : exec (.rostrumTrigger p r v) s =
      .next (s.writeWord p (portAddr 6 (0x10 + 32 * r.val)) v) := by
    rw [Nat.add_comm]; rfl
  have desk : exec (.deskTrigger p v) s = .next (s.writeWord p (portAddr 6 0x50) v) := rfl
  have notDesk : ∀ r : Fin 2, rostrumSlot r ≠ deskSlot := by decide
  have source : ∀ r : Fin 2, deskSource (rostrumSlot r) = .rostrum r := by decide
  have sourceDesk : deskSource deskSlot = .desk := by decide
  refine ⟨fun r free => ?_, fun r busy => ?_, fun free => ?_, fun busy => ?_⟩
  · rw [rostrum, State.trigger_taken own (specialWordAt_rostrum r) (by omega) (by omega) v free]
    refine ⟨fun setup => ?_, fun trading room => ?_, fun trading full => ?_⟩
    · simp [State.takeTrigger, notDesk, setup, Status.refusal, Status.reset]
    · simp [State.takeTrigger, notDesk, trading, State.admits, room, State.deskPosting, source, Status.plain,
        Status.reset]
    · simp [State.takeTrigger, notDesk, trading, State.admits, Nat.not_lt.2 full, Status.plain, Status.reset]
  · rw [rostrum, State.trigger_faults own (specialWordAt_rostrum r) (by omega) (by omega) v busy]
  · rw [desk, State.trigger_taken own (show specialWordAt 6 0x50 = .trigger deskSlot by decide) (by omega)
      (by omega) v free]
    refine ⟨fun room => ?_, fun full => ?_⟩
    · simp [State.takeTrigger, State.admits, room, State.deskPosting, sourceDesk, Status.plain, Status.reset]
    · simp [State.takeTrigger, State.admits, Nat.not_lt.2 full, Status.plain, Status.reset]
  · rw [desk, State.trigger_faults own (show specialWordAt 6 0x50 = .trigger deskSlot by decide) (by omega)
      (by omega) v busy]

end Sys2Proof.Machine
end

section
/-! Writes of the configuration words of book 0 (R69, R78, R125, R176, R194, R199). -/

namespace Sys2Proof.Machine

variable {s : State}

theorem ConfigWord.specialWordAt_offset (c : ConfigWord) : specialWordAt 0 c.offset = .config c := by
  cases c with
  | crateType t => revert t; decide
  | schedule k => revert k; decide
  | _ => rfl

theorem ConfigWord.offset_lt (c : ConfigWord) : c.offset + 4 ≤ 4096 := by
  cases c <;> simp only [ConfigWord.offset] <;> omega

theorem ConfigWord.offset_aligned (c : ConfigWord) : c.offset % 4 = 0 := by
  cases c <;> simp only [ConfigWord.offset] <;> omega

theorem State.takeNext_apart : Apart State.takeNext := by
  intro u m a x y
  unfold State.takeNext State.rewired
  dsimp only
  split <;> rfl

theorem State.setStepMode_apart (on : Bool) : Apart fun u => u.setStepMode on := by
  intro u m a x y
  unfold State.setStepMode
  simp only [apply_ite (fun t : State => t.rewired m a x y), ← State.takeNext_apart _ m a x y]
  rfl

/-- The copy of a configuration word lies apart from the paths and the store (R194). -/
theorem State.setCopy_apart (c : ConfigWord) (v : Word) : Apart fun u => u.setCopy c v := by
  cases c with
  | stepMode => exact State.setStepMode_apart _
  | declareMode =>
    intro u m a x y
    simp only [State.setCopy, State.setDeclareMode, apply_ite (fun t : State => t.rewired m a x y)]
    rfl
  | _ => intro u m a x y; rfl

theorem State.setCopy_profile (c : ConfigWord) (v : Word) : (s.setCopy c v).profile = s.profile := by
  cases c with
  | stepMode => exact (s.setStepMode_shell _).profile
  | declareMode => exact (s.setDeclareMode_shell _).profile
  | _ => rfl

/-- An effect apart from the paths and the store, and the word written beside it, in either order. -/
theorem Apart.wroteWord {f : State → State} (h : Apart f) (same : (f s).profile = s.profile) (p : PortId)
    (book : Fin 7) (off : Nat) (v : Word) :
    f (s.wroteWord p book off v) = (f s).wroteWord p book off v := by
  have side : (f s).side p = s.side p := by cases p <;> simp only [State.side, same]
  have base : (f s).base book = s.base book := by simp only [State.base, same]
  unfold State.wroteWord State.grantee
  rw [h.dropSnapshot, side, base, h.wrote]

/-- The checks of a configuration word: its values, then the words that SETUP alone writes (R125, R204). -/
theorem State.config_checks (s : State) (c : ConfigWord) (v : Word) :
    firstFail (s.wordChecks (.config c) v) =
      if c.takes s.weigh.settle.window.toNat s.weigh.settle.brk.toNat v then
        if (SpecialWord.config c).setupOnly && decide (s.engine.mode = .trading) then some .setupOnly
        else none
      else some .badValue := by
  simp only [State.wordChecks, firstFail, SpecialWord.writable, State.takesValue, SpecialWord.needsHold,
    State.wordFitted, State.slotFree, State.quietAllows, State.formatAllows]
  cases c.takes s.weigh.settle.window.toNat s.weigh.settle.brk.toNat v <;>
    cases ((SpecialWord.config c).setupOnly && decide (s.engine.mode = .trading)) <;> rfl

section ConfigWrite

variable {p : PortId} (own : s.owns p 0) (c : ConfigWord) {v : Word}
  (takes : c.takes s.weigh.settle.window.toNat s.weigh.settle.brk.toNat v = true)
include own takes

/-- An accepted write of a configuration word: the copy, and the word in the store (R194). -/
theorem State.config_written (mode : (SpecialWord.config c).setupOnly = false ∨ s.engine.mode = .setup) :
    s.arrive p ⟨c.addr, .word, some v⟩ = (s.setCopy c v).wroteWord p 0 c.offset v := by
  have checks : firstFail (s.wordChecks (.config c) v) = none := by
    rw [State.config_checks, if_pos takes, if_neg]
    rcases mode with h | h <;> simp [h]
  have written := State.stored_write_apart (w := .config c) (book := 0) rfl own c.specialWordAt_offset
    c.offset_lt c.offset_aligned (by have := c.offset_lt; omega) rfl rfl checks (State.setCopy_apart c v)
  exact written.trans ((State.setCopy_apart c v).wroteWord (State.setCopy_profile c v) p 0 c.offset v)

/-- A word that SETUP alone writes faults SETUP_ONLY in TRADING (R125). -/
theorem State.config_setupOnly (only : (SpecialWord.config c).setupOnly = true)
    (trading : s.engine.mode = .trading) :
    s.arrive p ⟨c.addr, .word, some v⟩ = s.faultAccess p ⟨c.addr, .word, some v⟩ .setupOnly := by
  have checks : firstFail (s.wordChecks (.config c) v) = some .setupOnly := by
    rw [State.config_checks, if_pos takes, if_pos]
    simp [only, trading]
  exact State.write_faults (book := 0) rfl own c.specialWordAt_offset c.offset_lt c.offset_aligned
    (by have := c.offset_lt; omega) checks

end ConfigWrite

/-- A change of the declare mode, either way, empties every history and nothing else (R125). -/
theorem State.setDeclareMode_change {m : DeclareMode} (h : s.tags.mode ≠ m) :
    ∃ rs, s.setDeclareMode m = { s with tags := { s.tags with mode := m, readers := rs } } ∧
      ∀ r : Fin 12, rs.get r = { s.reader r with history := [] } := by
  refine ⟨_, by rw [State.setDeclareMode, if_neg h], fun r => ?_⟩
  rw [mapBank_get]
  rfl

/-- Settles O17: each row is an accepted write of its configuration word. -/
theorem configurationWrites : Obligations.ConfigurationWrites := by
  unfold Obligations.ConfigurationWrites
  intro s p data own
  have any (c : ConfigWord) {v : Word}
      (takes : c.takes s.weigh.settle.window.toNat s.weigh.settle.brk.toNat v = true)
      (mode : (SpecialWord.config c).setupOnly = false ∨ s.engine.mode = .setup) :
      exec (.portWrite p c.addr .word v) s = .next ((s.setCopy c v).wroteWord p 0 c.offset v) :=
    congrArg _ (State.config_written own c takes mode)
  refine ⟨fun c takes mode => any c takes mode, fun fee => ?_, ?_, fun office => ?_, fun quay => ?_,
    fun k valid => ?_, fun on => ?_, fun off running => ?_, fun setup => ⟨fun sure => ?_, fun fast => ?_,
      fun sure => ?_, fun fast => ?_⟩, fun trading code => ?_⟩
  · exact any .feeRate (by simp [ConfigWord.takes, inRange, fee]) (.inl rfl)
  · exact any .noticeEnable rfl (.inl rfl)
  · subst office; exact any .quaysideOwner rfl (.inl rfl)
  · subst quay; exact any .deskOwner rfl (.inl rfl)
  · exact any (.schedule k) valid (.inl rfl)
  · subst on; exact any .stepMode rfl (.inl rfl)
  · subst off
    have copied : s.setCopy .stepMode 0 = { s with engine := { s.engine with stepMode := false } } := by
      simp [State.setCopy, State.setStepMode, running]
    rw [← copied]
    exact any .stepMode rfl (.inl rfl)
  · obtain ⟨rs, changed, emptied⟩ := State.setDeclareMode_change (s := s) (m := .fast) (by simp [sure])
    refine ⟨rs, ?_, emptied⟩
    rw [← changed]
    exact any .declareMode rfl (.inr setup)
  · obtain ⟨rs, changed, emptied⟩ := State.setDeclareMode_change (s := s) (m := .sure) (by simp [fast])
    refine ⟨rs, ?_, emptied⟩
    rw [← changed]
    exact any .declareMode rfl (.inr setup)
  · have same : s.setCopy .declareMode 1 = s := if_pos sure
    have written := any .declareMode (v := 1) rfl (.inr setup)
    rw [same] at written
    exact written
  · have same : s.setCopy .declareMode 0 = s := if_pos fast
    have written := any .declareMode (v := 0) rfl (.inr setup)
    rw [same] at written
    exact written
  · have takes : ConfigWord.takes .declareMode s.weigh.settle.window.toNat s.weigh.settle.brk.toNat data =
        true := by simp [ConfigWord.takes, inRange, code]
    exact congrArg _ (State.config_setupOnly own .declareMode takes rfl trading)

end Sys2Proof.Machine
end

section
/-! The account postings and TRANSFER (R26 to R30): their checks as the statements spell them, the images
they are accepted with, and the refusals. -/

namespace Sys2Proof.Machine

variable {s : State}

/-! ## Checks -/

theorem checked_refuses {checks : List (Bool × Reason)} {r : Reason} (h : firstFail checks = some r)
    (v : Verdict) : checked checks v = .refuse r := by
  simp only [checked, h]

theorem checked_accepts {checks : List (Bool × Reason)} (h : firstFail checks = none) (v : Verdict) :
    checked checks v = v := by
  simp only [checked, h]

/-- A list of checks fails nowhere exactly when its first check holds and the rest fails nowhere. -/
theorem firstFail_cons_eq_none {α : Type} {c : Prop} [Decidable c] {r : α} {cs : List (Bool × α)} :
    firstFail ((decide c, r) :: cs) = none ↔ c ∧ firstFail cs = none := by
  by_cases h : c <;> simp [firstFail, h]

theorem special_not (n : Nat) : (!special n) = decide (2 < n) := by
  simp [special, ← decide_not]

theorem debitExempt_eq (n : Nat) : debitExempt n = decide (n = 0 ∨ n = 2) := by
  rw [Bool.eq_iff_iff]
  simp [debitExempt]

theorem AccountImage.inUse_eq (a : AccountImage) : a.inUse = decide a.trades := by
  rw [Bool.eq_iff_iff]
  simp [AccountImage.inUse]

theorem AccountImage.isEmpty_eq (a : AccountImage) :
    a.isEmpty = decide (a.balance = 0 ∧ a.holds = 0 ∧ a.crates = 0 ∧ a.floor = 0) := by
  rw [Bool.eq_iff_iff]
  simp [AccountImage.isEmpty, and_assoc]

theorem balanceRange_iff (v : Int) : balanceRange v = true ↔ -2147483648 ≤ v ∧ v ≤ 2147483647 := by
  unfold balanceRange
  rw [Bool.and_eq_true, decide_eq_true_iff, decide_eq_true_iff]

theorem balanceRange_balanceAfter (a : AccountImage) (d : Int) :
    balanceRange (a.balanceAfter d) = decide (a.takes d) := by
  rw [Bool.eq_iff_iff, balanceRange_iff, decide_eq_true_iff]
  rfl

theorem debitCheck_eq (n : Nat) (a : AccountImage) (amount : Int) :
    debitCheck n a amount =
      decide (n = 0 ∨ n = 2 ∨ amount ≤ a.balance.toInt + a.credit.toInt - a.holds.toInt) := by
  rw [Bool.eq_iff_iff, debitCheck, debitExempt_eq, Bool.or_eq_true, decide_eq_true_iff, decide_eq_true_iff,
    decide_eq_true_iff, or_assoc, AccountImage.available]

/-! ## Reads -/

/-- A store without a bad byte strikes no read (R21). -/
theorem State.readable_of_clean (h : s.store.bad = []) (rs : List RecordId) : s.readable rs := by
  unfold State.readable
  simp [State.anyFails, State.recordFails, Memory.failing, h]

theorem accountGuard_inRange {w : Word} (h : w.toNat ≤ 255) : accountGuard w = [.account w.toNat] := by
  simp [accountGuard, h]

/-! ## The rows -/

section Rows

variable {p : Posting} {k : PostKind} {plan : Posting → Plan} {checks : List (Bool × Reason)}
  {images : List Image} (applies : s.applies k p) (steady : (plan p).Steady s)
  (judged : (plan p).verdict s = checked checks (s.acceptImages images))
include applies steady judged

/-- A posting of a clean store is refused with the first of its checks that fails (R15 phase 4). -/
theorem State.applyRow_refusesFirst (clean : s.store.bad = []) {r : Reason} (fails : firstFail checks = some r) :
    s.applyRow k plan = s.writeDueEntry (p.refusal s r) :=
  State.applyRow_refuses applies steady (State.readable_of_clean clean _)
    (judged.trans (checked_refuses fails _))

/-- A posting whose checks all hold is its images written (R15 phases 5 to 8). -/
theorem State.applyRow_completes (reads : s.readable ((plan p).first ++ (plan p).more s))
    (holds : firstFail checks = none) :
    s.applyRow k plan = s.writeDueEntry (p.due images s.engine.copy.nextLot none) :=
  State.applyRow_accepts applies steady reads (judged.trans (checked_accepts holds _))

end Rows

/-! ## What each plan judges -/

section Verdicts

variable (s) (p : Posting)

theorem openAccountPlan_verdict :
    (openAccountPlan p).verdict s =
      checked
        [ (decide (p.params.w0.toNat ≤ 255), .badValue), (decide (2 < p.params.w0.toNat), .wrongKind),
          (decide (p.params.w1 = 1 ∨ p.params.w1 = 2), .badValue),
          (decide (p.params.w2.toNat ≤ 2147483647), .badValue),
          (decide ((s.account p.params.w0.toNat).kind = kindUnused ∨
            (s.account p.params.w0.toNat).state = accountClosed), .notEmpty) ]
        (s.acceptImages [.account (BitVec.ofNat 8 p.params.w0.toNat)
          { kind := field p.params.w1 0 3, state := accountOpen, credit := p.params.w2,
            day := s.engine.copy.day, balance := 0, holds := 0, crates := 0, floor := 0, landed := 0,
            sales := 0, ice := 0 }]) := by
  rw [← special_not, Bool.decide_or, Bool.decide_or]
  rfl

theorem setCreditPlan_verdict :
    (setCreditPlan p).verdict s =
      checked
        [ (decide (p.params.w0.toNat ≤ 255), .badValue),
          (decide (p.params.w1.toNat ≤ 2147483647), .badValue),
          (decide (2 < p.params.w0.toNat), .wrongKind),
          (decide (s.account p.params.w0.toNat).trades, .noAccount) ]
        (s.acceptImages [.account (BitVec.ofNat 8 p.params.w0.toNat)
          { s.account p.params.w0.toNat with credit := p.params.w1 }]) := by
  rw [← special_not, ← AccountImage.inUse_eq]
  rfl

theorem accountStatePlan_verdict (state : BitVec 2) :
    (accountStatePlan state p).verdict s =
      checked
        [ (decide (p.params.w0.toNat ≤ 255), .badValue), (decide (2 < p.params.w0.toNat), .wrongKind),
          (decide (s.account p.params.w0.toNat).trades, .noAccount) ]
        (s.acceptImages [.account (BitVec.ofNat 8 p.params.w0.toNat)
          { s.account p.params.w0.toNat with state := state }]) := by
  rw [← special_not, ← AccountImage.inUse_eq]
  rfl

theorem closeAccountPlan_verdict :
    (closeAccountPlan p).verdict s =
      checked
        [ (decide (p.params.w0.toNat ≤ 255), .badValue), (decide (2 < p.params.w0.toNat), .wrongKind),
          (decide (s.account p.params.w0.toNat).trades, .noAccount),
          (decide ((s.account p.params.w0.toNat).balance = 0 ∧ (s.account p.params.w0.toNat).holds = 0 ∧
            (s.account p.params.w0.toNat).crates = 0 ∧ (s.account p.params.w0.toNat).floor = 0),
            .notEmpty) ]
        (s.acceptImages [.account (BitVec.ofNat 8 p.params.w0.toNat)
          { s.account p.params.w0.toNat with state := accountClosed }]) := by
  rw [← special_not, ← AccountImage.inUse_eq, ← AccountImage.isEmpty_eq]
  rfl

/-- The images of a TRANSFER, its balances moved by words (R4, R30). -/
def State.transferImages (s : State) (p : Posting) : List Image :=
  twoAccounts p.params.w0.toNat
    { s.account p.params.w0.toNat with balance := (s.account p.params.w0.toNat).balance - p.params.w2 }
    p.params.w1.toNat
    { s.account p.params.w1.toNat with balance := (s.account p.params.w1.toNat).balance + p.params.w2 }

theorem AccountImage.pay_toNat (a : AccountImage) (w : Word) :
    a.pay w.toNat = { a with balance := a.balance + w } := by
  rw [AccountImage.pay, AccountImage.balanceAfter, BitVec.ofInt_add, BitVec.ofInt_toInt, BitVec.ofInt_natCast,
    BitVec.ofNat_toNat, BitVec.setWidth_eq]

theorem AccountImage.pay_neg_toNat (a : AccountImage) (w : Word) :
    a.pay (-w.toNat) = { a with balance := a.balance - w } := by
  rw [AccountImage.pay, AccountImage.balanceAfter, BitVec.ofInt_add, BitVec.ofInt_toInt, BitVec.ofInt_neg,
    BitVec.ofInt_natCast, BitVec.ofNat_toNat, BitVec.setWidth_eq, BitVec.sub_eq_add_neg]

/-- Two account images stand in ascending account number (R37). -/
theorem accountImages_two (n : Nat) (a : AccountImage) (m : Nat) (b : AccountImage) :
    accountImages [(n, a), (m, b)] = twoAccounts n a m b := by
  simp only [accountImages, twoAccounts, List.foldr, insertAccount]
  split <;> rfl

theorem transferPlan_verdict :
    (transferPlan p).verdict s =
      checked
        [ (decide (p.params.w0.toNat ≤ 255 ∧ p.params.w1.toNat ≤ 255 ∧ 1 ≤ (p.params.w2.toNat : Int) ∧
            (p.params.w2.toNat : Int) ≤ 2147483647), .badValue),
          (decide (p.params.w0.toNat ≠ 1 ∧ p.params.w1.toNat ≠ 1), .wrongKind),
          (decide (p.params.w0.toNat ≠ p.params.w1.toNat), .badValue),
          (decide (p.params.w0.toNat = 0 ∨ p.params.w0.toNat = 2 ∨
            (s.account p.params.w0.toNat).trades), .noAccount),
          (decide (p.params.w0.toNat = 0 ∨ p.params.w0.toNat = 2 ∨
            (s.account p.params.w0.toNat).state = accountOpen), .frozen),
          (decide (s.account p.params.w1.toNat).trades, .noAccount),
          (decide (p.params.w0.toNat = 0 ∨ p.params.w0.toNat = 2 ∨
            (p.params.w2.toNat : Int) ≤ (s.account p.params.w0.toNat).balance.toInt +
              (s.account p.params.w0.toNat).credit.toInt - (s.account p.params.w0.toNat).holds.toInt),
            .credit),
          (decide ((s.account p.params.w0.toNat).takes (-(p.params.w2.toNat : Int)) ∧
            (s.account p.params.w1.toNat).takes p.params.w2.toNat), .range) ]
        (s.acceptImages (s.transferImages p)) := by
  have images : accountImages
      [(p.params.w0.toNat, (s.account p.params.w0.toNat).pay (-(p.params.w2.toNat : Int))),
        (p.params.w1.toNat, (s.account p.params.w1.toNat).pay p.params.w2.toNat)] = s.transferImages p := by
    rw [accountImages_two, AccountImage.pay_toNat, AccountImage.pay_neg_toNat]
    rfl
  rw [← images]
  refine congrArg (checked · _) ?_
  simp only [accountNumber, debitCheck_eq, debitExempt_eq, AccountImage.inUse_eq, balanceRange_balanceAfter,
    accountPool, List.cons.injEq, Prod.mk.injEq, and_true]
  refine ⟨?_, ?_, ?_, ?_, ?_, True.intro, True.intro, (Bool.decide_and _ _).symm⟩
  all_goals
    rw [Bool.eq_iff_iff]
    simp only [Bool.and_eq_true, Bool.or_eq_true, decide_eq_true_iff, bne_iff_ne, beq_iff_eq, and_assoc,
      or_assoc]

end Verdicts

/-! ## The rows settled -/

/-- Settles O54: each row's list of checks is the list its plan judges by. -/
theorem accountPostingsRefused : Obligations.AccountPostingsRefused := by
  unfold Obligations.AccountPostingsRefused
  intro s p clean
  refine ⟨fun applies r fails => ?_, fun applies r fails => ?_, fun applies r fails => ?_,
    fun applies r fails => ?_, fun applies r fails => ?_, fun applies r fails => ?_⟩
  · exact congrArg _ (State.applyRow_refusesFirst (plan := openAccountPlan) applies (fun _ _ => ⟨rfl, rfl⟩)
      (openAccountPlan_verdict s p) clean fails)
  · exact congrArg _ (State.applyRow_refusesFirst (plan := setCreditPlan) applies (fun _ _ => ⟨rfl, rfl⟩)
      (setCreditPlan_verdict s p) clean fails)
  · exact congrArg _ (State.applyRow_refusesFirst (plan := freezePlan) applies (fun _ _ => ⟨rfl, rfl⟩)
      (accountStatePlan_verdict s p accountFrozen) clean fails)
  · exact congrArg _ (State.applyRow_refusesFirst (plan := thawPlan) applies (fun _ _ => ⟨rfl, rfl⟩)
      (accountStatePlan_verdict s p accountOpen) clean fails)
  · exact congrArg _ (State.applyRow_refusesFirst (plan := closeAccountPlan) applies (fun _ _ => ⟨rfl, rfl⟩)
      (closeAccountPlan_verdict s p) clean fails)
  · exact congrArg _ (State.applyRow_refusesFirst (plan := transferPlan) applies (fun _ _ => ⟨rfl, rfl⟩)
      (transferPlan_verdict s p) clean fails)

/-- Settles O46: where every check of a row holds, its plan accepts with the images of the statement. -/
theorem accountPostingsApply : Obligations.AccountPostingsApply := by
  unfold Obligations.AccountPostingsApply
  intro s p
  refine ⟨?account, ?transfer⟩
  case account =>
    intro n a l ordinary inRange reads
    have guards : accountGuard p.params.w0 ++ [] = [.account n] := by
      rw [List.append_nil, accountGuard_inRange inRange]
    rw [← guards] at reads
    refine ⟨fun applies kind credit free => ?_, fun applies credit trades => ?_, fun applies trades => ?_,
      fun applies trades => ?_, fun applies trades balance holds crates floor => ?_⟩
    · have kinds : (if p.params.w1 = 1 then kindBoat else kindBuyer) = field p.params.w1 0 3 := by
        rcases kind with h | h <;> rw [h] <;> rfl
      rw [kinds]
      exact congrArg _ (State.applyRow_completes (plan := openAccountPlan) applies (fun _ _ => ⟨rfl, rfl⟩)
        (openAccountPlan_verdict s p) reads
        (by simp only [firstFail_cons_eq_none]; exact ⟨inRange, ordinary, kind, credit, free, rfl⟩))
    · exact congrArg _ (State.applyRow_completes (plan := setCreditPlan) applies (fun _ _ => ⟨rfl, rfl⟩)
        (setCreditPlan_verdict s p) reads
        (by simp only [firstFail_cons_eq_none]; exact ⟨inRange, credit, ordinary, trades, rfl⟩))
    · exact congrArg _ (State.applyRow_completes (plan := freezePlan) applies (fun _ _ => ⟨rfl, rfl⟩)
        (accountStatePlan_verdict s p accountFrozen) reads
        (by simp only [firstFail_cons_eq_none]; exact ⟨inRange, ordinary, trades, rfl⟩))
    · exact congrArg _ (State.applyRow_completes (plan := thawPlan) applies (fun _ _ => ⟨rfl, rfl⟩)
        (accountStatePlan_verdict s p accountOpen) reads
        (by simp only [firstFail_cons_eq_none]; exact ⟨inRange, ordinary, trades, rfl⟩))
    · exact congrArg _ (State.applyRow_completes (plan := closeAccountPlan) applies (fun _ _ => ⟨rfl, rfl⟩)
        (closeAccountPlan_verdict s p) reads
        (by simp only [firstFail_cons_eq_none]; exact ⟨inRange, ordinary, trades, ⟨balance, holds, crates, floor⟩, rfl⟩))
  case transfer =>
    intro f t amount a b applies reads fromRange toRange one most fromPool toPool two debit trades paysRange
      takesRange
    have guards : accountGuard p.params.w0 ++ accountGuard p.params.w1 ++ [] = [.account f, .account t] := by
      rw [accountGuard_inRange fromRange, accountGuard_inRange toRange]
      rfl
    rw [← guards] at reads
    have payer : f = 0 ∨ f = 2 ∨ a.trades := debit.imp_right (Or.imp_right fun h => ⟨h.1, .inl h.2.1⟩)
    have open_ : f = 0 ∨ f = 2 ∨ a.state = accountOpen := debit.imp_right (Or.imp_right fun h => h.2.1)
    have credit : f = 0 ∨ f = 2 ∨ amount ≤ a.balance.toInt + a.credit.toInt - a.holds.toInt :=
      debit.imp_right (Or.imp_right fun h => h.2.2)
    refine congrArg _ (State.applyRow_completes (plan := transferPlan) applies (fun _ _ => ⟨rfl, rfl⟩)
        (transferPlan_verdict s p) reads ?_)
    simp only [firstFail_cons_eq_none]
    exact ⟨⟨fromRange, toRange, one, most⟩, ⟨fromPool, toPool⟩, two, payer, open_, trades, credit,
      ⟨paysRange, takesRange⟩, rfl⟩

end Sys2Proof.Machine
end

section
/-! The common checks of a posting and their refusals (R12, R17, R18, R21, R25, R31, R183). -/

namespace Sys2Proof.Machine

variable {s : State}

/-! ## The rows of the kinds -/

/-- Every kind's row but FORMAT's applies the posting in hand by a plan that looks under no guard (R15). -/
theorem row_applies {k : PostKind} {i : Instr} (row : k.row = some i) (notFormat : k ≠ .format) (s : State) :
    ∃ plan : Posting → Plan, exec i s = .next (s.applyRow k plan) ∧ ∀ p, (plan p).Steady s := by
  cases k with
  | format => exact absurd rfl notFormat
  | dayClosed => cases row
  | land => cases row; exact ⟨s.landPlan, rfl, fun p g a => ⟨rfl, rfl⟩⟩
  | _ => cases row; exact ⟨_, rfl, fun p g a => ⟨rfl, rfl⟩⟩

/-- The engine record alone is guarded without a bay's due write. -/
theorem State.placeGuard_engineRecord (s : State) :
    s.placeGuard [.engine] = s.under (distinct (s.engine.guard ++ [.engine])) s.arbiter := rfl

/-- The one posting that a row finds in hand (R13). -/
theorem State.inHand_eq_some {k : PostKind} {p : Posting} (h : s.inHand k = some p) :
    s.engine.state = .applying ∧ s.engine.work = .taken p ∧ p.kindOf = some k := by
  unfold State.inHand at h
  split at h
  · next hs hw =>
    split at h
    · next hk => cases h; exact ⟨hs, hw, hk⟩
    · cases h
  · cases h

/-! ## Bare refusals -/

theorem State.endPosting_store (s : State) : s.endPosting.store = s.store := by
  unfold State.endPosting State.takeNext
  split
  · rfl
  · split <;> rfl

theorem State.endPosting_copy (s : State) : s.endPosting.engine.copy = s.engine.copy := by
  unfold State.endPosting State.takeNext
  split
  · rfl
  · split <;> rfl

/-- A bare refusal leaves the engine's record, wherever it is reported (R17). -/
theorem State.refuseBare_copy (s : State) (p : Posting) (r : Reason) :
    (s.refuseBare p r).engine.copy = s.engine.copy := by
  rw [State.refuseBare, State.endPosting_copy, State.report_engine]

/-- A bare refusal of a rostrum's or the desk's posting writes nothing (R17). -/
theorem State.refuseBare_store {p : Posting} (h : (∃ r, p.source = .rostrum r) ∨ p.source = .desk) (r : Reason) :
    (s.refuseBare p r).store = s.store := by
  rw [State.refuseBare, State.endPosting_store]
  rcases h with ⟨n, h⟩ | h <;> simp only [State.report, h] <;> rfl

/-- A bare refusal at the desk: REFUSED with its reason and no sequence number (R17, R77). -/
theorem State.refuseBare_desk {p : Posting} (h : p.source = .desk) (r : Reason) :
    (s.refuseBare p r).desk.get deskSlot = ⟨.refused, some r, none, none, false, 0⟩ := by
  rw [State.refuseBare, (State.endPosting_stations _).desk]
  simp only [State.report, h, State.handBayImage, bayImage, State.reportDesk, State.setDesk, State.raise_desk,
    bank_get_set]
  rfl

/-! ## FORMAT refused -/

theorem allBank_eq_true {α : Type} {n : Nat} {v : Vector α n} {f : α → Bool} :
    allBank v f = true ↔ ∀ i : Fin n, f (v.get i) = true := by
  simp only [allBank, List.all_eq_true, Vector.mem_toList_iff, Vector.mem_iff_getElem, Vector.get_eq_getElem]
  constructor
  · exact fun h i => h _ ⟨i, i.isLt, rfl⟩
  · rintro h x ⟨i, hi, rfl⟩
    exact h ⟨i, hi⟩

/-- Every bay is IDLE exactly when each one's copy says so (R31). -/
theorem State.baysIdle_eq_true : s.baysIdle = true ↔ ∀ b : Fin 6, (s.bay b).copy.state = bayIdle := by
  simp only [State.baysIdle, allBank_eq_true, beq_iff_eq, State.bay]

/-- FORMAT refused in a FORMATTED hall is its refusal written (R18, R31). -/
theorem exec_format_refuses {p : Posting} {r : Reason} (hand : s.inHand .format = some p)
    (fmt : s.isFormatted = true) (room : s.journalFull = false) (refusal : s.formatRefusal = some r) :
    refusesWith .format s p r := by
  have row : s.formatRow = s.applyFormat p undisturbed := by simp only [State.formatRow, hand]
  have refused : s.applyFormat p undisturbed = (s.placeGuard [.engine]).refuse p r := by
    simp only [State.applyFormat, refusal, fmt, if_true]
  rw [State.placeGuard_engineRecord] at refused
  exact congrArg _ (row.trans (refused.trans (State.under_refuse room _ _ p r)))

/-! ## Unknown kinds -/

section UnknownKind

variable {p : Posting} (applying : s.engine.state = .applying) (taken : s.engine.work = .taken p)
  (unknown : p.kindOf = none)
include applying taken unknown

theorem State.unknownRow_applies : s.unknownRow = s.applyUnknown p := by
  simp only [State.unknownRow, applying, taken, unknown, if_true]

/-- An unknown kind in a FORMATTED hall, its engine record good, is refused with an entry (R12, R17). -/
theorem exec_unknownKind_refuses (fmt : s.isFormatted = true) (room : s.journalFull = false)
    (reads : s.readable []) : refusesWith .unknownKind s p .unknownKind := by
  have good : s.recordFails .engine = false := (Bool.or_eq_false_iff.1 reads).1
  have applied : s.applyUnknown p =
      if s.isFormatted then
        (s.under (distinct (s.engine.guard ++ [.engine])) ⟨.office, .cache⟩).refuse p
          (if s.recordFails .engine then .storeError else .unknownKind)
      else s.refuseBare p .unknownKind := rfl
  rw [fmt, good] at applied
  exact congrArg _ ((State.unknownRow_applies applying taken unknown).trans
    (applied.trans (State.under_refuse room _ _ p .unknownKind)))

/-- An unknown kind in a hall that is not FORMATTED is refused bare (R17). -/
theorem exec_unknownKind_bare (fmt : s.isFormatted = false) :
    exec .unknownKind s = .next (s.refuseBare p .unknownKind) := by
  refine congrArg _ ((State.unknownRow_applies applying taken unknown).trans ?_)
  simp only [State.applyUnknown, fmt, Bool.false_eq_true, if_false]

end UnknownKind

/-- Settles O53: each refusal is found before any check of the kind's own. -/
theorem commonChecksRefuse : Obligations.CommonChecksRefuse := by
  unfold Obligations.CommonChecksRefuse
  intro s p
  refine ⟨fun applying taken unknown => ⟨fun fmt room reads => ?_, fun fmt source => ?_⟩, fun k => ?_,
    fun k i row notFormat hand => ⟨fun fmt => ?_, fun fmt ready struck => ?_, fun r fmt ready clean mode => ?_⟩,
    fun hand fmt ready => ⟨fun trading => ?_, fun setup busy => ?_⟩,
    fun applies clean => ⟨fun zero => ?_, fun nonzero other => ?_⟩⟩
  · exact exec_unknownKind_refuses applying taken unknown fmt room reads
  · exact ⟨_, exec_unknownKind_bare applying taken unknown fmt, State.refuseBare_store source _,
      s.refuseBare_copy p _, fun desk => State.refuseBare_desk desk _⟩
  · cases k <;> decide
  · obtain ⟨plan, e, -⟩ := row_applies row notFormat s
    refine ⟨_, by rw [e, State.applyRow_bare hand fmt], rfl, s.refuseBare_copy p _, fun desk => ?_⟩
    exact ⟨State.refuseBare_store (.inr desk) _, State.refuseBare_desk desk _⟩
  · obtain ⟨plan, e, -⟩ := row_applies row notFormat s
    have first : s.anyFails (.engine :: (plan p).first) = true := by simp [State.anyFails, struck]
    exact e.trans (congrArg _ (State.applyRow_struck hand fmt ready first))
  · obtain ⟨plan, e, steady⟩ := row_applies row notFormat s
    exact e.trans (congrArg _ (State.applyRow_modeRefused hand fmt ready mode (steady p)
      (State.readable_of_clean clean _)))
  · exact exec_format_refuses hand fmt ready.1 (by simp [State.formatRefusal, trading, modeRefusal, firstFail])
  · have notIdle : s.baysIdle = false := by
      rw [Bool.eq_false_iff, Ne, State.baysIdle_eq_true]
      exact not_forall.2 busy
    exact exec_format_refuses hand fmt ready.1
      (by simp [State.formatRefusal, setup, modeRefusal, PostKind.inSetup, firstFail, notIdle])
  · have fails : firstFail [(p.params.w0 != 0, Reason.badValue),
        (p.params.w0 == s.engine.copy.day, .dayMismatch)] = some .badValue := by
      rw [zero]; rfl
    exact congrArg _ (State.applyRow_refuses (plan := dayClosePlan) applies (fun _ _ => ⟨rfl, rfl⟩)
      (State.readable_of_clean clean _) (checked_refuses fails .close))
  · have fails : firstFail [(p.params.w0 != 0, Reason.badValue),
        (p.params.w0 == s.engine.copy.day, .dayMismatch)] = some .dayMismatch := by
      simp only [firstFail, bne_iff_ne.2 nonzero, beq_false_of_ne other, if_true, Bool.false_eq_true, if_false]
    exact congrArg _ (State.applyRow_refuses (plan := dayClosePlan) applies (fun _ _ => ⟨rfl, rfl⟩)
      (State.readable_of_clean clean _) (checked_refuses fails .close))

end Sys2Proof.Machine
end

section
/-! Reports at the stations (R20): what each sets at its own channel, and what every report leaves. -/

namespace Sys2Proof.Machine

/-! ## What a report leaves -/

/-- What no report touches: the clock but for its close request, the settle copies and the tariff band; and
every flag that stands stays. -/
structure SameFixtures (s t : State) : Prop where
  clock : t.clock = { s.clock with request := t.clock.request }
  settle : t.weigh.settle = s.weigh.settle
  band : t.ice.band = s.ice.band
  noticed : ∀ n : Notice, s.noticed n = true → t.noticed n = true
  indicated : ∀ i : Nat, s.notices.quayFlags.getLsbD i = true → t.notices.quayFlags.getLsbD i = true

namespace SameFixtures

theorem refl (s : State) : SameFixtures s s := ⟨rfl, rfl, rfl, fun _ h => h, fun _ h => h⟩

theorem trans {s t u : State} (h : SameFixtures s t) (k : SameFixtures t u) : SameFixtures s u :=
  ⟨by rw [k.clock, h.clock], k.settle.trans h.settle, k.band.trans h.band,
    fun n hn => k.noticed n (h.noticed n hn), fun i hi => k.indicated i (h.indicated i hi)⟩

theorem of_stations {s t : State} (h : SameStations s t) : SameFixtures s t :=
  ⟨by rw [h.clock], by rw [h.weigh], by rw [h.ice], h.noticed, fun i hi => by rw [h.quayFlags]; exact hi⟩

end SameFixtures

variable (s : State)

theorem State.raise_fixtures (n : Notice) : SameFixtures s (s.raise n) := .of_stations (s.raise_stations n)
theorem State.indicate_fixtures (i : Nat) : SameFixtures s (s.indicate i) :=
  ⟨rfl, rfl, rfl, fun _ h => h, fun j hj => by
    simp only [State.indicate, BitVec.getLsbD_or, hj, Bool.true_or]⟩
theorem State.indicateIf_fixtures (c : Bool) (i : Nat) : SameFixtures s (s.indicateIf c i) := by
  cases c
  · exact .refl s
  · exact s.indicate_fixtures i
theorem State.setBay_fixtures (b : Fin 6) (c : BayChannel) : SameFixtures s (s.setBay b c) :=
  ⟨rfl, rfl, rfl, fun _ h => h, fun _ h => h⟩
theorem State.setScale_fixtures (n : Fin 8) (c : ScaleChannel) : SameFixtures s (s.setScale n c) :=
  ⟨rfl, rfl, rfl, fun _ h => h, fun _ h => h⟩
theorem State.setReader_fixtures (r : Fin 12) (c : ReaderChannel) : SameFixtures s (s.setReader r c) :=
  ⟨rfl, rfl, rfl, fun _ h => h, fun _ h => h⟩
theorem State.setDesk_fixtures (slot : Fin 3) (t : Status) : SameFixtures s (s.setDesk slot t) :=
  ⟨rfl, rfl, rfl, fun _ h => h, fun _ h => h⟩
theorem State.serve_fixtures (rs : List Request) : SameFixtures s (s.serve rs) := by
  obtain ⟨m, a, e⟩ := s.serve_eq rs
  rw [e]
  exact ⟨rfl, rfl, rfl, fun _ h => h, fun _ h => h⟩
theorem State.setBayCopy_fixtures (b : Fin 6) (r : BayRecord) : SameFixtures s (s.setBayCopy b r) :=
  (s.setBay_fixtures _ _).trans (State.indicateIf_fixtures _ _ _)
theorem State.bayTransition_fixtures (b : Fin 6) (r : BayRecord) : SameFixtures s (s.bayTransition b r) := by
  unfold State.bayTransition
  dsimp only
  split
  · exact (s.setBayCopy_fixtures b r).trans (State.setBay_fixtures _ _ _)
  · exact s.setBayCopy_fixtures b r
theorem State.bayChange_fixtures (b : Fin 6) (r : BayRecord) (ps : List Nat) (rs : List Request) :
    SameFixtures s (s.bayChange b r ps rs) :=
  (s.bayTransition_fixtures b r).trans (State.serve_fixtures _ _)
theorem State.bayStatus_fixtures (b : Fin 6) (t : Status) : SameFixtures s (s.bayStatus b t) :=
  (s.setBay_fixtures _ _).trans (State.indicate_fixtures _ _)
theorem State.stall_fixtures (b : Fin 6) (ps : List Nat) : SameFixtures s (s.stall b ps) :=
  (s.bayChange_fixtures _ _ _ _).trans (State.raise_fixtures _ _)
theorem State.bayApplied_fixtures (b : Fin 6) (r : BayRecord) (q : Option Word) :
    SameFixtures s (s.bayApplied b r q) :=
  (s.setBayCopy_fixtures b r).trans (State.bayStatus_fixtures _ _ _)
theorem State.reportDesk_fixtures (slot : Fin 3) (t : Status) : SameFixtures s (s.reportDesk slot t) :=
  (s.setDesk_fixtures slot t).trans (State.raise_fixtures _ _)
theorem State.settleRefused_fixtures (b : Fin 6) (p : Posting) (r : Reason) (t : Status) :
    SameFixtures s (s.settleRefused b p r t) := by
  unfold State.settleRefused
  dsimp only
  split
  · exact (s.bayStatus_fixtures b t).trans (State.setBay_fixtures _ _ _)
  · exact s.bayStatus_fixtures b t
  · exact (s.bayStatus_fixtures b t).trans (State.stall_fixtures _ _ _)
theorem State.reportBay_fixtures (b : Fin 6) (p : Posting) (r : Option Reason) (q : Option Word)
    (is : List Image) : SameFixtures s (s.reportBay b p r q is) := by
  unfold State.reportBay
  split
  · split
    · exact (s.bayStatus_fixtures b _).trans (State.bayChange_fixtures _ _ _ _ _)
    · exact s.settleRefused_fixtures _ _ _ _
  · split
    · exact s.bayApplied_fixtures _ _ _
    · exact .refl s
theorem State.handBayImage_fixtures (is : List Image) (q : Option Word) :
    SameFixtures s (s.handBayImage is q) := by
  unfold State.handBayImage
  split
  · exact s.bayApplied_fixtures _ _ _
  · exact .refl s
/-- A report leaves the fixtures of the machine as they are (R20). -/
theorem State.report_fixtures (p : Posting) (r : Option Reason) (q v : Option Word) (is : List Image) :
    SameFixtures s (s.report p r q v is) := by
  unfold State.report
  dsimp only
  split
  · exact s.reportDesk_fixtures _ _
  · exact (s.handBayImage_fixtures _ _).trans (State.reportDesk_fixtures _ _ _)
  · exact (s.setScale_fixtures _ _).trans (State.indicate_fixtures _ _)
  · exact ((s.setReader_fixtures _ _).trans (State.setReader_fixtures _ _ _)).trans
      (State.indicate_fixtures _ _)
  · exact s.reportBay_fixtures _ _ _ _ _
  · exact ⟨rfl, rfl, rfl, fun _ h => h, fun _ h => h⟩

/-! ## Bays -/

@[simp] theorem State.setBayCopy_bay (b d : Fin 6) (r : BayRecord) :
    (s.setBayCopy b r).bay d = if d = b then { s.bay b with copy := r } else s.bay d := by
  simp [State.setBayCopy]

@[simp] theorem State.bayStatus_bay (b d : Fin 6) (t : Status) :
    (s.bayStatus b t).bay d = if d = b then { s.bay b with status := t } else s.bay d := by
  simp [State.bayStatus]

/-- A bay's STATUS set shows in its indication (R163, log 40). -/
theorem State.bayStatus_indicated (b : Fin 6) (t : Status) :
    (s.bayStatus b t).notices.quayFlags.getLsbD (bayPlace b) = true :=
  State.indicate_set _ _ (by simp only [bayPlace]; omega)

variable {s}

/-- No record is guarded under an empty guard set. -/
theorem State.guarded_of_empty (h : s.engine.guard = []) (r : RecordId) : s.guarded r = false := by
  simp [State.guarded, h]

/-- The Ice Unit's transition of a record that is not guarded: the copy alone (R149). -/
theorem State.bayTransition_free {b : Fin 6} (free : s.guarded (.bay b.val) = false) (r : BayRecord) :
    s.bayTransition b r = s.setBayCopy b r := by
  have same : (s.setBayCopy b r).guarded (.bay b.val) = false := by
    simpa only [State.guarded, State.setBayCopy_engine] using free
  simp only [State.bayTransition, same, Bool.false_eq_true, if_false]

/-- The Ice Unit's change of a record that is not guarded: the copy, and the record's words (R149). -/
theorem State.bayChange_free {b : Fin 6} (free : s.guarded (.bay b.val) = false) (r : BayRecord)
    (ps : List Nat) :
    s.bayChange b r ps = (s.setBayCopy b r).write (.inner .ice) (bayWordWrites (s.bayAddr b.val) r ps) := by
  rw [State.bayChange, State.bayTransition_free free, State.bayRequests, free]
  simp only [Bool.false_eq_true, if_false, List.append_nil]
  exact State.serve_requests _ _ _

theorem State.bayStatus_guarded (b : Fin 6) (t : Status) (r : RecordId) :
    (s.bayStatus b t).guarded r = s.guarded r := by
  simp only [State.guarded, State.bayStatus_engine]

/-- The bays after an applied bay image (R158, R160, R164). -/
theorem State.bayApplied_bay (b d : Fin 6) (r : BayRecord) (q : Option Word) :
    (s.bayApplied b r q).bay d =
      if d = b then { s.bay b with
        copy := r
        status := if r.state = bayDispensing then ⟨.go, none, q, none, false, 0⟩
          else ⟨.settled, none, q, none, decide (r.requested.toNat < r.delivered.toNat), 0⟩ }
      else s.bay d := by
  simp only [State.bayApplied, State.bayStatus_bay, State.setBayCopy_bay, if_true]
  by_cases h : d = b
  · simp only [h, if_true]
    split <;> rfl
  · simp only [h, if_false]

/-- The bays after a refused ICE_HOLD, its record not guarded (R158). -/
theorem State.holdRefused_bay {b : Fin 6} (free : s.guarded (.bay b.val) = false) (d : Fin 6) (t : Status) :
    (s.holdRefused b t).bay d =
      if d = b then { s.bay b with status := t, copy := { (s.bay b).copy with state := bayIdle } }
      else s.bay d := by
  rw [State.holdRefused, State.bayChange_free (by rw [State.bayStatus_guarded]; exact free)]
  by_cases h : d = b <;> simp [h]

/-- The bays after a refused ICE_SETTLE, its record not guarded (R161). -/
theorem State.settleRefused_bay {b : Fin 6} (free : s.guarded (.bay b.val) = false) (d : Fin 6) (p : Posting)
    (r : Reason) (t : Status) :
    (s.settleRefused b p r t).bay d =
      if d = b then
        match r with
        | .storeError => { s.bay b with status := t, pending := some p }
        | .notDispensing => { s.bay b with status := t }
        | _ => { s.bay b with status := t, copy := { (s.bay b).copy with state := bayStalled } }
      else s.bay d := by
  have stalled : ((s.bayStatus b t).stall b [0]).bay d =
      if d = b then { s.bay b with status := t, copy := { (s.bay b).copy with state := bayStalled } }
      else s.bay d := by
    rw [State.stall, State.bayChange_free (by rw [State.bayStatus_guarded]; exact free)]
    by_cases h : d = b <;> simp [h]
  cases r with
  | storeError => by_cases h : d = b <;> simp [State.settleRefused, h]
  | notDispensing => by_cases h : d = b <;> simp [State.settleRefused, h]
  | _ => exact stalled

/-! ## The report of each source -/

theorem reportStatus_eq (reason : Option Reason) (seq value : Option Word) :
    reportStatus reason seq value =
      ⟨if reason = none then .applied else .refused, reason, seq, value, false, 0⟩ := by
  cases reason <;> rfl

section Sources

variable {p : Posting} (reason : Option Reason) (q v : Option Word) (is : List Image)

theorem State.report_scale {n : Fin 8} (source : p.source = .scale n) (m : Fin 8) :
    (s.report p reason q v is).scale m =
      if m = n then { s.scale n with
        status := reportStatus reason q v
        commit := if reason = none ∧ (s.scale n).state ≠ .empty ∧
            (s.scale n).commit = .pending (s.scale n).load then .committed else .opened }
      else s.scale m := by
  have commit : (if (s.scale n).current && reason.isNone then CommitState.committed else .opened) =
      if reason = none ∧ (s.scale n).state ≠ .empty ∧
        (s.scale n).commit = .pending (s.scale n).load then .committed else .opened := by
    refine if_congr ?_ rfl rfl
    simp [ScaleChannel.current, and_comm]
  simp only [State.report, source, State.reportScale, State.indicate_scale, State.scale_setScale, commit]

theorem State.report_scale_indicated {n : Fin 8} (source : p.source = .scale n) :
    (s.report p reason q v is).notices.quayFlags.getLsbD (scalePlace n) = true := by
  simp only [State.report, source, State.reportScale]
  exact State.indicate_set _ _ (by simp only [scalePlace]; omega)

theorem State.report_reader {g : Fin 4} (source : p.source = .gate g) (r : Fin 12) :
    (s.report p reason q v is).reader r =
      if r = gateReader g then { s.reader (gateReader g) with
        held := false
        status := { reportStatus reason q v with crate := (s.reader (gateReader g)).status.crate } }
      else s.reader r := by
  simp only [State.report, source, State.reportGate, State.readerStatus, State.indicate_reader,
    State.reader_setReader, if_true]
  by_cases h : r = gateReader g <;> simp [h]

theorem State.report_reader_indicated {g : Fin 4} (source : p.source = .gate g) :
    (s.report p reason q v is).notices.quayFlags.getLsbD (readerPlace (gateReader g)) = true := by
  simp only [State.report, source, State.reportGate, State.readerStatus]
  exact State.indicate_set _ _ (by simp only [readerPlace]; omega)

theorem State.report_rostrum {r : Fin 2} (source : p.source = .rostrum r) (slot : Fin 3) :
    (s.report p reason q v is).desk.get slot =
      if slot = rostrumSlot r then reportStatus reason q v else s.desk.get slot := by
  simp only [State.report, source, State.reportDesk, State.raise_desk, State.setDesk, bank_get_set]

theorem State.handBayImage_desk : (s.handBayImage is q).desk = s.desk := by
  unfold State.handBayImage
  split
  · simp [State.bayApplied, State.bayStatus, State.setBayCopy]
  · rfl

theorem State.report_desk (source : p.source = .desk) (slot : Fin 3) :
    (s.report p reason q v is).desk.get slot =
      if slot = deskSlot then reportStatus reason q v else s.desk.get slot := by
  simp only [State.report, source, State.reportDesk, State.raise_desk, State.setDesk, bank_get_set,
    State.handBayImage_desk]

theorem State.report_desk_ice (source : p.source = .desk) :
    (s.report p reason q v is).ice = (s.handBayImage is q).ice := by
  simp only [State.report, source]
  rfl

/-- The report of a rostrum's or the desk's posting raises DESK (R77). -/
theorem State.report_noticed_desk (source : (∃ r, p.source = .rostrum r) ∨ p.source = .desk) :
    (s.report p reason q v is).noticed .desk = true := by
  rcases source with ⟨r, h⟩ | h <;> simp only [State.report, h] <;> exact State.raise_noticed _ _

end Sources

end Sys2Proof.Machine
end

section
/-! O58: what the end of a posting reports to its source (R20). -/

namespace Sys2Proof.Machine

/-- A bay that takes an applied bay image: its copy, its STATUS and its indication (R158, R160, R164). -/
theorem State.bayApplied_taken (u : State) (b : Fin 6) (c : BayRecord) (q : Option Word) :
    (u.bayApplied b c q).bay b = { u.bay b with
        copy := c
        status := if c.state = bayDispensing then ⟨.go, none, q, none, false, 0⟩
          else ⟨.settled, none, q, none, decide (c.requested.toNat < c.delivered.toNat), 0⟩ } ∧
      (u.bayApplied b c q).notices.quayFlags.getLsbD (bayPlace b) = true :=
  ⟨by rw [State.bayApplied_bay, if_pos rfl], State.bayStatus_indicated _ _ _⟩

/-- The refusal of a bay's own posting shows in its indication (R158, R161). -/
theorem State.reportBay_refused_indicated (u : State) (b : Fin 6) (p : Posting) (r : Reason) (q : Option Word)
    (is : List Image) :
    (u.reportBay b p (some r) q is).notices.quayFlags.getLsbD (bayPlace b) = true := by
  have set := u.bayStatus_indicated b (reportStatus (some r) q none)
  simp only [State.reportBay]
  split
  · exact (State.bayChange_fixtures _ _ _ _ _).indicated _ set
  · unfold State.settleRefused
    dsimp only
    split
    · exact (State.setBay_fixtures _ _ _).indicated _ set
    · exact set
    · exact (State.stall_fixtures _ _ _).indicated _ set

/-- A refused ICE_SETTLE that stalls its bay raises STALL (R161). -/
theorem State.settleRefused_stalls (u : State) (b : Fin 6) (p : Posting) {r : Reason} (t : Status)
    (parity : r ≠ .storeError) (dispensing : r ≠ .notDispensing) :
    (u.settleRefused b p r t).noticed .stall = true := by
  cases r with
  | storeError => exact absurd rfl parity
  | notDispensing => exact absurd rfl dispensing
  | _ => exact State.raise_noticed _ _

/-- A bay's report leaves every other bay; an applied one names the bay of its image (R20). -/
theorem State.reportBay_other {u : State} {b e : Fin 6} (free : u.guarded (.bay b.val) = false)
    (other : e ≠ b) (p : Posting) (reason : Option Reason) (q : Option Word) (is : List Image) :
    (u.reportBay b p reason q is).bay e = u.bay e := by
  unfold State.reportBay
  split
  · split
    · rw [State.holdRefused_bay free, if_neg other]
    · rw [State.settleRefused_bay free, if_neg other]
  · split
    · rw [State.bayApplied_bay, if_neg other]
    · rfl

/-- Settles O58: the end of a posting changes the stations by its report alone, which sets its source's. -/
theorem reportsReachStations : Obligations.ReportsReachStations := by
  unfold Obligations.ReportsReachStations
  intro s d
  obtain ⟨u, before, unguarded, after⟩ := s.writeDueEntry_stations d
  have free (r : RecordId) : u.guarded r = false := State.guarded_of_empty unguarded r
  have shown (i : Nat) (h : (u.report d.posting d.entry.reason (some s.engine.copy.head) d.value
      d.entry.images).notices.quayFlags.getLsbD i = true) :
      (s.writeDueEntry d).notices.quayFlags.getLsbD i = true := by rw [after.quayFlags]; exact h
  refine ⟨fun n source => ⟨?_, ?_, fun m other => ?_⟩, fun g source => ⟨?_, ?_, fun r other => ?_⟩,
    fun r source => ⟨?_, ?_, fun slot other => ?_⟩, fun source => ⟨?_, ?_, fun b c image => ?_, fun none => ?_,
      fun slot other => ?_⟩, fun source => ?_, fun b source => ⟨fun e c applied image => ?_,
      fun r refused => ⟨?_, fun hold => ?_, fun settle => ⟨fun parity => ?_, fun dispensing => ?_,
        fun parity dispensing => ⟨?_, ?_⟩⟩⟩, fun e other => ?_⟩⟩
  · rw [after.scale, State.report_scale _ _ _ _ source, if_pos rfl, reportStatus_eq, before.scale]
  · exact shown _ (State.report_scale_indicated _ _ _ _ source)
  · rw [after.scale, State.report_scale _ _ _ _ source, if_neg other, before.scale]
  · rw [after.reader, State.report_reader _ _ _ _ source, if_pos rfl, reportStatus_eq, before.reader]
  · exact shown _ (State.report_reader_indicated _ _ _ _ source)
  · rw [after.reader, State.report_reader _ _ _ _ source, if_neg other, before.reader]
  · rw [after.desk, State.report_rostrum _ _ _ _ source, if_pos rfl, reportStatus_eq]
  · exact after.noticed _ (State.report_noticed_desk _ _ _ _ (.inl ⟨r, source⟩))
  · rw [after.desk, State.report_rostrum _ _ _ _ source, if_neg other, before.desk]
  · rw [after.desk, State.report_desk _ _ _ _ source, if_pos rfl, reportStatus_eq]
  · exact after.noticed _ (State.report_noticed_desk _ _ _ _ (.inr source))
  · have handed : u.handBayImage d.entry.images (some s.engine.copy.head) =
        u.bayApplied b c (some s.engine.copy.head) := by simp only [State.handBayImage, image]
    obtain ⟨bay, set⟩ := u.bayApplied_taken b c (some s.engine.copy.head)
    rw [before.bay] at bay
    refine ⟨?_, shown _ ?_⟩
    · rw [after.bay, State.bay, State.report_desk_ice _ _ _ _ source, handed]
      exact bay
    · simp only [State.report, source, handed]
      exact set
  · rw [after.ice, State.report_desk_ice _ _ _ _ source, State.handBayImage, none, before.ice]
  · rw [after.desk, State.report_desk _ _ _ _ source, if_neg other, before.desk]
  · rw [after.clock]
    simp only [State.report, source]
  · obtain ⟨bay, set⟩ := u.bayApplied_taken b c (some s.engine.copy.head)
    rw [before.bay] at bay
    have reported : u.report d.posting d.entry.reason (some s.engine.copy.head) d.value d.entry.images =
        u.bayApplied b c (some s.engine.copy.head) := by
      simp only [State.report, source, State.reportBay, applied, image]
    rw [reported] at after shown
    exact ⟨by rw [after.bay]; exact bay, shown _ set⟩
  · refine shown _ ?_
    simp only [State.report, source, refused]
    exact State.reportBay_refused_indicated _ _ _ _ _ _
  · rw [after.bay]
    simp only [State.report, source, refused, State.reportBay, hold, if_true]
    rw [State.holdRefused_bay (free _), if_pos rfl, before.bay, reportStatus_eq]
    rfl
  · rw [after.bay]
    simp only [State.report, source, refused, State.reportBay, settle, if_false]
    rw [State.settleRefused_bay (free _), if_pos rfl, before.bay, reportStatus_eq, parity]
    rfl
  · rw [after.bay]
    simp only [State.report, source, refused, State.reportBay, settle, if_false]
    rw [State.settleRefused_bay (free _), if_pos rfl, before.bay, reportStatus_eq, dispensing]
    rfl
  · apply after.noticed
    simp only [State.report, source, refused, State.reportBay, settle, if_false]
    exact State.settleRefused_stalls _ _ _ _ parity dispensing
  · rw [after.bay]
    simp only [State.report, source, refused, State.reportBay, settle, if_false]
    rw [State.settleRefused_bay (free _), if_pos rfl, before.bay, reportStatus_eq]
    cases r with
    | storeError => exact absurd rfl parity
    | notDispensing => exact absurd rfl dispensing
    | _ => rfl
  · rw [after.bay]
    simp only [State.report, source]
    rw [State.reportBay_other (free _) other, before.bay]

end Sys2Proof.Machine
end

section
/-! What the end of a posting writes and leaves (R14 to R23, R47): the entry's words as one list, the store
words of its report, and the engine's next state. -/

namespace Sys2Proof.Machine

/-! ## Lists of words -/

theorem Memory.putAll_append (m : Memory) (xs ys : List (Nat × Word)) :
    m.putAll (xs ++ ys) = (m.putAll xs).putAll ys := by
  induction xs generalizing m with
  | nil => rfl
  | cons x xs ih => exact ih _

/-- Consecutive words lie in the range that their number takes. -/
theorem wordsAt_range {a : Nat} {ws : List Word} {w : Nat × Word} (h : w ∈ wordsAt a ws) :
    a ≤ w.1 ∧ w.1 + 4 ≤ a + 4 * ws.length := by
  induction ws generalizing a with
  | nil => cases h
  | cons v vs ih =>
    rcases List.mem_cons.1 h with rfl | h
    · simp only [List.length_cons]; omega
    · have := ih h
      simp only [List.length_cons]; omega

theorem engineWrites_range {a : Nat} {old new : EngineRecord} {w : Nat × Word}
    (h : w ∈ engineWrites a old new) : a ≤ w.1 ∧ w.1 + 4 ≤ a + 16 := by
  simp only [engineWrites, List.mem_append] at h
  rcases h with ((h | h) | h) | h <;> split at h <;> simp at h <;> subst h <;> dsimp only <;> omega

/-! ## The words of an entry -/

/-- Steps 1 to 3 of R47, as writes. -/
def State.openWrites (s : State) (e : JournalEntry) (new : EngineRecord) (state : Word) : List (Nat × Word) :=
  let seq := s.engine.copy.head
  let a := s.entryAddr (entrySlot seq)
  (a, entryEmpty) ::
    wordsAt (a + 4) (e.bodyWords seq (.engine new.dayState new.head new.nextLot new.day)) ++ [(a, state)]

/-- The entry's slot and its images' words: every write of R47 but the engine record's. -/
def State.slotWrites (s : State) (e : JournalEntry) (new : EngineRecord) : List (Nat × Word) :=
  let seq := s.engine.copy.head
  if e.images.isEmpty then s.openWrites e new entryDone
  else s.openWrites e new entryPending ++
    (e.images.flatMap (Image.writes s seq) ++ [(s.entryAddr (entrySlot seq), entryDone)])

/-- Every write of an entry, in the order of R47. -/
def State.entryWrites (s : State) (e : JournalEntry) (new : EngineRecord) : List (Nat × Word) :=
  s.slotWrites e new ++ engineWrites s.engineAddr s.engine.copy new

/-- An image's words lie where the profile's bases put them. -/
theorem Image.writes_shell {s t : State} (h : SameShell s t) (i : Image) (seq : Word) :
    i.writes t seq = i.writes s seq := by
  have base (b : Fin 7) : t.base b = s.base b := h.base b
  cases i <;> simp only [Image.writes, State.accountAddr, State.lotAddr, State.crateAddr, State.bayAddr, base]

theorem State.writeImages_store {s t : State} (h : SameShell s t) (seq : Word) (is : List Image) :
    (t.writeImages seq is).store = t.store.putAll (is.flatMap (Image.writes s seq)) := by
  induction is generalizing t with
  | nil => rfl
  | cons i is ih =>
    rw [State.writeImages, ih (h.trans (t.write_shell _ _)), List.flatMap_cons, Memory.putAll_append,
      State.write_store, Image.writes_shell h]

theorem State.engineAddr_shell {s t : State} (h : SameShell s t) : t.engineAddr = s.engineAddr := by
  simp only [State.engineAddr, h.base]

theorem State.entryAddr_shell {s t : State} (h : SameShell s t) (slot : Nat) :
    t.entryAddr slot = s.entryAddr slot := by
  simp only [State.entryAddr, h.base]

/-- An engine record written over a state of the same shell and the same copy. -/
theorem State.setEngineRecord_store {s t : State} (h : SameShell s t) (same : t.engine = s.engine)
    (new : EngineRecord) :
    (t.setEngineRecord new).store = t.store.putAll (engineWrites s.engineAddr s.engine.copy new) := by
  rw [← State.engineAddr_shell h, ← same]
  rfl

/-- An entry is its writes, in their order (R47). -/
theorem State.writeEntry_store (s : State) (e : JournalEntry) (new : EngineRecord) :
    (s.writeEntry e new).store = s.store.putAll (s.entryWrites e new) := by
  have opened (st : Word) : SameShell s (s.openEntry e s.engine.copy.head
      (.engine new.dayState new.head new.nextLot new.day) st) := s.openEntry_shell _ _ _ _
  unfold State.writeEntry State.entryWrites State.slotWrites
  dsimp only
  rw [State.raise_store, Memory.putAll_append]
  split
  · exact State.setEngineRecord_store (opened _) rfl new
  · have images := (opened entryPending).trans (State.writeImages_shell _ s.engine.copy.head e.images)
    rw [State.setEngineRecord_store (images.trans (State.closeEntry_shell _ _)) (by simp),
      State.closeEntry, State.write_store, State.writeImages_store (opened _), State.entryAddr_shell images,
      Memory.putAll_append, Memory.putAll_append]
    rfl

theorem JournalEntry.bodyWords_length (e : JournalEntry) (seq : Word) (i : Image) :
    (e.bodyWords seq i).length = 63 := by
  rw [JournalEntry.bodyWords, List.length_take, List.length_append, List.length_replicate]
  omega

/-- The writes that open an entry lie in its slot (R34). -/
theorem State.openWrites_range {s : State} {e : JournalEntry} {new : EngineRecord} {st : Word}
    {w : Nat × Word} (h : w ∈ s.openWrites e new st) :
    s.entryAddr (entrySlot s.engine.copy.head) ≤ w.1 ∧
      w.1 + 4 ≤ s.entryAddr (entrySlot s.engine.copy.head) + 256 := by
  simp only [State.openWrites, List.cons_append, List.mem_cons, List.mem_append, List.not_mem_nil,
    or_false] at h
  rcases h with rfl | h | rfl
  · dsimp only; omega
  · have := wordsAt_range h
    rw [JournalEntry.bodyWords_length] at this
    omega
  · dsimp only; omega

/-- Where the writes of an entry lie: its slot, its images' words, the engine record. -/
theorem State.entryWrites_range {s : State} {e : JournalEntry} {new : EngineRecord} {w : Nat × Word}
    (h : w ∈ s.entryWrites e new) :
    (s.entryAddr (entrySlot s.engine.copy.head) ≤ w.1 ∧
        w.1 + 4 ≤ s.entryAddr (entrySlot s.engine.copy.head) + 256) ∨
      (∃ i ∈ e.images, w ∈ i.writes s s.engine.copy.head) ∨
      (s.engineAddr ≤ w.1 ∧ w.1 + 4 ≤ s.engineAddr + 16) := by
  unfold State.entryWrites State.slotWrites at h
  dsimp only at h
  rcases List.mem_append.1 h with h | h
  · split at h
    · exact .inl (State.openWrites_range h)
    · rcases List.mem_append.1 h with h | h
      · exact .inl (State.openWrites_range h)
      · rcases List.mem_append.1 h with h | h
        · exact .inr (.inl (List.mem_flatMap.1 h))
        · cases List.mem_singleton.1 h
          exact .inl ⟨Nat.le_refl _, by dsimp only; omega⟩
  · exact .inr (.inr (engineWrites_range h))

/-! ## The store words of a report -/

theorem State.setBayCopy_store (s : State) (b : Fin 6) (r : BayRecord) : (s.setBayCopy b r).store = s.store := by
  simp [State.setBayCopy]
theorem State.bayStatus_store (s : State) (b : Fin 6) (t : Status) : (s.bayStatus b t).store = s.store := rfl
theorem State.bayApplied_store (s : State) (b : Fin 6) (r : BayRecord) (q : Option Word) :
    (s.bayApplied b r q).store = s.store := by
  rw [State.bayApplied, State.bayStatus_store, State.setBayCopy_store]

/-- The one store word that a refusal of a bay's own posting writes is its record's state word (R158, R161). -/
theorem State.stateChange_store {s : State} {b : Fin 6} (free : s.guarded (.bay b.val) = false)
    (r : BayRecord) :
    (s.bayChange b r [0]).store = s.store.putAll [(s.bayAddr b.val, r.headWord)] := by
  rw [State.bayChange_free free, State.write_store, State.setBayCopy_store]
  rfl

/-- A report writes no store word, but for a bay whose own posting is refused. -/
theorem State.report_store {s : State} {p : Posting} {reason : Option Reason}
    (quiet : ∀ b : Fin 6, p.source = .bay b → reason = none) (q v : Option Word) (is : List Image) :
    (s.report p reason q v is).store = s.store := by
  unfold State.report
  dsimp only
  split
  · rfl
  · show (s.handBayImage is q).store = s.store
    unfold State.handBayImage
    split
    · exact s.bayApplied_store _ _ _
    · rfl
  · rfl
  · rfl
  · next b source =>
    rw [quiet b source, State.reportBay]
    split
    · exact s.bayApplied_store _ _ _
    · rfl
  · rfl

/-- A bay whose own posting is refused: its report writes at most the state word of its record. -/
theorem State.report_store_refused {s : State} {p : Posting} {r : Reason} {b : Fin 6}
    (unguarded : s.engine.guard = []) (source : p.source = .bay b) (q v : Option Word) (is : List Image) :
    ∃ ws : List (Nat × Word), (s.report p (some r) q v is).store = s.store.putAll ws ∧
      ∀ w ∈ ws, w.1 = s.bayAddr b.val := by
  have one (c : BayRecord) (t : Status) : ∃ ws : List (Nat × Word),
      ((s.bayStatus b t).bayChange b c [0]).store = s.store.putAll ws ∧ ∀ w ∈ ws, w.1 = s.bayAddr b.val := by
    have free : (s.bayStatus b t).guarded (.bay b.val) = false := by
      rw [State.bayStatus_guarded]; exact State.guarded_of_empty unguarded _
    refine ⟨_, State.stateChange_store free c, fun w hw => ?_⟩
    cases List.mem_singleton.1 hw
    rfl
  have none : ∃ ws : List (Nat × Word), s.store = s.store.putAll ws ∧ ∀ w ∈ ws, w.1 = s.bayAddr b.val :=
    ⟨[], rfl, fun w hw => by cases hw⟩
  simp only [State.report, source, State.reportBay]
  split
  · exact one _ _
  · unfold State.settleRefused
    dsimp only
    split
    · exact none
    · exact none
    · exact one _ _

/-! ## The engine's next state -/

theorem State.haltAt_store (s : State) (c : HaltCause) : (s.haltAt c).store = s.store := rfl

/-- What the end of a posting comes to: its entry, its report, and the engine's next state. -/
theorem State.writeDueEntry_eq (s : State) (d : Due) :
    s.writeDueEntry d =
      let u := ((s.writeEntry d.entry (s.nextRecord d.nextLot)).withGuard []).report d.posting d.entry.reason
        (some s.engine.copy.head) d.value d.entry.images
      if d.halts then u.haltAt .posting else u.endPosting := rfl

theorem State.endPosting_paused {s : State} (step : s.engine.stepMode = true) (running : s.part ≠ .starting) :
    s.endPosting = ({ s with engine := { s.engine with state := .paused, work := .none } }).raise .paused := by
  simp [State.endPosting, step, running]

theorem State.endPosting_next {s : State} (h : s.engine.stepMode = false ∨ s.part = .starting) :
    s.endPosting = s.takeNext := by
  rcases h with h | h <;> simp [State.endPosting, h]

/-- What the end of a posting leaves in the engine (R14, R23). -/
theorem State.endPosting_engine_frame (s : State) :
    s.endPosting.engine = { s.engine with
      state := s.endPosting.engine.state, work := s.endPosting.engine.work,
      queue := s.endPosting.engine.queue } := by
  unfold State.endPosting State.takeNext
  split
  · rfl
  · split <;> rfl

/-- A byte outside everything that the end of a posting writes stays (R19, R47). -/
theorem State.writeDueEntry_byte {s : State} {d : Due} {x : Nat} (fuse : s.store.fuse = none)
    (slot : ¬ s.slotRange s.engine.copy.head x) (record : ¬ s.engineRange x)
    (images : ∀ i ∈ d.entry.images, outside (i.writes s s.engine.copy.head) x)
    (bay : ∀ b : Fin 6, d.posting.source = .bay b → d.entry.reason ≠ none →
      outside (wordsAt (s.bayAddr b.val) (s.bayRecord b.val).words) x) :
    (s.writeDueEntry d).store.byte x = s.store.byte x := by
  have entry : ((s.writeEntry d.entry (s.nextRecord d.nextLot)).withGuard []).store.byte x =
      s.store.byte x := by
    rw [State.withGuard_store, State.writeEntry_store]
    refine Memory.byte_putAll_outside fuse fun w hw => ?_
    rcases State.entryWrites_range hw with h | ⟨i, hi, h⟩ | h
    · simp only [State.slotRange] at slot; omega
    · exact images i hi w h
    · simp only [State.engineRange] at record; omega
  have entryFuse : ((s.writeEntry d.entry (s.nextRecord d.nextLot)).withGuard []).store.fuse = none := by
    rw [State.withGuard_store, State.writeEntry_store]
    exact Memory.putAll_fuse fuse _
  have ended : (s.writeDueEntry d).store =
      (((s.writeEntry d.entry (s.nextRecord d.nextLot)).withGuard []).report d.posting d.entry.reason
        (some s.engine.copy.head) d.value d.entry.images).store := by
    rw [State.writeDueEntry_eq]
    dsimp only
    split
    · rfl
    · exact State.endPosting_store _
  rw [ended]
  by_cases own : ∃ b : Fin 6, d.posting.source = .bay b ∧ d.entry.reason ≠ none
  · obtain ⟨b, source, refused⟩ := own
    obtain ⟨r, reason⟩ := Option.ne_none_iff_exists'.1 refused
    obtain ⟨ws, store, at_⟩ := State.report_store_refused (r := r)
      (s := (s.writeEntry d.entry (s.nextRecord d.nextLot)).withGuard []) rfl source
      (some s.engine.copy.head) d.value d.entry.images
    have address : ((s.writeEntry d.entry (s.nextRecord d.nextLot)).withGuard []).bayAddr b.val =
        s.bayAddr b.val := by
      simp only [State.bayAddr, State.withGuard_base, (s.writeEntry_shell _ _).base]
    rw [reason, store, Memory.byte_putAll_outside entryFuse, entry]
    intro w hw
    have apart := bay b source refused (s.bayAddr b.val, (s.bayRecord b.val).headWord) (List.mem_cons_self ..)
    rw [at_ w hw, address]
    exact apart
  · rw [State.report_store, entry]
    intro b source
    by_contra refused
    exact own ⟨b, source, refused⟩

/-- Settles O59: the entry changes the engine's record, the report only the stations, and the end only the
engine's state, work and queue. -/
theorem postingEndFrame : Obligations.PostingEndFrame := by
  unfold Obligations.PostingEndFrame
  intro s d
  have shell := s.writeDueEntry_shell d
  generalize hu : ((s.writeEntry d.entry (s.nextRecord d.nextLot)).withGuard []).report d.posting
    d.entry.reason (some s.engine.copy.head) d.value d.entry.images = u
  have engine : u.engine = { s.engine with copy := s.nextRecord d.nextLot, guard := [] } := by
    rw [← hu]; simp
  have part : u.part = s.part := by
    rw [← hu]
    exact (((s.writeEntry_shell _ _).trans (State.withGuard_shell _ _)).trans
      (State.report_shell _ _ _ _ _ _)).part
  have end_ : s.writeDueEntry d = if d.halts then u.haltAt .posting else u.endPosting := by
    rw [State.writeDueEntry_eq, ← hu]
  have fixtures : SameFixtures s (s.writeDueEntry d) := by
    obtain ⟨v, before, -, after⟩ := s.writeDueEntry_stations d
    exact ((SameFixtures.of_stations before).trans (v.report_fixtures _ _ _ _ _)).trans (.of_stations after)
  have journal : (s.writeDueEntry d).noticed .journal = true := by
    have written : ((s.writeEntry d.entry (s.nextRecord d.nextLot)).withGuard []).noticed .journal = true :=
      (State.withGuard_stations _ []).noticed _ (State.raise_noticed _ _)
    have reported : u.noticed .journal = true := by
      rw [← hu]
      exact (State.report_fixtures _ _ _ _ _ _).noticed _ written
    rw [end_]
    split
    · exact (State.haltAt_stations _ _).noticed _ reported
    · exact (State.endPosting_stations _).noticed _ reported
  have frame : ∃ st w q h, (s.writeDueEntry d).engine =
      { s.engine with copy := s.nextRecord d.nextLot, guard := [], state := st, work := w, queue := q,
                      halt := h } := by
    rw [end_]
    split
    · exact ⟨_, _, _, _, by rw [State.haltAt, State.raise_engine, engine]⟩
    · exact ⟨_, _, _, _, by rw [State.endPosting_engine_frame, engine]⟩
  obtain ⟨st, w, q, h, frame⟩ := frame
  refine ⟨by rw [frame]; rfl, by rw [frame], journal, shell.part, shell.rom, shell.profile, shell.first,
    shell.second, shell.copies, shell.cache, shell.fault, shell.shadows, fixtures.clock, by rw [frame],
    by rw [frame], by rw [frame], by rw [frame], by rw [frame], by rw [frame], fixtures.settle,
    fixtures.band, shell.pending, fun halts => ?_, fun goesOn => ⟨?_, fun step running => ?_,
      fun free => ⟨fun empty => ?_, fun q qs queue => ?_⟩⟩,
    fun fuse x slot record images bay => State.writeDueEntry_byte fuse slot record images bay⟩
  · rw [end_, if_pos halts]
    exact ⟨rfl, rfl, rfl, by simp [State.haltAt, engine], State.raise_noticed _ _⟩
  · rw [end_, if_neg (by simp [goesOn]), State.endPosting_engine_frame, engine]
  · rw [end_, if_neg (by simp [goesOn]), State.endPosting_paused (by rw [engine]; exact step)
      (by rw [part]; exact running)]
    exact ⟨rfl, rfl, by simp [engine], State.raise_noticed _ _⟩
  · rw [end_, if_neg (by simp [goesOn]), State.endPosting_next (by rw [engine, part]; exact free),
      State.takeNext_nil (by rw [engine]; exact empty)]
    exact ⟨rfl, rfl, by rw [engine]; exact empty⟩
  · rw [end_, if_neg (by simp [goesOn]), State.endPosting_next (by rw [engine, part]; exact free),
      State.takeNext_cons (by rw [engine]; exact queue)]
    exact ⟨rfl, rfl, rfl⟩

end Sys2Proof.Machine
end

section
/-! The books of a valid profile lie apart (R53, R201), a word of a list of writes reads back when no other
write of the list cuts it, and so the words of an applied posting stand (R19, R47). -/

namespace Sys2Proof.Machine

/-! ## Writes that do not cut each other -/

/-- Two writes that leave each other's word: they are one write, or they share no byte. -/
def Agree (v w : Nat × Word) : Prop := v = w ∨ v.1 + 4 ≤ w.1 ∨ w.1 + 4 ≤ v.1

theorem Agree.refl (v : Nat × Word) : Agree v v := .inl rfl
theorem Agree.of_apart {v w : Nat × Word} (h : v.1 + 4 ≤ w.1 ∨ w.1 + 4 ≤ v.1) : Agree v w := .inr h

/-- A word that stands, or is written, stands after writes that all agree with it. -/
theorem Memory.word_putAll {m : Memory} (fuse : m.fuse = none) {a : Nat} {v : Word} {ws : List (Nat × Word)}
    (agree : ∀ w ∈ ws, Agree (a, v) w) (h : m.word a = v ∨ (a, v) ∈ ws) : (m.putAll ws).word a = v := by
  induction ws generalizing m with
  | nil => exact h.resolve_right (fun h => by cases h)
  | cons w ws ih =>
    refine ih (Memory.putWord_fuse fuse _ _) (fun x hx => agree x (List.mem_cons_of_mem _ hx)) ?_
    rcases agree w (List.mem_cons_self ..) with rfl | apart
    · exact .inl (Memory.word_putWord_same fuse _ _)
    · rw [Memory.word_putWord_apart fuse _ apart]
      refine h.imp_right fun h => (List.mem_cons.1 h).resolve_left ?_
      rintro rfl
      dsimp only at apart
      omega

/-! ## The books of a valid profile -/

theorem State.books_apart {s : State} {r : Profile} (profile : s.profile = some r) (valid : r.isValid = true)
    {i j : Fin 7} (h : i ≠ j) :
    s.base i + bookLimit i ≤ s.base j ∨ s.base j + bookLimit j ≤ s.base i := by
  have placed : r.placed = true := by
    simp only [Profile.isValid, Bool.and_eq_true] at valid
    exact valid.2
  have one (i j : Fin 7) (lt : i < j) :
      r.base i + bookLimit i ≤ r.base j ∨ r.base j + bookLimit j ≤ r.base i := by
    have := List.all_eq_true.1 placed i (List.mem_finRange i)
    have := List.all_eq_true.1 (Bool.and_eq_true_iff.1 this).2 j (List.mem_finRange j)
    simp only [overlap, Bool.or_eq_true, decide_eq_true_eq, Bool.not_eq_true', Bool.and_eq_false_iff,
      decide_eq_false_iff_not] at this
    omega
  have base (b : Fin 7) : s.base b = r.base b := by simp [State.base, profile]
  rw [base, base]
  rcases lt_or_gt_of_ne h with lt | lt
  · exact one i j lt
  · exact (one j i lt).symm

/-- The book that holds a record. -/
def RecordId.book : RecordId → Fin 7
  | .account _ => 1
  | .lot _ => 2
  | .crate _ => 3
  | .bay _ => 5
  | .engine => 0

theorem RecordId.book_ne_journal (x : RecordId) : x.book ≠ 4 := by cases x <;> simp [RecordId.book]

/-- A record that its book has a place for. -/
def RecordId.placed : RecordId → Prop
  | .account n => n < 256
  | .lot slot => slot < 2048
  | .crate k => k < 4096
  | .bay b => b < 6
  | .engine => True

theorem State.recordSpan_book (s : State) {x : RecordId} (h : x.placed) :
    s.base x.book ≤ (s.recordSpan x).1 ∧
      (s.recordSpan x).1 + (s.recordSpan x).2 ≤ s.base x.book + bookLimit x.book := by
  cases x <;> simp only [RecordId.placed] at h <;>
    simp only [State.recordSpan, RecordId.book, bookLimit, State.accountAddr, State.lotAddr, State.crateAddr,
      State.bayAddr, State.engineAddr] <;> norm_num <;> omega

/-- Two records share no byte (chapter 11). -/
theorem State.recordSpan_apart {s : State} {r : Profile} (profile : s.profile = some r)
    (valid : r.isValid = true) {x y : RecordId} (hx : x.placed) (hy : y.placed) (ne : x ≠ y) :
    (s.recordSpan x).1 + (s.recordSpan x).2 ≤ (s.recordSpan y).1 ∨
      (s.recordSpan y).1 + (s.recordSpan y).2 ≤ (s.recordSpan x).1 := by
  by_cases book : x.book = y.book
  · -- Of one book, the two are of one kind, and their numbers differ.
    cases x <;> cases y <;> simp [RecordId.book] at book ne <;>
      simp only [State.recordSpan, State.accountAddr, State.lotAddr, State.crateAddr, State.bayAddr] <;> omega
  · have := s.recordSpan_book hx
    have := s.recordSpan_book hy
    have := State.books_apart profile valid book
    omega

theorem State.entryAddr_book (s : State) (seq : Word) :
    s.base 4 ≤ s.entryAddr (entrySlot seq) ∧ s.entryAddr (entrySlot seq) + 256 ≤ s.base 4 + 65536 := by
  have : seq.toNat % 256 < 256 := Nat.mod_lt _ (by decide)
  simp only [State.entryAddr, entrySlot]
  omega

/-- A record shares no byte with a slot of the journal (chapter 11). -/
theorem State.recordSpan_entry {s : State} {r : Profile} (profile : s.profile = some r)
    (valid : r.isValid = true) {x : RecordId} (hx : x.placed) (seq : Word) :
    (s.recordSpan x).1 + (s.recordSpan x).2 ≤ s.entryAddr (entrySlot seq) ∨
      s.entryAddr (entrySlot seq) + 256 ≤ (s.recordSpan x).1 := by
  have := s.recordSpan_book hx
  have := s.entryAddr_book seq
  have limit : bookLimit 4 = 65536 := rfl
  have := State.books_apart profile valid x.book_ne_journal
  omega

end Sys2Proof.Machine
end

section
/-! What the writes of an entry's images are: each lies in its record, and no two of them cut each other (R19,
R38, R39, R149); so all of them stand in the store once the posting ends. -/

namespace Sys2Proof.Machine

/-! ## Ascending lists of writes -/

/-- Writes whose words follow one another in the store. -/
def Ascending (ws : List (Nat × Word)) : Prop := ws.Pairwise fun v w => v.1 + 4 ≤ w.1

theorem Ascending.agree {ws : List (Nat × Word)} (h : Ascending ws) {v w : Nat × Word} (hv : v ∈ ws)
    (hw : w ∈ ws) : Agree v w := by
  by_cases e : v = w
  · exact .inl e
  · have symm : Std.Symm fun v w : Nat × Word => v.1 + 4 ≤ w.1 ∨ w.1 + 4 ≤ v.1 := ⟨fun _ _ => Or.symm⟩
    exact .inr ((h.imp Or.inl : ws.Pairwise fun v w => v.1 + 4 ≤ w.1 ∨ w.1 + 4 ≤ v.1).forall hv hw e)

theorem wordsAt_ascending (a : Nat) (ws : List Word) : Ascending (wordsAt a ws) := by
  induction ws generalizing a with
  | nil => exact .nil
  | cons v vs ih => exact .cons (fun w hw => (wordsAt_range hw).1) (ih _)

theorem maskWrites_range {a n i : Nat} {mask : BitVec 16} {ws : List Word} {w : Nat × Word}
    (h : w ∈ maskWrites a mask n i ws) : a + 4 * i ≤ w.1 ∧ w.1 + 4 ≤ a + 4 * (i + n) := by
  induction n generalizing i ws with
  | zero => cases h
  | succ n ih =>
    cases ws with
    | nil => cases h
    | cons v vs =>
      rw [maskWrites] at h
      split at h
      · rcases List.mem_cons.1 h with rfl | h
        · dsimp only; omega
        · have := ih h; omega
      · have := ih h; omega

theorem maskWrites_ascending (a : Nat) (mask : BitVec 16) (n i : Nat) (ws : List Word) :
    Ascending (maskWrites a mask n i ws) := by
  induction n generalizing i ws with
  | zero => exact .nil
  | succ n ih =>
    cases ws with
    | nil => exact .nil
    | cons v vs =>
      rw [maskWrites]
      split
      · refine .cons (fun w hw => ?_) (ih _ _)
        have := maskWrites_range hw
        dsimp only
        omega
      · exact ih _ _

section Crate
variable {a : Nat} {state : BitVec 3} {holder : BitVec 8} {deposit : Option (BitVec 16)}
  {identity : Option (BitVec 24)} {seq : Word}

theorem crateWrites_range {w : Nat × Word} (h : w ∈ crateWrites a state holder deposit identity seq) :
    a ≤ w.1 ∧ w.1 + 4 ≤ a + 16 := by
  cases deposit <;> cases identity <;> simp [crateWrites] at h <;> grind

theorem crateWrites_ascending : Ascending (crateWrites a state holder deposit identity seq) := by
  cases deposit <;> cases identity <;> simp [Ascending, crateWrites]

end Crate

theorem AccountImage.writes_range {f : AccountImage} {a : Nat} {seq : Word} {w : Nat × Word}
    (h : w ∈ f.writes a seq) : a ≤ w.1 ∧ w.1 + 4 ≤ a + 64 := by
  simp only [AccountImage.writes, List.mem_cons, List.not_mem_nil, or_false] at h
  rcases h with rfl | rfl | rfl | rfl | rfl | rfl | rfl | rfl | rfl | rfl | rfl <;> dsimp only <;> omega

theorem AccountImage.writes_ascending (f : AccountImage) (a : Nat) (seq : Word) :
    Ascending (f.writes a seq) := by
  simp [Ascending, AccountImage.writes]

/-! ## The writes of images -/

/-- A write of an image lies in the record of one of its targets. -/
theorem Image.writes_within {s : State} {seq : Word} {i : Image} {w : Nat × Word} (h : w ∈ i.writes s seq) :
    ∃ x ∈ i.targets, x.placed ∧ (s.recordSpan x).1 ≤ w.1 ∧
      w.1 + 4 ≤ (s.recordSpan x).1 + (s.recordSpan x).2 := by
  cases i with
  | account n f => exact ⟨_, List.mem_singleton.2 rfl, n.isLt, AccountImage.writes_range h⟩
  | lot slot mask ws =>
    have range := maskWrites_range h
    exact ⟨_, List.mem_singleton.2 rfl, slot.isLt, range⟩
  | crates ks state holder deposit identity =>
    obtain ⟨k, hk, h⟩ := List.mem_flatMap.1 h
    exact ⟨_, List.mem_map_of_mem hk, k.isLt, crateWrites_range h⟩
  | bay n r =>
    simp only [Image.writes] at h
    split at h
    · next lt => exact ⟨_, List.mem_singleton.2 rfl, lt, wordsAt_range h⟩
    · cases h
  | engine dayState head nextLot day => cases h

/-- No two writes of one image cut each other; a crate named twice gets the same words twice. -/
theorem Image.writes_agree {s : State} {seq : Word} {i : Image} {v w : Nat × Word}
    (hv : v ∈ i.writes s seq) (hw : w ∈ i.writes s seq) : Agree v w := by
  cases i with
  | account n f => exact (f.writes_ascending _ _).agree hv hw
  | lot slot mask ws => exact (maskWrites_ascending _ _ _ _ _).agree hv hw
  | crates ks state holder deposit identity =>
    obtain ⟨k, -, hv⟩ := List.mem_flatMap.1 hv
    obtain ⟨l, -, hw⟩ := List.mem_flatMap.1 hw
    by_cases e : k = l
    · subst e
      exact crateWrites_ascending.agree hv hw
    · have := crateWrites_range hv
      have := crateWrites_range hw
      have : k.toNat ≠ l.toNat := fun h => e (BitVec.eq_of_toNat_eq h)
      simp only [State.crateAddr] at *
      exact .of_apart (by omega)
  | bay n r =>
    simp only [Image.writes] at hv hw
    split at hv
    · next lt =>
      rw [if_pos lt] at hw
      exact (wordsAt_ascending _ _).agree hv hw
    · cases hv
  | engine dayState head nextLot day => cases hv

/-- No two writes of a list of images over different records cut each other. -/
theorem imageWrites_agree {s : State} {r : Profile} (profile : s.profile = some r) (valid : r.isValid = true)
    {is : List Image} (apart : is.Pairwise fun i j => ∀ x ∈ i.targets, x ∉ j.targets) {seq : Word}
    {v w : Nat × Word} (hv : v ∈ is.flatMap (Image.writes s seq)) (hw : w ∈ is.flatMap (Image.writes s seq)) :
    Agree v w := by
  obtain ⟨i, hi, hv⟩ := List.mem_flatMap.1 hv
  obtain ⟨j, hj, hw⟩ := List.mem_flatMap.1 hw
  by_cases e : i = j
  · subst e
    exact Image.writes_agree hv hw
  · obtain ⟨x, hx, placedX, rangeX⟩ := Image.writes_within hv
    obtain ⟨y, hy, placedY, rangeY⟩ := Image.writes_within hw
    have symm : Std.Symm fun i j : Image => ∀ x ∈ i.targets, x ∉ j.targets :=
      ⟨fun _ _ h x hx hx' => h x hx' hx⟩
    have disjoint : ∀ x ∈ i.targets, x ∉ j.targets := apart.forall hi hj e
    have ne : x ≠ y := fun h => disjoint x hx (h ▸ hy)
    have := State.recordSpan_apart profile valid placedX placedY ne
    exact .of_apart (by omega)

/-- What lies outside the placed records that the images name is apart from their writes. -/
theorem imageWrites_apart {s : State} {is : List Image} {seq : Word} {w : Nat × Word}
    (hw : w ∈ is.flatMap (Image.writes s seq)) {a n : Nat}
    (apart : ∀ i ∈ is, ∀ x ∈ i.targets, x.placed →
      (s.recordSpan x).1 + (s.recordSpan x).2 ≤ a ∨ a + n ≤ (s.recordSpan x).1) :
    w.1 + 4 ≤ a ∨ a + n ≤ w.1 := by
  obtain ⟨i, hi, hw⟩ := List.mem_flatMap.1 hw
  obtain ⟨x, hx, placed, range⟩ := Image.writes_within hw
  have := apart i hi x hx placed
  omega

/-! ## The engine record -/

theorem EngineRecord.stateWord_dayState (r : EngineRecord) : field r.stateWord 0 8 = r.dayState := by
  simp only [EngineRecord.stateWord, field]
  ext i h
  rw [BitVec.getElem_extractLsb' h, BitVec.getLsbD_append, if_pos (by omega), BitVec.getLsbD_append,
    if_pos (by omega), Nat.zero_add, BitVec.getLsbD_eq_getElem h]

theorem EngineRecord.stateWord_formatState (r : EngineRecord) : field r.stateWord 8 8 = r.formatState := by
  simp only [EngineRecord.stateWord, field]
  ext i h
  rw [BitVec.getElem_extractLsb' h, BitVec.getLsbD_append, if_pos (by omega), BitVec.getLsbD_append,
    if_neg (by omega), Nat.add_sub_cancel_left, BitVec.getLsbD_eq_getElem h]

/-- What an engine record's words say in the store at an address. -/
structure RecordAt (m : Memory) (a : Nat) (r : EngineRecord) : Prop where
  head : m.word a = r.head
  nextLot : m.word (a + 4) = r.nextLot
  day : m.word (a + 8) = r.day
  dayState : field (m.word (a + 12)) 0 8 = r.dayState
  formatState : field (m.word (a + 12)) 8 8 = r.formatState

theorem State.recordAt_iff (s : State) (r : EngineRecord) :
    RecordAt s.store s.engineAddr r ↔ s.engineRecord = r := by
  constructor
  · rintro ⟨head, nextLot, day, dayState, formatState⟩
    simp only [State.engineRecord, head, nextLot, day, dayState, formatState]
  · rintro rfl
    exact ⟨rfl, rfl, rfl, rfl, rfl⟩

theorem mem_engineWrites {a : Nat} {old new : EngineRecord} {w : Nat × Word} :
    w ∈ engineWrites a old new ↔
      (new.nextLot ≠ old.nextLot ∧ w = (a + 4, new.nextLot)) ∨ (new.day ≠ old.day ∧ w = (a + 8, new.day)) ∨
        (new.stateWord ≠ old.stateWord ∧ w = (a + 12, new.stateWord)) ∨
        (new.head ≠ old.head ∧ w = (a, new.head)) := by
  have one (p : Prop) [Decidable p] (v : Nat × Word) : w ∈ (if p then [] else [v]) ↔ ¬ p ∧ w = v := by
    split <;> simp [*]
  simp only [engineWrites, List.mem_append, one, or_assoc, ne_eq]

/-- The writes of an engine record are words of the record in its order. -/
theorem engineWrites_agree {a : Nat} {old new : EngineRecord} {v w : Nat × Word}
    (hv : v ∈ wordsAt a [new.head, new.nextLot, new.day, new.stateWord]) (hw : w ∈ engineWrites a old new) :
    Agree v w := by
  refine (wordsAt_ascending _ _).agree hv ?_
  rcases mem_engineWrites.1 hw with ⟨-, rfl⟩ | ⟨-, rfl⟩ | ⟨-, rfl⟩ | ⟨-, rfl⟩ <;> simp [wordsAt]

/-- An engine record that stands is, once written over, the new one (R205). -/
theorem RecordAt.engineWrites {m : Memory} (fuse : m.fuse = none) {a : Nat} {old : EngineRecord}
    (held : RecordAt m a old) (new : EngineRecord) : RecordAt (m.putAll (engineWrites a old new)) a new := by
  have stands {v : Nat × Word} (hv : v ∈ wordsAt a [new.head, new.nextLot, new.day, new.stateWord])
      (h : m.word v.1 = v.2 ∨ v ∈ Machine.engineWrites a old new) :
      (m.putAll (Machine.engineWrites a old new)).word v.1 = v.2 :=
    Memory.word_putAll fuse (fun _ hw => engineWrites_agree hv hw) h
  have state (lo : Nat) (same : new.stateWord = old.stateWord → field (m.word (a + 12)) lo 8 =
      field new.stateWord lo 8) :
      field ((m.putAll (Machine.engineWrites a old new)).word (a + 12)) lo 8 = field new.stateWord lo 8 := by
    by_cases e : new.stateWord = old.stateWord
    · rw [Memory.word_putAll_apart fuse, same e]
      intro w hw
      rcases mem_engineWrites.1 hw with ⟨-, rfl⟩ | ⟨-, rfl⟩ | ⟨ne, -⟩ | ⟨-, rfl⟩
      · exact .inr (by dsimp only; omega)
      · exact .inr (Nat.le_refl _)
      · exact absurd e ne
      · exact .inr (by dsimp only; omega)
    · rw [stands (v := (a + 12, new.stateWord)) (by simp [wordsAt]) (.inr (mem_engineWrites.2 (by simp [e])))]
  constructor
  · refine stands (v := (a, new.head)) (by simp [wordsAt]) ?_
    by_cases e : new.head = old.head
    · exact .inl (held.head.trans e.symm)
    · exact .inr (mem_engineWrites.2 (by simp [e]))
  · refine stands (v := (a + 4, new.nextLot)) (by simp [wordsAt]) ?_
    by_cases e : new.nextLot = old.nextLot
    · exact .inl (held.nextLot.trans e.symm)
    · exact .inr (mem_engineWrites.2 (by simp [e]))
  · refine stands (v := (a + 8, new.day)) (by simp [wordsAt]) ?_
    by_cases e : new.day = old.day
    · exact .inl (held.day.trans e.symm)
    · exact .inr (mem_engineWrites.2 (by simp [e]))
  · rw [state 0 fun e => ?_, EngineRecord.stateWord_dayState]
    rw [held.dayState, e, EngineRecord.stateWord_dayState]
  · rw [state 8 fun e => ?_, EngineRecord.stateWord_formatState]
    rw [held.formatState, e, EngineRecord.stateWord_formatState]

end Sys2Proof.Machine
end

section
/-! After an applied posting: its images' words, its entry and the engine record stand in the store (R19, R34 to
R40, R47). -/

namespace Sys2Proof.Machine

/-- The first word of an entry's body is its sequence number (R35). -/
theorem JournalEntry.bodyWords_cons (e : JournalEntry) (seq : Word) (i : Image) :
    ∃ ws, e.bodyWords seq i = seq :: ws := ⟨_, rfl⟩

/-- The entry, its images and the engine record: what stands in the store after an entry is written. -/
structure EntryStands (s : State) (e : JournalEntry) (new : EngineRecord) (m : Memory) : Prop where
  image : ∀ i ∈ e.images, ∀ w ∈ i.writes s s.engine.copy.head, m.word w.1 = w.2
  done : m.word (s.entryAddr (entrySlot s.engine.copy.head)) = entryDone
  seq : m.word (s.entryAddr (entrySlot s.engine.copy.head) + 4) = s.engine.copy.head
  record : s.engineRecord = s.engine.copy → RecordAt m s.engineAddr new

/-- An opened entry holds its state word and its sequence number. -/
theorem State.openWrites_stand (s : State) (e : JournalEntry) (new : EngineRecord) (state : Word) {m : Memory}
    (fuse : m.fuse = none) :
    (m.putAll (s.openWrites e new state)).word (s.entryAddr (entrySlot s.engine.copy.head)) = state ∧
    (m.putAll (s.openWrites e new state)).word (s.entryAddr (entrySlot s.engine.copy.head) + 4) =
      s.engine.copy.head := by
  obtain ⟨ws, body⟩ := e.bodyWords_cons s.engine.copy.head (.engine new.dayState new.head new.nextLot new.day)
  simp only [State.openWrites, body]
  generalize s.entryAddr (entrySlot s.engine.copy.head) = a
  have opened := Memory.putWord_fuse fuse a entryEmpty
  constructor
  · rw [Memory.putAll_append]
    exact Memory.word_putWord_same (Memory.putAll_fuse opened _) _ _
  · refine Memory.word_putAll fuse (fun w hw => ?_) (.inr (by simp [wordsAt]))
    simp only [List.cons_append, List.mem_cons, List.mem_append, List.not_mem_nil, or_false] at hw
    rcases hw with rfl | hw | rfl
    · exact .of_apart (.inr (Nat.le_refl _))
    · exact (wordsAt_ascending _ _).agree (List.mem_cons_self ..) hw
    · exact .of_apart (.inr (Nat.le_refl _))

section Entry
variable {s : State} {r : Profile} (profile : s.profile = some r) (valid : r.isValid = true)
  (fuse : s.store.fuse = none)
include profile valid

/-- The words of an entry's slot share no byte with the engine record. -/
theorem State.engineAddr_entry (seq : Word) :
    s.engineAddr + 16 ≤ s.entryAddr (entrySlot seq) ∨ s.entryAddr (entrySlot seq) + 256 ≤ s.engineAddr :=
  State.recordSpan_entry profile valid (x := .engine) trivial seq

/-- The words of images share no byte with a slot of the journal. -/
theorem imageWrites_entry {is : List Image} {q : Word} {w : Nat × Word}
    (hw : w ∈ is.flatMap (Image.writes s q)) (seq : Word) :
    w.1 + 4 ≤ s.entryAddr (entrySlot seq) ∨ s.entryAddr (entrySlot seq) + 256 ≤ w.1 :=
  imageWrites_apart hw fun _ _ _ _ placed => State.recordSpan_entry profile valid placed seq

/-- The words of record images share no byte with the engine record. -/
theorem imageWrites_engine {is : List Image} (records : ∀ i ∈ is, RecordId.engine ∉ i.targets) {q : Word}
    {w : Nat × Word} (hw : w ∈ is.flatMap (Image.writes s q)) :
    w.1 + 4 ≤ s.engineAddr ∨ s.engineAddr + 16 ≤ w.1 :=
  imageWrites_apart hw fun i hi _ hx placed =>
    State.recordSpan_apart profile valid placed (y := .engine) trivial fun e => records i hi (e ▸ hx)

include fuse

/-- What the writes of an entry's slot and images leave in the store. -/
theorem State.slotWrites_stand {e : JournalEntry} (records : ∀ i ∈ e.images, RecordId.engine ∉ i.targets)
    (apart : e.images.Pairwise fun i j => ∀ x ∈ i.targets, x ∉ j.targets) (new : EngineRecord) :
    EntryStands s e s.engine.copy (s.store.putAll (s.slotWrites e new)) := by
  have record {ws : List (Nat × Word)} (beyond : ∀ w ∈ ws, w.1 + 4 ≤ s.engineAddr ∨ s.engineAddr + 16 ≤ w.1)
      (held : s.engineRecord = s.engine.copy) : RecordAt (s.store.putAll ws) s.engineAddr s.engine.copy := by
    have word (k : Nat) (hk : k ≤ 12) :
        (s.store.putAll ws).word (s.engineAddr + k) = s.store.word (s.engineAddr + k) :=
      Memory.word_putAll_apart fuse fun w hw => by have := beyond w hw; omega
    obtain ⟨head, nextLot, day, dayState, formatState⟩ := (s.recordAt_iff _).2 held
    exact ⟨(word 0 (by omega)).trans head, (word 4 (by omega)).trans nextLot, (word 8 (by omega)).trans day,
      by rw [word 12 (by omega), dayState], by rw [word 12 (by omega), formatState]⟩
  have slot := State.engineAddr_entry profile valid s.engine.copy.head
  unfold State.slotWrites
  dsimp only
  split
  · next empty =>
    obtain ⟨done, seq⟩ := s.openWrites_stand e new entryDone fuse
    have none : e.images = [] := List.isEmpty_iff.1 empty
    exact ⟨by simp [none], done, seq, record fun w hw => by have := State.openWrites_range hw; omega⟩
  · obtain ⟨-, seq⟩ := s.openWrites_stand e new entryPending fuse
    have opened := Memory.putAll_fuse fuse (s.openWrites e new entryPending)
    have entry {w : Nat × Word} (hw : w ∈ e.images.flatMap (Image.writes s s.engine.copy.head)) :=
      imageWrites_entry profile valid hw s.engine.copy.head
    refine ⟨fun i hi w hw => ?_, ?_, ?_, record fun w hw => ?_⟩
    · have mine := List.mem_flatMap.2 ⟨i, hi, hw⟩
      rw [Memory.putAll_append]
      refine Memory.word_putAll opened (fun v hv => ?_) (.inr (List.mem_append_left _ mine))
      rcases List.mem_append.1 hv with hv | hv
      · exact imageWrites_agree profile valid apart mine hv
      · cases List.mem_singleton.1 hv
        have := entry mine
        exact .of_apart (by dsimp only; omega)
    · rw [Memory.putAll_append, Memory.putAll_append]
      exact Memory.word_putWord_same (Memory.putAll_fuse opened _) _ _
    · rw [Memory.putAll_append, Memory.word_putAll_apart opened, seq]
      intro w hw
      rcases List.mem_append.1 hw with hw | hw
      · have := entry hw; omega
      · cases List.mem_singleton.1 hw
        exact .inr (Nat.le_refl _)
    · rcases List.mem_append.1 hw with hw | hw
      · have := State.openWrites_range hw; omega
      · rcases List.mem_append.1 hw with hw | hw
        · exact imageWrites_engine profile valid records hw
        · cases List.mem_singleton.1 hw
          dsimp only
          omega

/-- What the writes of an entry leave in the store (R19, R34, R47). -/
theorem State.entryWrites_stand {e : JournalEntry} (records : ∀ i ∈ e.images, RecordId.engine ∉ i.targets)
    (apart : e.images.Pairwise fun i j => ∀ x ∈ i.targets, x ∉ j.targets) (new : EngineRecord) :
    EntryStands s e new (s.store.putAll (s.entryWrites e new)) := by
  obtain ⟨image, done, seq, record⟩ := State.slotWrites_stand profile valid fuse records apart new
  have written := Memory.putAll_fuse fuse (s.slotWrites e new)
  have slot := State.engineAddr_entry profile valid s.engine.copy.head
  have stands {a : Nat} (h : a + 4 ≤ s.engineAddr ∨ s.engineAddr + 16 ≤ a) :
      (s.store.putAll (s.entryWrites e new)).word a = (s.store.putAll (s.slotWrites e new)).word a := by
    rw [State.entryWrites, Memory.putAll_append, Memory.word_putAll_apart written]
    intro w hw
    have := engineWrites_range hw
    omega
  refine ⟨fun i hi w hw => ?_, ?_, ?_, fun held => ?_⟩
  · rw [stands (imageWrites_engine profile valid records (List.mem_flatMap.2 ⟨i, hi, hw⟩)), image i hi w hw]
  · rw [stands (by omega), done]
  · rw [stands (by omega), seq]
  · rw [State.entryWrites, Memory.putAll_append]
    exact (record held).engineWrites written new

end Entry

/-! ## Account records read back -/

theorem AccountImage.headWord_fields (f : AccountImage) :
    field f.headWord 0 3 = f.kind ∧ field f.headWord 8 2 = f.state := by
  constructor <;> ext i h <;>
    simp only [field, AccountImage.headWord, BitVec.getElem_extractLsb' h, BitVec.getLsbD_append]
  · rw [if_pos (by omega), Nat.zero_add, BitVec.getLsbD_eq_getElem h]
  · rw [if_neg (by omega), if_neg (by omega), if_pos (by omega), ← BitVec.getLsbD_eq_getElem h]
    congr 1
    omega

theorem field_setWidth {n : Nat} (x : BitVec n) (h : n ≤ 32) : field (x.setWidth 32) 0 n = x := by
  ext i hi
  simp [field, hi, show i < 32 by omega]

/-- An account image reads back from its words (R38). -/
theorem accountOf_writes {m : Memory} {a : Nat} {f : AccountImage} {seq : Word}
    (h : ∀ w ∈ f.writes a seq, m.word w.1 = w.2) : accountOf m a = f ∧ m.word (a + 0x2C) = seq := by
  simp only [AccountImage.writes, List.mem_cons, List.not_mem_nil, or_false, forall_eq_or_imp, forall_eq] at h
  obtain ⟨head, day, balance, credit, holds, crates, floor, landed, sales, ice, last⟩ := h
  refine ⟨?_, last⟩
  simp only [accountOf, head, day, balance, credit, holds, crates, floor, landed, sales, ice,
    f.headWord_fields.1, f.headWord_fields.2, field_setWidth f.crates (by decide),
    field_setWidth f.floor (by decide)]

/-! ## The end of an applied posting -/

/-- The end of a posting writes its entry, and nothing more when its report is quiet (R19, R47). -/
theorem State.writeDueEntry_store {s : State} {d : Due} (applied : d.entry.reason = none) :
    (s.writeDueEntry d).store = s.store.putAll (s.entryWrites d.entry (s.nextRecord d.nextLot)) := by
  rw [State.writeDueEntry_eq]
  dsimp only
  split <;> simp only [State.haltAt_store, State.endPosting_store] <;>
    rw [State.report_store fun _ _ => applied, State.withGuard_store, State.writeEntry_store]

theorem State.writeDueEntry_copy (s : State) (d : Due) :
    (s.writeDueEntry d).engine.copy = s.nextRecord d.nextLot := by
  obtain ⟨copy, -⟩ := postingEndFrame s d
  exact copy

/-- Settles O60: every write of the entry agrees with every other, so each word stands. -/
theorem appliedImagesStand : Obligations.AppliedImagesStand := by
  unfold Obligations.AppliedImagesStand
  intro s d r profile valid fuse applied wellFormed apart t seq
  have shell : SameShell s t := s.writeDueEntry_shell d
  have store : t.store = s.store.putAll (s.entryWrites d.entry (s.nextRecord d.nextLot)) :=
    State.writeDueEntry_store applied
  obtain ⟨image, done, first, record⟩ := State.entryWrites_stand profile valid fuse
    (fun i hi => (wellFormed i hi).2) apart (s.nextRecord d.nextLot)
  rw [← store] at image done first record
  rw [State.entryAddr_shell shell]
  refine ⟨image, fun n f hf => ?_, done, first, fun held => ?_⟩
  · have address : t.accountAddr n.toNat = s.accountAddr n.toNat := by
      simp only [State.accountAddr, shell.base]
    rw [State.account, address]
    exact accountOf_writes (image _ hf)
  · rw [State.writeDueEntry_copy, ← t.recordAt_iff, State.engineAddr_shell shell]
    exact record held

end Sys2Proof.Machine
end

section
/-! Tail writes that fall within a FORMAT (R33, R42), and ENGINE_FORMAT (R22). -/

namespace Sys2Proof.Machine

variable {s : State}

/-! ## A tail write -/

/-- What a tail write leaves of the engine outside JOURNAL_WAIT: everything but the tail. -/
structure TailOnly (s t : State) : Prop where
  engine : t.engine = { s.engine with tail := t.engine.tail }
  ice : t.ice = s.ice
  profile : t.profile = s.profile

namespace TailOnly

theorem refl (s : State) : TailOnly s s := ⟨rfl, rfl, rfl⟩

theorem of_eq {s t : State} (engine : t.engine = s.engine) (ice : t.ice = s.ice)
    (profile : t.profile = s.profile) : TailOnly s t := ⟨by rw [engine], ice, profile⟩

theorem trans {s t u : State} (h : TailOnly s t) (k : TailOnly t u) : TailOnly s u :=
  ⟨by rw [k.engine, h.engine], k.ice.trans h.ice, k.profile.trans h.profile⟩

theorem state {s t : State} (h : TailOnly s t) : t.engine.state = s.engine.state := by rw [h.engine]

end TailOnly

/-- An accepted TAIL write outside JOURNAL_WAIT is the tail alone (R42, R45). -/
theorem State.setTail_running (running : s.engine.state ≠ .journalWait) (w : Word) :
    s.setTail w = { s with engine := { s.engine with tail := w } } := by
  simp [State.setTail, running]

theorem State.faultAccess_ice (s : State) (p : PortId) (a : Access) (r : FaultReason) :
    (s.faultAccess p a r).ice = s.ice := by
  unfold State.faultAccess State.latchFault
  split <;> simp

theorem State.faultAccess_profile (s : State) (p : PortId) (a : Access) (r : FaultReason) :
    (s.faultAccess p a r).profile = s.profile := by
  unfold State.faultAccess State.latchFault
  split <;> simp

theorem State.faultAccess_store (s : State) (p : PortId) (a : Access) (r : FaultReason) :
    (s.faultAccess p a r).store = s.store := by
  unfold State.faultAccess State.latchFault
  split <;> simp

theorem State.faultAccess_answer (s : State) (p : PortId) (a : Access) (r : FaultReason) :
    ((s.faultAccess p a r).path p).answer = .fault r := by
  cases p <;> rfl

/-- The effect of an accepted TAIL write outside JOURNAL_WAIT, and the path's own word (R42, R58). -/
theorem State.tail_effect (running : s.engine.state ≠ .journalWait) (p : PortId) (w : Word)
    (rs : List Request) :
    (s.dropSnapshot p).effect p .tail w rs =
      ({ s.dropSnapshot p with engine := { s.engine with tail := w } } : State).serve rs := by
  rw [State.effect_block rfl, State.blockEffect, State.setTail_running (by simpa using running),
    State.dropSnapshot_engine]

/-- A word write of TAIL that its path takes: the tail, the word, the answer (R42, R58). -/
theorem State.writeSpecial_tail (s : State) (running : s.engine.state ≠ .journalWait) (p : PortId) (w : Word) :
    TailOnly s (s.writeSpecial p 0 ⟨portAddr 0 0xA0, .word, some w⟩ w) := by
  have offset : (⟨portAddr 0 0xA0, .word, some w⟩ : Access).offset = 0xA0 :=
    addrOffset_portAddr 0 0xA0 (by decide)
  have taken (rs : List Request) : TailOnly s ((s.dropSnapshot p).effect p .tail w rs) := by
    rw [State.tail_effect running]
    exact ⟨by simp, by simp, by simp⟩
  unfold State.writeSpecial
  rw [offset, show specialWordAt 0 0xA0 = .tail from rfl]
  dsimp only
  split
  · exact taken _
  · exact (taken _).trans (.of_eq (State.answer_engine ..) (State.answer_ice ..) (State.answer_profile ..))

/-- A tail write that arrives at any port of any part outside JOURNAL_WAIT (R42). -/
theorem State.arriveTail_only (running : s.engine.state ≠ .journalWait) (w : PortId × Word) :
    TailOnly s (s.arriveTail w) := by
  by_cases taken : s.idlePort w.1
  · have special : s.arriveTail w = s.checkSpecial w.1 0 ⟨portAddr 0 0xA0, .word, some w.2⟩ :=
      State.arrive_special taken 0 0xA0 .word (some w.2)
    rw [special, State.checkSpecial]
    split
    · exact .of_eq (by simp) (State.faultAccess_ice ..) (State.faultAccess_profile ..)
    · exact State.writeSpecial_tail s running w.1 w.2
  · unfold State.arriveTail State.arrive
    split
    · next free =>
      cases part : s.part with
      | unpowered => exact .refl s
      | starting => exact .of_eq (by simp) (by simp) (by simp)
      | noProfile => exact .of_eq (by simp) (State.faultAccess_ice ..) (State.faultAccess_profile ..)
      | running => exact absurd ⟨part, free⟩ taken
    · exact .refl s

/-- What a tail write of the office's free port comes to (R42): the tail, the word and the answer. -/
theorem State.arriveTail_owned {p : PortId} (own : s.owns p 0) (running : s.engine.state ≠ .journalWait)
    (w : Word) :
    (s.arriveTail (p, w)).engine.tail = (if s.tailAccepted w then w else s.engine.tail) ∧
    ((s.arriveTail (p, w)).path p).answer = (if s.tailAccepted w then .done else .fault .badValue) ∧
    (s.arriveTail (p, w)).store =
      if s.tailAccepted w then s.store.putAll [(s.controlAddr 0xA0, w)] else s.store := by
  have checks : firstFail (s.wordChecks .tail w) = if s.tailAccepted w then none else some .badValue := by
    simp only [State.wordChecks, firstFail, SpecialWord.writable, State.takesValue, SpecialWord.setupOnly,
      SpecialWord.needsHold, State.wordFitted, State.slotFree, State.quietAllows, State.formatAllows]
    cases s.tailAccepted w <;> rfl
  cases accepted : s.tailAccepted w with
  | true =>
    have written : s.arriveTail (p, w) =
        ((s.dropSnapshot p).effect p .tail w [(s.grantee p, s.base 0 + 0xA0, w)]).answer p .done :=
      State.stored_write (w := .tail) (book := 0) rfl own rfl (by decide) rfl (by decide) rfl
        (by rw [checks, accepted]; rfl) (by rw [State.tail_effect running, State.serve_path]; cases p <;> rfl)
    rw [written, State.tail_effect running, State.serve_one]
    exact ⟨by simp, by cases p <;> rfl, by simp [State.controlAddr]⟩
  | false =>
    have faulted : s.arriveTail (p, w) = s.faultAccess p ⟨portAddr 0 0xA0, .word, some w⟩ .badValue :=
      State.write_faults (w := .tail) (book := 0) rfl own rfl (by decide) rfl (by decide)
        (by rw [checks, accepted]; rfl)
    rw [faulted]
    exact ⟨by simp, State.faultAccess_answer .., State.faultAccess_store ..⟩

/-! ## What comes between the steps of a FORMAT -/

/-- What comes between leaves all of an engine outside JOURNAL_WAIT but its tail. -/
def Between.TailOnly (between : Between) : Prop :=
  ∀ point u, u.engine.state ≠ .journalWait → Machine.TailOnly u (between point u)

theorem undisturbed_tailOnly : undisturbed.TailOnly := fun _ u _ => .refl u

theorem tailsBetween_tailOnly (tails : List (RunPoint × PortId × Word)) : (tailsBetween tails).TailOnly := by
  intro point u running
  unfold tailsBetween
  generalize tails.filter _ = ts
  induction ts generalizing u with
  | nil => exact .refl u
  | cons t ts ih =>
    have first := State.arriveTail_only running t.2
    exact first.trans (ih _ (by rw [first.state]; exact running))

/-- One tail write falls at its own point alone. -/
theorem tailsBetween_single (point at_ : RunPoint) (w : PortId × Word) (u : State) :
    tailsBetween [(point, w)] at_ u = if point = at_ then u.arriveTail w else u := by
  by_cases h : point = at_ <;> simp [tailsBetween, h]

/-! ## The steps of FORMAT -/

theorem State.formatBay_bay (s : State) (b c : Fin 6) :
    ((s.formatBay b).bay c).copy = if c = b then BayRecord.zero else (s.bay c).copy := by
  rw [State.formatBay, State.setBayCopy_bay]
  split <;> rfl

/-- After step 6 every bay copy is IDLE and zero (R32). -/
theorem State.formatStores_bay (s : State) (b : Fin 6) : (s.formatStores.bay b).copy = BayRecord.zero := by
  simp only [State.formatStores, State.formatBays, State.formatBay_bay]
  fin_cases b <;> rfl

theorem State.formatEntry_ice (s : State) (ps : Params) (st : Stamp) : (s.formatEntry ps st).ice = s.ice :=
  (s.writeEntry_stations _ _).ice

/-- What a FORMAT leaves, whatever tail writes fall within it (R31 to R33). -/
structure Formatted (s t : State) : Prop where
  engine : t.engine = { s.engine with
    state := .formatting, copy := formatRecord 1 formatted, guard := [], tail := t.engine.tail }
  bays : ∀ b : Fin 6, (t.bay b).copy = BayRecord.zero
  profile : t.profile = s.profile

theorem State.formatHall_formatted (s : State) (ps : Params) (st : Stamp) {between : Between}
    (tails : between.TailOnly) : Formatted s (s.formatHall ps st between) := by
  have busy (u : State) (h : u.engine.state = .formatting) : u.engine.state ≠ .journalWait := by simp [h]
  have storesEngine := s.formatStores_engine
  have within7 := tails .before7 s.formatStores (busy _ (by rw [storesEngine]))
  have within8 := tails .before8 (between .before7 s.formatStores).formatEngine
    (busy _ (by rw [State.formatEngine_engine, within7.engine, storesEngine]))
  have within9 := tails .before9
    ((between .before8 (between .before7 s.formatStores).formatEngine).formatEntry ps st)
    (busy _ (by rw [State.formatEntry_engine, within8.engine, State.formatEngine_engine, within7.engine,
      storesEngine]))
  refine ⟨?_, fun b => ?_, ?_⟩
  · rw [State.formatHall, State.formatEnd_engine, within9.engine, State.formatEntry_engine, within8.engine,
      State.formatEngine_engine, within7.engine, storesEngine]
  · have ice : (s.formatHall ps st between).ice = s.formatStores.ice := by
      calc (s.formatHall ps st between).ice
        _ = (between .before9 ((between .before8
              (between .before7 s.formatStores).formatEngine).formatEntry ps st)).ice := rfl
        _ = (between .before8 (between .before7 s.formatStores).formatEngine).ice :=
          within9.ice.trans (State.formatEntry_ice ..)
        _ = s.formatStores.ice := within8.ice.trans within7.ice
    rw [State.bay, ice]
    exact s.formatStores_bay b
  · calc (s.formatHall ps st between).profile
      _ = (between .before9 ((between .before8
            (between .before7 s.formatStores).formatEngine).formatEntry ps st)).profile :=
        (State.formatEnd_shell _).profile
      _ = (between .before8 (between .before7 s.formatStores).formatEngine).profile :=
        within9.profile.trans (State.formatEntry_shell _ _ _).profile
      _ = s.formatStores.profile :=
        (within8.profile.trans (State.formatEngine_shell _).profile).trans within7.profile
      _ = s.profile := s.formatStores_shell.profile

end Sys2Proof.Machine
end

section
/-! COMMAND (R196) and ENGINE_FORMAT with what falls within its FORMAT (R22, R33). -/

namespace Sys2Proof.Machine

variable {s : State}

/-! ## COMMAND -/

theorem State.takeCommand_path (s : State) (v : Word) (p : PortId) : (s.takeCommand v).path p = s.path p := by
  unfold State.takeCommand
  split
  · cases p <;> rfl
  · exact s.stepCommand_shell.path p
  · exact s.resumeCommand_shell.path p
  · exact s.formatCommand_shell.path p
  · rfl

/-- A command that the office writes is taken, and answered DONE (R58, R196). -/
theorem State.command_written {p : PortId} (own : s.owns p 0) {v : Word} (code : v.toNat ≤ 4) :
    s.writeWord p (portAddr 0 0x004) v = ((s.dropSnapshot p).takeCommand v).answer p .done := by
  have checks : firstFail (s.wordChecks .command v) = none := by
    simp only [State.wordChecks, firstFail, SpecialWord.writable, State.takesValue, SpecialWord.setupOnly,
      SpecialWord.needsHold, State.wordFitted, State.slotFree, State.quietAllows, State.formatAllows, inRange,
      Nat.zero_le, code]
    rfl
  have effect : (s.dropSnapshot p).effect p .command v [] = (s.dropSnapshot p).takeCommand v :=
    State.effect_block rfl []
  have written : s.writeWord p (portAddr 0 0x004) v =
      ((s.dropSnapshot p).effect p .command v []).answer p .done :=
    State.live_write (w := .command) (book := 0) rfl own rfl (by decide) rfl (by decide) rfl checks
      (by rw [effect, State.takeCommand_path])
  rw [written, effect]

/-! ## A FORMAT run by ENGINE_FORMAT -/

/-- The report of a close that a FORMAT ends leaves every bay copy (R22). -/
theorem State.reportStruck_copy {p : Posting} (kind : p.kind ≠ PostKind.iceHold.code) (b : Fin 6) :
    ((s.report p (some .storeError) none none []).bay b).copy = (s.bay b).copy := by
  have settled (c : Fin 6) (t : Status) :
      ((s.settleRefused c p .storeError t).bay b).copy = (s.bay b).copy := by
    by_cases h : b = c <;> simp [State.settleRefused, h]
  unfold State.report
  dsimp only
  split
  · rfl
  · rfl
  · rfl
  · rfl
  · rw [State.reportBay, if_neg kind]
    exact settled _ _
  · rfl

/-- The close that ENGINE_FORMAT's FORMAT abandons is reported, when it has a source (R22). -/
def State.reportAbandoned (s : State) (cause : Option HaltCause) : State :=
  match cause with
  | some (.close c) =>
    if c.reports then
      s.report { kind := PostKind.dayClose.code, source := c.source, params := Params.zero, tray := [],
                 stamp := c.stamp } (some .storeError) none none []
    else s
  | _ => s

theorem State.forceFormat_eq (s : State) (between : Between) :
    s.forceFormat between =
      let u := s.formatHall Params.zero s.stamp between
      (State.reportAbandoned { u with engine := { u.engine with halt := none, work := .none } }
        s.engine.halt).endPosting := rfl

theorem State.reportAbandoned_engine (s : State) (cause : Option HaltCause) :
    (s.reportAbandoned cause).engine = s.engine := by
  unfold State.reportAbandoned
  split
  · split <;> simp
  · rfl

theorem State.reportAbandoned_shell (s : State) (cause : Option HaltCause) :
    SameShell s (s.reportAbandoned cause) := by
  unfold State.reportAbandoned
  split
  · exact .ite (State.report_shell _ _ _ _ _ _) (.refl s)
  · exact .refl s

theorem State.reportAbandoned_copy (s : State) (cause : Option HaltCause) (b : Fin 6) :
    ((s.reportAbandoned cause).bay b).copy = (s.bay b).copy := by
  unfold State.reportAbandoned
  split
  · split
    · exact State.reportStruck_copy (show PostKind.dayClose.code ≠ PostKind.iceHold.code by decide) b
    · rfl
  · rfl

/-- What ENGINE_FORMAT leaves beyond its FORMAT: the end of a posting, and no halt (R22, R23). -/
structure FormatEnds (u t : State) : Prop where
  copy : t.engine.copy = u.engine.copy
  guard : t.engine.guard = u.engine.guard
  halt : t.engine.halt = none
  mode : t.engine.mode = u.engine.mode
  tail : t.engine.tail = u.engine.tail
  bays : ∀ b : Fin 6, (t.bay b).copy = (u.bay b).copy
  path : ∀ p : PortId, t.path p = u.path p

theorem State.forceFormat_ends (s : State) (between : Between) :
    FormatEnds (s.formatHall Params.zero s.stamp between) (s.forceFormat between) := by
  rw [State.forceFormat_eq]
  generalize s.formatHall Params.zero s.stamp between = u
  dsimp only
  have engine := State.reportAbandoned_engine { u with engine := { u.engine with halt := none, work := .none } }
    s.engine.halt
  have shell := State.reportAbandoned_shell { u with engine := { u.engine with halt := none, work := .none } }
    s.engine.halt
  have copy := State.reportAbandoned_copy { u with engine := { u.engine with halt := none, work := .none } }
    s.engine.halt
  generalize State.reportAbandoned { u with engine := { u.engine with halt := none, work := .none } }
    s.engine.halt = v at engine shell copy ⊢
  have ended := v.endPosting_engine_frame
  rw [engine] at ended
  refine ⟨by rw [ended], by rw [ended], by rw [ended], by rw [ended], by rw [ended], fun b => ?_, fun p => ?_⟩
  · rw [State.bay, (State.endPosting_stations v).ice]
    exact copy b
  · exact (v.endPosting_shell.path p).trans (shell.path p)

/-! ## A tail write within a FORMAT -/

/-- The port that may write TAIL may still once FORMAT has written its engine record (R53). -/
theorem State.owns_of_shell {t : State} (shell : SameShell s t) {p : PortId} {book : Fin 7}
    (own : s.owns p book) : t.owns p book := by
  obtain ⟨⟨running, free⟩, may⟩ := own
  refine ⟨⟨shell.part.trans running, by rw [shell.path]; exact free⟩, ?_⟩
  rw [shell.side]
  simpa only [State.mayWrite, shell.copies] using may

section Between
variable (s : State) (ps : Params) (st : Stamp) (p : PortId) (w : Word)

theorem State.formatHall_before7_eq :
    s.formatHall ps st (tailsBetween [(.before7, p, w)]) =
      ((s.formatStores.arriveTail (p, w)).formatEngine.formatEntry ps st).formatEnd := by
  simp [State.formatHall, tailsBetween_single]

theorem State.formatHall_before8_eq :
    s.formatHall ps st (tailsBetween [(.before8, p, w)]) =
      ((s.formatStores.formatEngine.arriveTail (p, w)).formatEntry ps st).formatEnd := by
  simp [State.formatHall, tailsBetween_single]

theorem State.formatHall_before9_eq :
    s.formatHall ps st (tailsBetween [(.before9, p, w)]) =
      ((s.formatStores.formatEngine.formatEntry ps st).arriveTail (p, w)).formatEnd := by
  simp [State.formatHall, tailsBetween_single]

/-- With head and tail 0, a tail write of 0 alone is accepted (R42). -/
theorem State.formatEngine_tailAccepted : s.formatEngine.tailAccepted w = decide (w = 0) := by
  simp [State.tailAccepted, State.formatEngine_engine, formatRecord, BitVec.toNat_eq]

/-- With head 1 and tail 0, a tail write of 0 or 1 is accepted (R42). -/
theorem State.formatEntry_tailAccepted :
    (s.formatEngine.formatEntry ps st).tailAccepted w = decide (w.toNat ≤ 1) := by
  simp [State.tailAccepted, State.formatEngine_engine, State.formatEntry_engine, formatRecord]

theorem State.formatStores_running : s.formatStores.engine.state ≠ .journalWait := by
  simp [State.formatStores_engine]

theorem State.formatEngine_running : s.formatStores.formatEngine.engine.state ≠ .journalWait := by
  simp [State.formatEngine_engine, State.formatStores_engine]

theorem State.formatEntry_running :
    (s.formatStores.formatEngine.formatEntry ps st).engine.state ≠ .journalWait := by
  simp [State.formatEngine_engine, State.formatStores_engine, State.formatEntry_engine]

end Between

/-- A tail write of 0 or 1 that is accepted leaves 1 only when it is 1. -/
theorem tail_of_accepted (w : Word) :
    (if decide (w.toNat ≤ 1) = true then w else 0) = (if w = 1 then 1 else 0 : Word) := by
  by_cases one : w = 1
  · simp [one]
  · rw [if_neg one]
    by_cases small : w.toNat ≤ 1
    · rw [if_pos (by simpa using small)]
      bv_omega
    · rw [if_neg (by simpa using small)]

section Tail
variable {p : PortId} (own : s.owns p 0) (ps : Params) (st : Stamp) (w : Word)
include own

/-- The state at steps 7 and 8, where a tail write may come between (R33). -/
theorem State.format_owned :
    s.formatStores.owns p 0 ∧ s.formatStores.formatEngine.owns p 0 ∧
      (s.formatStores.formatEngine.formatEntry ps st).owns p 0 :=
  have stores := s.formatStores_shell
  have engine := stores.trans (State.formatEngine_shell _)
  ⟨State.owns_of_shell stores own, State.owns_of_shell engine own,
    State.owns_of_shell (engine.trans (State.formatEntry_shell _ _ _)) own⟩

/-- A tail write just before step 8 is accepted of 0 alone, and the tail is 0 (R33, R42). -/
theorem State.formatHall_before8 :
    (s.formatHall ps st (tailsBetween [(.before8, p, w)])).engine.tail = 0 ∧
    ((s.formatHall ps st (tailsBetween [(.before8, p, w)])).path p).answer =
      (if w = 0 then .done else .fault .badValue) := by
  obtain ⟨-, owned, -⟩ := State.format_owned own ps st
  obtain ⟨tail, answer, -⟩ := State.arriveTail_owned owned s.formatEngine_running w
  rw [State.formatEngine_tailAccepted] at tail answer
  rw [State.formatHall_before8_eq]
  constructor
  · rw [State.formatEnd_engine, State.formatEntry_engine]
    dsimp only
    rw [tail]
    by_cases h : w = 0 <;> simp [h, State.formatEngine_engine]
  · rw [(State.formatEnd_shell _).path, (State.formatEntry_shell _ _ _).path, answer]
    simp only [decide_eq_true_eq]

/-- A tail write just before step 9 is accepted of 0 and 1, and then is the tail (R33, R42). -/
theorem State.formatHall_before9 :
    (s.formatHall ps st (tailsBetween [(.before9, p, w)])).engine.tail = (if w = 1 then 1 else 0) ∧
    ((s.formatHall ps st (tailsBetween [(.before9, p, w)])).path p).answer =
      (if w.toNat ≤ 1 then .done else .fault .badValue) := by
  obtain ⟨-, -, owned⟩ := State.format_owned own ps st
  obtain ⟨tail, answer, -⟩ := State.arriveTail_owned owned (s.formatEntry_running ps st) w
  rw [State.formatEntry_tailAccepted] at tail answer
  rw [State.formatHall_before9_eq]
  constructor
  · rw [State.formatEnd_engine]
    dsimp only
    rw [tail, ← tail_of_accepted w, State.formatEntry_engine, State.formatEngine_engine]
  · rw [(State.formatEnd_shell _).path, answer]
    simp only [decide_eq_true_eq]

end Tail

/-- A FORMAT that ENGINE_FORMAT runs, with tail writes within it, is taken (R22, R33). -/
theorem State.commandWithin_runs {p : PortId} (own : s.owns p 0) (runs : s.commandRuns = true)
    (between : Between) :
    (s.commandWithin p fun t => t.formatCommand between) =
      ((s.dropSnapshot p).answer p .done).forceFormat between := by
  obtain ⟨⟨running, free⟩, may⟩ := own
  have office : s.side p = .office := of_decide_eq_true may
  have still : ((s.dropSnapshot p).answer p .done).commandRuns = true := by
    simpa only [State.commandRuns, State.answer_engine, State.dropSnapshot_engine] using runs
  have takes : s.takesCommand p = true := by simp [State.takesCommand, running, free, office]
  rw [State.commandWithin, takes, runs, Bool.and_self, if_pos rfl, State.formatCommand, if_pos still]

/-- Step 7 makes the tail 0, and nothing after it moves it (R32). -/
theorem State.formatHall_tail (s : State) (ps : Params) (st : Stamp) :
    (s.formatHall ps st undisturbed).engine.tail = 0 := by
  have hall : s.formatHall ps st undisturbed = (s.formatStores.formatEngine.formatEntry ps st).formatEnd := by
    simp only [State.formatHall, undisturbed]
  rw [hall, State.formatEnd_engine, State.formatEntry_engine, State.formatEngine_engine]

theorem State.answer_answer (s : State) (p : PortId) (r : Answer) : ((s.answer p r).path p).answer = r := by
  cases p <;> rfl

theorem State.takeCommand_format (s : State) : s.takeCommand 4 = s.formatCommand undisturbed := rfl

theorem exec_engineFormat (s : State) (p : PortId) :
    exec (.engineFormat p) s = .next (s.writeWord p (portAddr 0 0x004) 4) := rfl

/-- A tail write that carries an ENGINE_FORMAT (R33). -/
theorem exec_tailWrite_engineFormat (s : State) (p q : PortId) (w : Word) (point : RunPoint)
    (later : List (RunPoint × PortId × Word)) :
    exec (.tailWrite q ⟨w, some ⟨.engineFormat p, point, later⟩⟩) s =
      .next (s.commandWithin p fun t => t.formatCommand (tailsBetween ((point, q, w) :: later))) := rfl

/-- Settles O15: FORMAT's steps fix the engine's copies, whatever tail writes fall between them. -/
theorem engineFormatCommand : Obligations.EngineFormatCommand := by
  unfold Obligations.EngineFormatCommand
  intro s p own halted cause empty leaves
  have runs : s.commandRuns = true := by
    rcases cause with h | ⟨c, h⟩ <;> simp [State.commandRuns, halted, h]
  have emptied (u : State) (same : u.engine = s.engine) {between : Between} (tails : between.TailOnly) :
      empty (u.forceFormat between) := by
    have hall := u.formatHall_formatted Params.zero u.stamp tails
    have ends := u.forceFormat_ends between
    refine ⟨?_, ?_, ends.halt, ?_, fun b => (ends.bays b).trans (hall.bays b)⟩
    · rw [ends.copy, hall.engine]; rfl
    · rw [ends.guard, hall.engine]
    · rw [ends.mode, hall.engine, same]
  have within (q : PortId) (w : Word) (point : RunPoint) (later : List (RunPoint × PortId × Word)) :
      exec (.tailWrite q ⟨w, some ⟨.engineFormat p, point, later⟩⟩) s =
        .next (((s.dropSnapshot p).answer p .done).forceFormat (tailsBetween ((point, q, w) :: later))) := by
    rw [exec_tailWrite_engineFormat, State.commandWithin_runs own runs]
  have owned : ((s.dropSnapshot p).answer p .done).owns p 0 := by
    obtain ⟨⟨running, -⟩, may⟩ := own
    exact ⟨⟨by simp [running], by cases p <;> rfl⟩, by simpa [State.mayWrite] using may⟩
  refine ⟨?_, fun q w point later => ⟨_, within q w point later, emptied _ (by simp) (tailsBetween_tailOnly _)⟩,
    fun w => ⟨?_, ?_⟩⟩
  · have command : (s.dropSnapshot p).takeCommand 4 = (s.dropSnapshot p).forceFormat undisturbed := by
      rw [State.takeCommand_format, State.formatCommand, if_pos]
      simpa only [State.commandRuns, State.dropSnapshot_engine] using runs
    refine ⟨_, (exec_engineFormat s p).trans (congrArg _ (State.command_written own (by decide))), ?_⟩
    rw [command]
    obtain ⟨copy, guard, halt, mode, bays⟩ := emptied (s.dropSnapshot p) (by simp) undisturbed_tailOnly
    have tail : ((s.dropSnapshot p).forceFormat undisturbed).engine.tail = 0 := by
      rw [((s.dropSnapshot p).forceFormat_ends undisturbed).tail, State.formatHall_tail]
    exact ⟨⟨by simpa using copy, by simpa using guard, by simpa using halt, by simpa using mode,
      fun b => by simpa using bays b⟩, by simpa using tail, State.answer_answer _ _ _⟩
  · obtain ⟨tail, answer⟩ := State.formatHall_before8 owned Params.zero
      ((s.dropSnapshot p).answer p .done).stamp w
    have ends := ((s.dropSnapshot p).answer p .done).forceFormat_ends (tailsBetween [(.before8, p, w)])
    exact ⟨_, within p w .before8 [], ends.tail.trans tail, by rw [ends.path, answer]⟩
  · obtain ⟨tail, answer⟩ := State.formatHall_before9 owned Params.zero
      ((s.dropSnapshot p).answer p .done).stamp w
    have ends := ((s.dropSnapshot p).answer p .done).forceFormat_ends (tailsBetween [(.before9, p, w)])
    exact ⟨_, within p w .before9 [], ends.tail.trans tail, by rw [ends.path, answer]⟩

end Sys2Proof.Machine
end

section
/-! What the steps of FORMAT leave in the store (R32, R34, R205): book by book, with what each step keeps. -/

namespace Sys2Proof.Machine

/-! ## Words of the store -/

theorem Memory.word_clear_inside {m : Memory} (fuse : m.fuse = none) {a len b : Nat} (low : a ≤ b)
    (high : b + 4 ≤ a + len) : (m.clear a len).word b = 0 := by
  simp only [Memory.word, Memory.byte_clear fuse]
  rw [if_pos (by omega), if_pos (by omega), if_pos (by omega), if_pos (by omega)]
  rfl

theorem Memory.word_clear_apart {m : Memory} (fuse : m.fuse = none) {a len b : Nat}
    (apart : b + 4 ≤ a ∨ a + len ≤ b) : (m.clear a len).word b = m.word b := by
  simp only [Memory.word, Memory.byte_clear fuse]
  rw [if_neg (by omega), if_neg (by omega), if_neg (by omega), if_neg (by omega)]

/-- A write of the store makes no parity bit fail (R21, R58). -/
theorem Memory.splice_failing {m : Memory} {x n : Nat} (h : m.failing x n = false) (a len : Nat)
    (new : List Host.Cell) : (m.splice a len new).failing x n = false := by
  have replaced : (m.replace a len new).failing x n = false := by
    simp only [Memory.failing, List.any_eq_false, Memory.replace, List.mem_filter] at h ⊢
    exact fun y hy => h y hy.1
  unfold Memory.splice
  split
  · exact replaced
  · exact h
  · exact replaced

theorem Memory.putAll_failing {m : Memory} {x n : Nat} (h : m.failing x n = false) (ws : List (Nat × Word)) :
    (m.putAll ws).failing x n = false := by
  induction ws generalizing m with
  | nil => exact h
  | cons w ws ih => exact ih (Memory.splice_failing h _ _ _)

theorem Memory.words_zero {m : Memory} {a n : Nat} (h : ∀ i : Nat, i < n → m.word (a + 4 * i) = 0) :
    m.words a n = List.replicate n 0 := by
  induction n generalizing a with
  | zero => rfl
  | succ n ih =>
    rw [Memory.words, List.replicate_succ, ih fun i hi => ?_]
    · rw [show a = a + 4 * 0 from rfl, h 0 (by omega)]
    · rw [show a + 4 + 4 * i = a + 4 * (i + 1) by omega]
      exact h (i + 1) (by omega)

theorem mem_wordsAt {a : Nat} {ws : List Word} {w : Nat × Word} :
    w ∈ wordsAt a ws ↔ ∃ i, ∃ h : i < ws.length, w = (a + 4 * i, ws[i]) := by
  induction ws generalizing a with
  | nil => simp [wordsAt]
  | cons v vs ih =>
    rw [wordsAt, List.mem_cons, ih]
    constructor
    · rintro (rfl | ⟨i, h, rfl⟩)
      · exact ⟨0, by simp, rfl⟩
      · exact ⟨i + 1, by simpa using h, by simp only [List.getElem_cons_succ, Prod.mk.injEq, and_true]; omega⟩
    · rintro ⟨_ | i, h, rfl⟩
      · exact .inl rfl
      · exact .inr ⟨i, by simpa using h, by
          simp only [List.getElem_cons_succ, Prod.mk.injEq, and_true]; omega⟩

/-! ## Steps that write some books -/

/-- A word of a special book. -/
def State.InBook (s : State) (b : Fin 7) (a : Nat) : Prop :=
  s.base b ≤ a ∧ a + 4 ≤ s.base b + bookLimit b

/-- A step whose store writes all lie in some books: every word of another book stands. -/
structure WritesBooks (bs : List (Fin 7)) (s t : State) : Prop where
  profile : t.profile = s.profile
  fuse : s.store.fuse = none → t.store.fuse = none
  failing : ∀ a n : Nat, s.store.failing a n = false → t.store.failing a n = false
  word : ∀ r : Profile, s.profile = some r → r.isValid = true → s.store.fuse = none →
    ∀ b : Fin 7, b ∉ bs → ∀ a : Nat, s.InBook b a → t.store.word a = s.store.word a

namespace WritesBooks

theorem base {bs : List (Fin 7)} {s t : State} (h : WritesBooks bs s t) (b : Fin 7) : t.base b = s.base b := by
  simp only [State.base, h.profile]

theorem inBook {bs : List (Fin 7)} {s t : State} (h : WritesBooks bs s t) {b : Fin 7} {a : Nat} :
    t.InBook b a ↔ s.InBook b a := by
  simp only [State.InBook, h.base]

theorem trans {bs cs : List (Fin 7)} {s t u : State} (h : WritesBooks bs s t) (k : WritesBooks cs t u) :
    WritesBooks (bs ++ cs) s u :=
  ⟨k.profile.trans h.profile, fun fuse => k.fuse (h.fuse fuse), fun a n good => k.failing a n (h.failing a n good),
    fun r profile valid fuse b hb a inside => by
      rw [k.word r (h.profile.trans profile) valid (h.fuse fuse) b (fun m => hb (List.mem_append_right _ m)) a
        (h.inBook.2 inside), h.word r profile valid fuse b (fun m => hb (List.mem_append_left _ m)) a inside]⟩

/-- A step that writes no store word. -/
theorem of_store {s t : State} (profile : t.profile = s.profile) (store : t.store = s.store) :
    WritesBooks [] s t :=
  ⟨profile, fun h => by rw [store]; exact h, fun _ _ h => by rw [store]; exact h,
    fun _ _ _ _ _ _ _ _ => by rw [store]⟩

/-- A step that writes words of one book. -/
theorem of_putAll {s t : State} {b : Fin 7} {ws : List (Nat × Word)} (profile : t.profile = s.profile)
    (store : t.store = s.store.putAll ws) (inside : ∀ w ∈ ws, s.InBook b w.1) : WritesBooks [b] s t :=
  ⟨profile, fun h => by rw [store]; exact Memory.putAll_fuse h ws,
    fun _ _ h => by rw [store]; exact Memory.putAll_failing h ws,
    fun r held valid fuse c hc a ha => by
      rw [store, Memory.word_putAll_apart fuse]
      intro w hw
      obtain ⟨low, high⟩ := inside w hw
      obtain ⟨low', high'⟩ := ha
      have := State.books_apart held valid (i := c) (j := b) (by simpa using hc)
      omega⟩

/-- A step that clears one book. -/
theorem of_clear {s t : State} {b : Fin 7} (profile : t.profile = s.profile)
    (store : t.store = s.store.clear (s.base b) (bookLimit b)) : WritesBooks [b] s t :=
  ⟨profile, fun h => by rw [store]; exact Memory.clear_fuse h _ _,
    fun _ _ h => by rw [store]; exact Memory.splice_failing h _ _ _,
    fun r held valid fuse c hc a ha => by
      rw [store, Memory.word_clear_apart fuse]
      obtain ⟨low', high'⟩ := ha
      have := State.books_apart held valid (i := c) (j := b) (by simpa using hc)
      omega⟩

end WritesBooks

/-! ## Addresses in their books -/

section Address
variable (s : State)

theorem State.accountWord_inBook {n k : Nat} (hn : n < 256) (hk : k < 16) :
    s.InBook 1 (s.accountAddr n + 4 * k) := by
  constructor <;> simp only [State.accountAddr, bookLimit] <;> norm_num <;> omega
theorem State.lotWord_inBook {n k : Nat} (hn : n < 2048) (hk : k < 16) : s.InBook 2 (s.lotAddr n + 4 * k) := by
  constructor <;> simp only [State.lotAddr, bookLimit] <;> norm_num <;> omega
theorem State.crateWord_inBook {n k : Nat} (hn : n < 4096) (hk : k < 4) :
    s.InBook 3 (s.crateAddr n + 4 * k) := by
  constructor <;> simp only [State.crateAddr, bookLimit] <;> norm_num <;> omega
theorem State.entryWord_inBook {n k : Nat} (hn : n < 256) (hk : k < 64) :
    s.InBook 4 (s.entryAddr n + 4 * k) := by
  constructor <;> simp only [State.entryAddr, bookLimit] <;> norm_num <;> omega
theorem State.entryAddr_inBook {n : Nat} (hn : n < 256) : s.InBook 4 (s.entryAddr n) :=
  s.entryWord_inBook hn (k := 0) (by decide)
theorem State.bayWord_inBook {b k : Nat} (hb : b < 6) (hk : k < 16) : s.InBook 5 (s.bayAddr b + 4 * k) := by
  constructor <;> simp only [State.bayAddr, bookLimit] <;> norm_num <;> omega
theorem State.controlWord_inBook {off : Nat} (h : off + 4 ≤ 4096) : s.InBook 0 (s.controlAddr off) :=
  ⟨Nat.le_add_right .., by rw [State.controlAddr, Nat.add_assoc]; exact Nat.add_le_add_left h _⟩

end Address

/-! ## The books each step of FORMAT writes -/

section Books
variable (s : State)

theorem State.setEngineRecord_books (new : EngineRecord) : WritesBooks [0] s (s.setEngineRecord new) := by
  refine .of_putAll (s.setEngineRecord_shell new).profile (State.setEngineRecord_store (.refl s) rfl new) ?_
  intro w hw
  have := engineWrites_range hw
  constructor <;> simp only [State.engineAddr, bookLimit] at * <;> norm_num <;> omega

/-- Step 5 as writes (R32). -/
theorem State.formatJournal_store :
    s.formatJournal.store =
      s.store.putAll ((List.range 256).map fun slot => (s.entryAddr slot, entryEmpty)) := by
  rw [State.formatJournal, State.write_store]

theorem State.formatJournal_books : WritesBooks [4] s s.formatJournal := by
  refine .of_putAll s.formatJournal_shell.profile s.formatJournal_store fun w hw => ?_
  obtain ⟨slot, hs, rfl⟩ := List.mem_map.1 hw
  exact s.entryAddr_inBook (List.mem_range.1 hs)

theorem State.formatBay_store (b : Fin 6) :
    (s.formatBay b).store = s.store.putAll (wordsAt (s.bayAddr b.val) BayRecord.zero.words) := by
  rw [State.formatBay, State.setBayCopy_store, State.write_store]

theorem State.formatBay_books (b : Fin 6) : WritesBooks [5] s (s.formatBay b) := by
  refine .of_putAll (s.formatBay_shell b).profile (s.formatBay_store b) fun w hw => ?_
  obtain ⟨i, hi, rfl⟩ := mem_wordsAt.1 hw
  exact s.bayWord_inBook b.isLt (by simp only [BayRecord.words, List.length_cons, List.length_nil] at hi; omega)

theorem State.formatBays_books : WritesBooks [5, 5, 5, 5, 5, 5] s s.formatBays :=
  (((((s.formatBay_books 0).trans (State.formatBay_books _ 1)).trans (State.formatBay_books _ 2)).trans
    (State.formatBay_books _ 3)).trans (State.formatBay_books _ 4)).trans (State.formatBay_books _ 5)

/-- The words of the special accounts (R32). -/
def State.formatAccounts (s : State) : List (Nat × Word) :=
  formatAccount (s.accountAddr 0) kindHall ++ formatAccount (s.accountAddr 1) kindPool ++
    formatAccount (s.accountAddr 2) kindCash

theorem State.formatAccounts_mem {w : Nat × Word} (h : w ∈ s.formatAccounts) :
    ∃ n k : Nat, n ≤ 2 ∧ k ≤ 1 ∧ w.1 = s.accountAddr n + 4 * k := by
  simp only [State.formatAccounts, formatAccount, List.cons_append, List.nil_append, List.mem_cons,
    List.not_mem_nil, or_false] at h
  rcases h with rfl | rfl | rfl | rfl | rfl | rfl
  · exact ⟨0, 0, by decide, by decide, rfl⟩
  · exact ⟨0, 1, by decide, by decide, rfl⟩
  · exact ⟨1, 0, by decide, by decide, rfl⟩
  · exact ⟨1, 1, by decide, by decide, rfl⟩
  · exact ⟨2, 0, by decide, by decide, rfl⟩
  · exact ⟨2, 1, by decide, by decide, rfl⟩

/-- Step 2: book 1 cleared, and the special accounts. -/
def State.formatAccountBook (s : State) : State :=
  { s with store := (s.store.clear (s.base 1) (bookLimit 1)).putAll s.formatAccounts }

theorem State.formatAccountBook_books : WritesBooks [1, 1] s s.formatAccountBook := by
  have cleared : WritesBooks [1] s { s with store := s.store.clear (s.base 1) (bookLimit 1) } :=
    .of_clear rfl rfl
  refine cleared.trans (.of_putAll (ws := s.formatAccounts) rfl rfl fun w hw => ?_)
  obtain ⟨n, k, hn, hk, at_⟩ := s.formatAccounts_mem hw
  rw [at_]
  exact s.accountWord_inBook (by omega) (by omega)

/-- Steps 3 and 4: books 2 and 3 cleared. -/
theorem State.formatRecords_eq :
    s.formatRecords = { s.formatAccountBook with
      store := (s.formatAccountBook.store.clear (s.base 2) (bookLimit 2)).clear (s.base 3) (bookLimit 3) } := rfl

theorem State.formatRecords_books : WritesBooks [2, 3] s.formatAccountBook s.formatRecords := by
  have lots : WritesBooks [2] s.formatAccountBook { s.formatAccountBook with
      store := s.formatAccountBook.store.clear (s.base 2) (bookLimit 2) } := .of_clear rfl rfl
  exact lots.trans (.of_clear rfl (by rw [State.formatRecords_eq]; rfl))

/-- The entry of step 8 (R32). -/
def formatDraft (ps : Params) (st : Stamp) : JournalEntry :=
  { kind := PostKind.format.code, source := .desk, reason := none, stamp := st, params := ps, tray := [],
    images := [] }

theorem State.formatEntry_eq (ps : Params) (st : Stamp) :
    s.formatEntry ps st = s.writeEntry (formatDraft ps st) (formatRecord 1 formatting) := rfl

/-- An entry with no record image is its slot and the engine record (R47). -/
theorem State.entryWrites_bare {e : JournalEntry} (bare : e.images = []) (new : EngineRecord) :
    s.entryWrites e new = s.openWrites e new entryDone ++ engineWrites s.engineAddr s.engine.copy new := by
  simp only [State.entryWrites, State.slotWrites, bare, List.isEmpty_nil, if_true]

/-- The entry of step 8 in its slot. -/
def State.formatSlot (s : State) (ps : Params) (st : Stamp) : State :=
  { s with store := s.store.putAll (s.openWrites (formatDraft ps st) (formatRecord 1 formatting) entryDone) }

theorem State.formatSlot_store (ps : Params) (st : Stamp) :
    (s.formatSlot ps st).store =
      s.store.putAll (s.openWrites (formatDraft ps st) (formatRecord 1 formatting) entryDone) := by
  simp only [State.formatSlot]

theorem State.formatEntry_store (ps : Params) (st : Stamp) :
    (s.formatEntry ps st).store = (s.formatSlot ps st).store.putAll
      (engineWrites s.engineAddr s.engine.copy (formatRecord 1 formatting)) := by
  rw [State.formatEntry_eq, State.writeEntry_store, State.entryWrites_bare s rfl, Memory.putAll_append,
    State.formatSlot_store]

theorem State.formatSlot_books (ps : Params) (st : Stamp) : WritesBooks [4] s (s.formatSlot ps st) := by
  refine .of_putAll (s.store_shell _).profile (s.formatSlot_store ps st) fun w hw => ?_
  have := State.openWrites_range hw
  have := s.entryAddr_book s.engine.copy.head
  have limit : bookLimit 4 = 65536 := rfl
  exact ⟨by omega, by omega⟩

theorem State.formatEntry_books (ps : Params) (st : Stamp) : WritesBooks [4, 0] s (s.formatEntry ps st) := by
  have slot := s.formatSlot_books ps st
  have profile : (s.formatEntry ps st).profile = (s.formatSlot ps st).profile :=
    (s.formatEntry_shell ps st).profile.trans slot.profile.symm
  refine slot.trans (.of_putAll profile (s.formatEntry_store ps st) fun w hw => ?_)
  have := engineWrites_range hw
  have base := slot.base 0
  have limit : bookLimit 0 = 4096 := rfl
  simp only [State.engineAddr] at this
  exact ⟨by omega, by omega⟩

theorem State.formatEngine_books : WritesBooks [0, 0] s s.formatEngine := by
  refine (s.setEngineRecord_books (formatRecord 0 formatting)).trans
    (.of_putAll (ws := [(s.controlAddr 0xA0, 0)]) rfl rfl fun w hw => ?_)
  cases List.mem_singleton.1 hw
  exact s.controlWord_inBook (by decide)

theorem State.formatEnd_books : WritesBooks [0] s s.formatEnd :=
  (s.setEngineRecord_books (formatRecord 1 formatted)).trans (.of_store rfl rfl)

end Books

end Sys2Proof.Machine
end

section
/-! The words that FORMAT leaves: an empty hall (R32), its one entry (R34), and the engine record (R205). -/

namespace Sys2Proof.Machine

/-- The kinds of the special accounts (R32). -/
def specialKind (n : Nat) : BitVec 3 :=
  if n = 0 then kindHall else if n = 1 then kindPool else if n = 2 then kindCash else kindUnused

/-- The words of an account record after FORMAT (R32). -/
def formatAccountWord (n k : Nat) : Word :=
  if n ≤ 2 then if k = 0 then 0#22 ++ accountOpen ++ 0#5 ++ specialKind n else if k = 1 then 1 else 0 else 0

/-- Step 1 of FORMAT: the engine record FORMATTING (R32). -/
def State.formatBegun (s : State) : State :=
  ({ s with engine := { s.engine with state := .formatting } } : State).setEngineRecord
    { s.engine.copy with formatState := formatting }

theorem State.formatStores_eq (s : State) :
    s.formatStores = s.formatBegun.formatRecords.formatJournal.formatBays := rfl

theorem State.formatBegun_books (s : State) : WritesBooks [0] s s.formatBegun :=
  (WritesBooks.of_store (s := s) (t := { s with engine := { s.engine with state := .formatting } }) rfl rfl).trans
    (State.setEngineRecord_books _ _)

theorem State.formatStores_books (s : State) :
    WritesBooks [0, 1, 1, 2, 3, 4, 5, 5, 5, 5, 5, 5] s s.formatStores := by
  rw [State.formatStores_eq]
  exact (((s.formatBegun_books.trans (State.formatAccountBook_books _)).trans
    (State.formatRecords_books _)).trans (State.formatJournal_books _)).trans (State.formatBays_books _)

section Steps
variable {s : State}

/-! ## The records, step by step -/

theorem State.formatAccounts_ascending (s : State) : Ascending s.formatAccounts := by
  simp [Ascending, State.formatAccounts, formatAccount, State.accountAddr]

theorem State.mem_formatAccounts (s : State) {n k : Nat} (hn : n ≤ 2) (hk : k ≤ 1) :
    (s.accountAddr n + 4 * k, formatAccountWord n k) ∈ s.formatAccounts := by
  interval_cases n <;> interval_cases k <;>
    simp [State.formatAccounts, formatAccount, State.accountAddr, formatAccountWord, specialKind]

theorem State.formatAccountBook_word (fuse : s.store.fuse = none) {n k : Nat} (hn : n < 256) (hk : k < 16) :
    s.formatAccountBook.store.word (s.accountAddr n + 4 * k) = formatAccountWord n k := by
  have cleared := Memory.clear_fuse fuse (s.base 1) (bookLimit 1)
  obtain ⟨low, high⟩ := s.accountWord_inBook hn hk
  have zero : (s.store.clear (s.base 1) (bookLimit 1)).word (s.accountAddr n + 4 * k) = 0 :=
    Memory.word_clear_inside fuse low high
  show ((s.store.clear (s.base 1) (bookLimit 1)).putAll s.formatAccounts).word _ = _
  by_cases special : n ≤ 2 ∧ k ≤ 1
  · have mem := s.mem_formatAccounts special.1 special.2
    exact Memory.word_putAll cleared (fun w hw => s.formatAccounts_ascending.agree mem hw) (.inr mem)
  · rw [Memory.word_putAll_apart cleared, zero]
    · unfold formatAccountWord
      split
      · rw [if_neg (by omega), if_neg (by omega)]
      · rfl
    · intro w hw
      obtain ⟨m, j, hm, hj, at_⟩ := s.formatAccounts_mem hw
      rw [at_]
      simp only [State.accountAddr]
      omega

theorem State.formatRecords_word {r : Profile} (profile : s.profile = some r) (valid : r.isValid = true)
    (fuse : s.store.fuse = none) {b : Fin 7} (hb : b = 2 ∨ b = 3) {a : Nat} (inside : s.InBook b a) :
    s.formatRecords.store.word a = 0 := by
  have account := s.formatAccountBook_books
  have fuse1 := account.fuse fuse
  have fuse2 := Memory.clear_fuse fuse1 (s.base 2) (bookLimit 2)
  obtain ⟨low, high⟩ := inside
  rw [State.formatRecords_eq]
  rcases hb with rfl | rfl
  · have apart := State.books_apart profile valid (i := 2) (j := 3) (by decide)
    exact (Memory.word_clear_apart fuse2 (by omega)).trans (Memory.word_clear_inside fuse1 low high)
  · exact Memory.word_clear_inside fuse2 low high

theorem State.formatJournal_word (fuse : s.store.fuse = none) {slot : Nat} (h : slot < 256) :
    s.formatJournal.store.word (s.entryAddr slot) = 0 := by
  rw [State.formatJournal_store]
  refine Memory.word_putAll fuse (fun w hw => ?_) (.inr (List.mem_map.2 ⟨slot, List.mem_range.2 h, rfl⟩))
  obtain ⟨other, -, rfl⟩ := List.mem_map.1 hw
  by_cases e : slot = other
  · rw [e]; exact .refl _
  · refine .of_apart ?_
    simp only [State.entryAddr]
    omega

/-- A bay's step 6 zeroes its own record. -/
theorem State.formatBay_word (fuse : s.store.fuse = none) (b : Fin 6) {k : Nat} (hk : k < 8) :
    (s.formatBay b).store.word (s.bayAddr b.val + 4 * k) = 0 := by
  rw [State.formatBay_store]
  have mem : (s.bayAddr b.val + 4 * k, (0 : Word)) ∈ wordsAt (s.bayAddr b.val) BayRecord.zero.words := by
    refine mem_wordsAt.2 ⟨k, hk, ?_⟩
    interval_cases k <;> rfl
  exact Memory.word_putAll fuse (fun w hw => (wordsAt_ascending _ _).agree mem hw) (.inr mem)

/-- A bay's step 6 leaves the other bays' words. -/
theorem State.formatBay_word_other (fuse : s.store.fuse = none) {b : Fin 6} {c k : Nat} (ne : c ≠ b.val)
    (hk : k < 16) : (s.formatBay b).store.word (s.bayAddr c + 4 * k) = s.store.word (s.bayAddr c + 4 * k) := by
  rw [State.formatBay_store, Memory.word_putAll_apart fuse]
  intro w hw
  have := wordsAt_range hw
  simp only [BayRecord.words, List.length_cons, List.length_nil] at this
  simp only [State.bayAddr] at *
  omega

theorem State.formatBay_bayAddr (s : State) (b : Fin 6) (c : Nat) : (s.formatBay b).bayAddr c = s.bayAddr c := by
  simp only [State.bayAddr, (s.formatBay_shell b).base]

/-- The bays whose step 6 is done keep their zeros. -/
theorem State.formatBay_zeros (fuse : s.store.fuse = none) {b : Fin 6} {k : Nat} (hk : k < 8)
    (h : ∀ c : Nat, c < b.val → s.store.word (s.bayAddr c + 4 * k) = 0) :
    (s.formatBay b).store.fuse = none ∧ ∀ c : Nat, c < b.val + 1 →
      (s.formatBay b).store.word ((s.formatBay b).bayAddr c + 4 * k) = 0 := by
  refine ⟨(s.formatBay_books b).fuse fuse, fun c hc => ?_⟩
  rw [State.formatBay_bayAddr]
  rcases Nat.lt_or_eq_of_le (Nat.le_of_lt_succ hc) with lt | rfl
  · rw [State.formatBay_word_other fuse (by omega) (by omega), h c lt]
  · exact State.formatBay_word fuse b hk

theorem State.formatBays_word (fuse : s.store.fuse = none) {b k : Nat} (hb : b < 6) (hk : k < 8) :
    s.formatBays.store.word (s.formatBays.bayAddr b + 4 * k) = 0 := by
  obtain ⟨fuse0, zero0⟩ := State.formatBay_zeros (b := 0) fuse hk fun c hc => absurd hc (Nat.not_lt_zero c)
  obtain ⟨fuse1, zero1⟩ := State.formatBay_zeros (b := 1) fuse0 hk zero0
  obtain ⟨fuse2, zero2⟩ := State.formatBay_zeros (b := 2) fuse1 hk zero1
  obtain ⟨fuse3, zero3⟩ := State.formatBay_zeros (b := 3) fuse2 hk zero2
  obtain ⟨fuse4, zero4⟩ := State.formatBay_zeros (b := 4) fuse3 hk zero3
  exact (State.formatBay_zeros (b := 5) fuse4 hk zero4).2 b hb

end Steps

/-! ## The empty hall -/

/-- The words of the records of an empty hall (R32). -/
structure EmptyHall (t : State) : Prop where
  account : ∀ n k : Nat, n < 256 → k < 16 → t.store.word (t.accountAddr n + 4 * k) = formatAccountWord n k
  lot : ∀ n k : Nat, n < 2048 → k < 16 → t.store.word (t.lotAddr n + 4 * k) = 0
  crate : ∀ n k : Nat, n < 4096 → k < 4 → t.store.word (t.crateAddr n + 4 * k) = 0
  bay : ∀ b k : Nat, b < 6 → k < 8 → t.store.word (t.bayAddr b + 4 * k) = 0

/-- A step that writes other books leaves an empty hall empty. -/
theorem EmptyHall.of_books {s t : State} {bs : List (Fin 7)} (h : EmptyHall s) (writes : WritesBooks bs s t)
    {r : Profile} (profile : s.profile = some r) (valid : r.isValid = true) (fuse : s.store.fuse = none)
    (others : 1 ∉ bs ∧ 2 ∉ bs ∧ 3 ∉ bs ∧ 5 ∉ bs) : EmptyHall t := by
  obtain ⟨account, lot, crate, bay⟩ := h
  obtain ⟨no1, no2, no3, no5⟩ := others
  have same {b : Fin 7} (hb : b ∉ bs) {a : Nat} (inside : s.InBook b a) : t.store.word a = s.store.word a :=
    writes.word r profile valid fuse b hb a inside
  refine ⟨fun n k hn hk => ?_, fun n k hn hk => ?_, fun n k hn hk => ?_, fun b k hb hk => ?_⟩
  · rw [State.accountAddr, writes.base]
    exact (same no1 (s.accountWord_inBook hn hk)).trans (account n k hn hk)
  · rw [State.lotAddr, writes.base]
    exact (same no2 (s.lotWord_inBook hn hk)).trans (lot n k hn hk)
  · rw [State.crateAddr, writes.base]
    exact (same no3 (s.crateWord_inBook hn hk)).trans (crate n k hn hk)
  · rw [State.bayAddr, writes.base]
    exact (same no5 (s.bayWord_inBook hb (by omega))).trans (bay b k hb hk)

section Empty
variable {s : State} {r : Profile} (profile : s.profile = some r) (valid : r.isValid = true)
  (fuse : s.store.fuse = none)
include profile valid fuse

/-- Steps 1 to 6 of FORMAT empty the hall (R32). -/
theorem State.formatStores_empty : EmptyHall s.formatStores := by
  have begun := s.formatBegun_books
  have accounts := s.formatBegun.formatAccountBook_books
  have records := s.formatBegun.formatRecords_books
  have journal := s.formatBegun.formatRecords.formatJournal_books
  have bays := s.formatBegun.formatRecords.formatJournal.formatBays_books
  have profile1 := begun.profile.trans profile
  have fuse1 := begun.fuse fuse
  have profile2 := accounts.profile.trans profile1
  have fuse2 := accounts.fuse fuse1
  have profile3 := records.profile.trans profile2
  have fuse3 := records.fuse fuse2
  have fuse4 := journal.fuse fuse3
  have later := journal.trans bays
  have base (b : Fin 7) : s.formatStores.base b = s.formatBegun.base b := by
    rw [State.formatStores_eq, later.base, records.base, accounts.base]
  have kept {b : Fin 7} (hb : b ∉ [4, 5, 5, 5, 5, 5, 5]) {a : Nat} (inside : s.formatBegun.InBook b a) :
      s.formatStores.store.word a = s.formatBegun.formatRecords.store.word a :=
    later.word r profile3 valid fuse3 b hb a (records.inBook.2 (accounts.inBook.2 inside))
  refine ⟨fun n k hn hk => ?_, fun n k hn hk => ?_, fun n k hn hk => ?_, fun b k hb hk => ?_⟩
  · have inside := s.formatBegun.accountWord_inBook hn hk
    rw [State.accountAddr, base, ← State.accountAddr, kept (by decide) inside,
      records.word r profile2 valid fuse2 1 (by decide) _ (accounts.inBook.2 inside)]
    exact State.formatAccountBook_word fuse1 hn hk
  · have inside := s.formatBegun.lotWord_inBook hn hk
    rw [State.lotAddr, base, ← State.lotAddr, kept (by decide) inside]
    exact State.formatRecords_word profile1 valid fuse1 (.inl rfl) inside
  · have inside := s.formatBegun.crateWord_inBook hn hk
    rw [State.crateAddr, base, ← State.crateAddr, kept (by decide) inside]
    exact State.formatRecords_word profile1 valid fuse1 (.inr rfl) inside
  · exact State.formatBays_word fuse4 hb hk

/-- After step 5 every entry is EMPTY (R32). -/
theorem State.formatStores_entry {slot : Nat} (h : slot < 256) :
    s.formatStores.store.word (s.formatStores.entryAddr slot) = 0 := by
  have before := ((s.formatBegun_books.trans s.formatBegun.formatAccountBook_books).trans
    s.formatBegun.formatRecords_books)
  have journal := s.formatBegun.formatRecords.formatJournal_books
  have bays := s.formatBegun.formatRecords.formatJournal.formatBays_books
  have fuse3 := before.fuse fuse
  have inside := s.formatBegun.formatRecords.formatJournal.entryAddr_inBook h
  have word := bays.word r (journal.profile.trans (before.profile.trans profile)) valid (journal.fuse fuse3) 4
    (by decide) _ inside
  rw [State.formatStores_eq, State.entryAddr, bays.base]
  refine word.trans ?_
  rw [State.entryAddr, journal.base]
  exact State.formatJournal_word fuse3 h

end Empty

end Sys2Proof.Machine
end

section
/-! The engine record, the journal tail and the entry that FORMAT leaves (R32, R34, R205), and FORMAT as the
posting in hand (R31, R33). -/

namespace Sys2Proof.Machine

/-! ## The engine record through FORMAT -/

/-- The store's engine record is the engine's copy (R7). -/
def State.RecordHeld (s : State) : Prop := RecordAt s.store s.engineAddr s.engine.copy

/-- An engine record reads the same from the same words. -/
theorem RecordAt.of_words {m n : Memory} {a : Nat} {r : EngineRecord} (h : RecordAt m a r)
    (same : ∀ k : Nat, k ≤ 12 → n.word (a + k) = m.word (a + k)) : RecordAt n a r := by
  obtain ⟨head, nextLot, day, dayState, formatState⟩ := h
  exact ⟨(same 0 (by decide)).trans head, (same 4 (by decide)).trans nextLot, (same 8 (by decide)).trans day,
    by rw [same 12 (by decide), dayState], by rw [same 12 (by decide), formatState]⟩

section Steps
variable {s : State}

theorem State.engineWord_inBook (s : State) {k : Nat} (hk : k ≤ 12) : s.InBook 0 (s.engineAddr + k) := by
  have inside := s.controlWord_inBook (off := 0x80 + k) (by omega)
  rwa [State.controlAddr, ← Nat.add_assoc] at inside

theorem State.RecordHeld.of_books {t : State} {bs : List (Fin 7)} (h : s.RecordHeld) (writes : WritesBooks bs s t)
    {r : Profile} (profile : s.profile = some r) (valid : r.isValid = true) (fuse : s.store.fuse = none)
    (other : 0 ∉ bs) (copy : t.engine.copy = s.engine.copy) : t.RecordHeld := by
  have address : t.engineAddr = s.engineAddr := by simp only [State.engineAddr, writes.base]
  rw [State.RecordHeld, address, copy]
  exact RecordAt.of_words h fun k hk =>
    writes.word r profile valid fuse 0 other _ (s.engineWord_inBook hk)

theorem State.RecordHeld.setEngineRecord (h : s.RecordHeld) (fuse : s.store.fuse = none) (new : EngineRecord) :
    (s.setEngineRecord new).RecordHeld := by
  rw [State.RecordHeld, State.setEngineRecord_store (.refl s) rfl]
  exact RecordAt.engineWrites fuse h new

/-- A write of the engine record leaves the words beside it. -/
theorem State.setEngineRecord_word (fuse : s.store.fuse = none) (new : EngineRecord) {a : Nat}
    (apart : a + 4 ≤ s.engineAddr ∨ s.engineAddr + 16 ≤ a) :
    (s.setEngineRecord new).store.word a = s.store.word a := by
  rw [State.setEngineRecord_store (.refl s) rfl, Memory.word_putAll_apart fuse]
  intro w hw
  have := engineWrites_range hw
  omega

theorem State.tailWord_apart (s : State) :
    s.controlAddr 0xA0 + 4 ≤ s.engineAddr ∨ s.engineAddr + 16 ≤ s.controlAddr 0xA0 := by
  simp only [State.controlAddr, State.engineAddr]
  omega

/-! ## Step 7 -/

theorem State.formatEngine_store (s : State) :
    s.formatEngine.store =
      (s.setEngineRecord (formatRecord 0 formatting)).store.putAll [(s.controlAddr 0xA0, 0)] := rfl

/-- Step 7 leaves the journal tail 0 (R32). -/
theorem State.formatEngine_tailWord (fuse : s.store.fuse = none) :
    s.formatEngine.store.word (s.controlAddr 0xA0) = 0 := by
  rw [State.formatEngine_store]
  exact Memory.word_putWord_same ((State.setEngineRecord_books _ _).fuse fuse) _ _

theorem State.formatEngine_held (h : s.RecordHeld) (fuse : s.store.fuse = none) : s.formatEngine.RecordHeld := by
  have held := h.setEngineRecord fuse (formatRecord 0 formatting)
  have address : s.formatEngine.engineAddr = (s.setEngineRecord (formatRecord 0 formatting)).engineAddr := rfl
  have copy : s.formatEngine.engine.copy = (s.setEngineRecord (formatRecord 0 formatting)).engine.copy := rfl
  rw [State.RecordHeld, address, copy, State.formatEngine_store]
  refine RecordAt.of_words held fun k hk =>
    Memory.word_putAll_apart ((State.setEngineRecord_books _ _).fuse fuse) fun w hw => ?_
  cases List.mem_singleton.1 hw
  left
  simp only [State.controlAddr, State.engineAddr, (s.setEngineRecord_shell _).base]
  omega

/-! ## Step 8 -/

theorem State.formatSlot_engine (s : State) (ps : Params) (st : Stamp) :
    (s.formatSlot ps st).engine = s.engine := by
  simp only [State.formatSlot]

section Entry
variable {r : Profile} (profile : s.profile = some r) (valid : r.isValid = true) (fuse : s.store.fuse = none)
  (ps : Params) (st : Stamp)
include profile valid fuse

theorem State.formatEntry_held (h : s.RecordHeld) : (s.formatEntry ps st).RecordHeld := by
  have slot := s.formatSlot_books ps st
  have held : (s.formatSlot ps st).RecordHeld :=
    h.of_books slot profile valid fuse (by decide) (by rw [State.formatSlot_engine])
  have address : (s.formatEntry ps st).engineAddr = s.engineAddr :=
    State.engineAddr_shell (s.formatEntry_shell ps st)
  rw [State.RecordHeld, State.engineAddr, slot.base, State.formatSlot_engine] at held
  rw [State.RecordHeld, address, State.formatEntry_engine, State.formatEntry_store]
  exact RecordAt.engineWrites (slot.fuse fuse) held _

/-- Step 8 leaves the journal tail (R32). -/
theorem State.formatEntry_tailWord :
    (s.formatEntry ps st).store.word (s.controlAddr 0xA0) = s.store.word (s.controlAddr 0xA0) := by
  have slot := s.formatSlot_books ps st
  rw [State.formatEntry_store, Memory.word_putAll_apart (slot.fuse fuse)]
  · exact slot.word r profile valid fuse 0 (by decide) _ (s.controlWord_inBook (by decide))
  · intro w hw
    have := engineWrites_range hw
    have := s.tailWord_apart
    omega

/-- With head 0, step 8 writes the entry of slot 0 DONE and no other (R32, R34). -/
theorem State.formatEntry_entry (head : s.engine.copy.head = 0) {slot : Nat} (h : slot < 256) :
    (s.formatEntry ps st).store.word (s.entryAddr slot) =
      if slot = 0 then entryDone else s.store.word (s.entryAddr slot) := by
  have books := s.formatSlot_books ps st
  have zero : entrySlot s.engine.copy.head = 0 := by rw [head]; rfl
  have record : WritesBooks [0] (s.formatSlot ps st) (s.formatEntry ps st) := by
    refine .of_putAll ((s.formatEntry_shell ps st).profile.trans books.profile.symm)
      (s.formatEntry_store ps st) fun w hw => ?_
    have := engineWrites_range hw
    have base := books.base 0
    have limit : bookLimit 0 = 4096 := rfl
    simp only [State.engineAddr] at this
    exact ⟨by omega, by omega⟩
  have inside := s.entryAddr_inBook h
  have kept : (s.formatEntry ps st).store.word (s.entryAddr slot) =
      (s.formatSlot ps st).store.word (s.entryAddr slot) :=
    record.word r (books.profile.trans profile) valid (books.fuse fuse) 4 (by decide) _ (books.inBook.2 inside)
  rw [kept, State.formatSlot_store]
  split
  · next e =>
    obtain ⟨done, -⟩ := s.openWrites_stand (formatDraft ps st) (formatRecord 1 formatting) entryDone fuse
    rw [zero] at done
    rw [e, done]
  · next e =>
    refine Memory.word_putAll_apart fuse fun w hw => ?_
    have range := State.openWrites_range hw
    rw [zero] at range
    simp only [State.entryAddr] at *
    omega

end Entry

/-! ## Step 9 -/

theorem State.formatEnd_store (s : State) :
    s.formatEnd.store = (s.setEngineRecord (formatRecord 1 formatted)).store := rfl

theorem State.formatEnd_held (h : s.RecordHeld) (fuse : s.store.fuse = none) : s.formatEnd.RecordHeld :=
  h.setEngineRecord fuse (formatRecord 1 formatted)

theorem State.formatEnd_tailWord (fuse : s.store.fuse = none) :
    s.formatEnd.store.word (s.controlAddr 0xA0) = s.store.word (s.controlAddr 0xA0) := by
  rw [State.formatEnd_store, State.setEngineRecord_word fuse _ s.tailWord_apart]

/-- Step 9 writes the state word whatever the store held (R205). -/
theorem State.formatEnd_stateWord (fuse : s.store.fuse = none)
    (copy : s.engine.copy = formatRecord 1 formatting) :
    s.formatEnd.store.word (s.engineAddr + 12) = (formatRecord 1 formatted).stateWord := by
  have changed : (formatRecord 1 formatted).stateWord ≠ (formatRecord 1 formatting).stateWord := by decide
  rw [State.formatEnd_store, State.setEngineRecord_store (.refl s) rfl, copy]
  exact Memory.word_putAll fuse (fun w hw => engineWrites_agree (by simp [wordsAt]) hw)
    (.inr (mem_engineWrites.2 (.inr (.inr (.inl ⟨changed, rfl⟩)))))

/-- An engine record whose state word is step 9's is good when its bytes are (R205). -/
theorem State.engineRecordGood_of_stateWord (good : s.store.failing s.engineAddr 16 = false)
    (word : s.store.word (s.engineAddr + 12) = (formatRecord 1 formatted).stateWord) :
    s.engineRecordGood = true := by
  simp only [State.engineRecordGood, State.engineRecord, good, word]
  decide

end Steps

end Sys2Proof.Machine
end

section
/-! FORMAT as the posting in hand, with what may fall between its steps (R31 to R33). -/

namespace Sys2Proof.Machine

/-! ## The hall that FORMAT builds -/

/-- What FORMAT leaves in the store (R32, R34, R205). -/
structure HallBuilt (s t : State) : Prop where
  fuse : t.store.fuse = none
  empty : EmptyHall t
  entry : ∀ slot : Nat, slot < 256 → t.store.word (t.entryAddr slot) = if slot = 0 then entryDone else 0
  tailWord : t.store.word (t.controlAddr 0xA0) = 0
  record : s.RecordHeld → t.RecordHeld
  good : s.store.failing s.engineAddr 16 = false → t.engineRecordGood = true

theorem State.formatHall_undisturbed (s : State) (ps : Params) (st : Stamp) :
    s.formatHall ps st undisturbed = (s.formatStores.formatEngine.formatEntry ps st).formatEnd := by
  simp only [State.formatHall, undisturbed]

theorem State.formatBegun_held {s : State} (h : s.RecordHeld) (fuse : s.store.fuse = none) :
    s.formatBegun.RecordHeld :=
  State.RecordHeld.setEngineRecord
    (s := { s with engine := { s.engine with state := .formatting } }) h fuse _

/-- A state whose profile is valid and whose store no reset has cut off (R201, log 8). -/
structure Ready (r : Profile) (s : State) : Prop where
  profile : s.profile = some r
  valid : r.isValid = true
  fuse : s.store.fuse = none

theorem Ready.of_books {r : Profile} {bs : List (Fin 7)} {s t : State} (h : Ready r s)
    (writes : WritesBooks bs s t) : Ready r t :=
  ⟨writes.profile.trans h.profile, h.valid, writes.fuse h.fuse⟩

theorem Ready.kept {r : Profile} {bs : List (Fin 7)} {s t : State} (h : Ready r s) (writes : WritesBooks bs s t)
    {b : Fin 7} (hb : b ∉ bs) {a : Nat} (inside : s.InBook b a) : t.store.word a = s.store.word a :=
  writes.word r h.profile h.valid h.fuse b hb a inside

theorem WritesBooks.controlAddr {bs : List (Fin 7)} {s t : State} (h : WritesBooks bs s t) (off : Nat) :
    t.controlAddr off = s.controlAddr off := by
  simp only [State.controlAddr, h.base]

theorem WritesBooks.entryAddr {bs : List (Fin 7)} {s t : State} (h : WritesBooks bs s t) (slot : Nat) :
    t.entryAddr slot = s.entryAddr slot := by
  simp only [State.entryAddr, h.base]

theorem WritesBooks.engineAddr {bs : List (Fin 7)} {s t : State} (h : WritesBooks bs s t) :
    t.engineAddr = s.engineAddr := by
  simp only [State.engineAddr, h.base]

section Built
variable {s : State} {r : Profile} (ready : Ready r s) (ps : Params) (st : Stamp)
include ready

/-- Steps 8 and 9 leave the journal tail (R32). -/
theorem State.formatLast_tailWord :
    (s.formatEntry ps st).formatEnd.store.word ((s.formatEntry ps st).formatEnd.controlAddr 0xA0) =
      s.store.word (s.controlAddr 0xA0) := by
  have entry := s.formatEntry_books ps st
  have ended := State.formatEnd_tailWord (ready.of_books entry).fuse
  rw [(State.formatEnd_books _).controlAddr, ended, entry.controlAddr]
  exact State.formatEntry_tailWord ready.profile ready.valid ready.fuse ps st

/-- Step 7 leaves the journal tail 0, and steps 8 and 9 leave it (R32). -/
theorem State.formatFrom7_tailWord :
    (s.formatEngine.formatEntry ps st).formatEnd.store.word
      ((s.formatEngine.formatEntry ps st).formatEnd.controlAddr 0xA0) = 0 := by
  have engine := s.formatEngine_books
  rw [State.formatLast_tailWord (ready.of_books engine) ps st, engine.controlAddr]
  exact State.formatEngine_tailWord ready.fuse

/-- From EMPTY entries, steps 7 to 9 write the entry of slot 0 alone (R32). -/
theorem State.formatFrom7_entry {slot : Nat} (h : slot < 256) (empty : s.store.word (s.entryAddr slot) = 0) :
    (s.formatEngine.formatEntry ps st).formatEnd.store.word
      ((s.formatEngine.formatEntry ps st).formatEnd.entryAddr slot) = if slot = 0 then entryDone else 0 := by
  have engine := s.formatEngine_books
  have entry := s.formatEngine.formatEntry_books ps st
  have ready2 := ready.of_books engine
  have ended := (ready2.of_books entry).kept (State.formatEnd_books _) (b := 4) (by decide)
    (State.entryAddr_inBook _ h)
  rw [(State.formatEnd_books _).entryAddr, ended, entry.entryAddr,
    State.formatEntry_entry ready2.profile ready2.valid ready2.fuse ps st rfl h, engine.entryAddr,
    ready.kept engine (b := 4) (by decide) (s.entryAddr_inBook h), empty]

/-- An engine record that the store holds is held through steps 7 to 9 (R205). -/
theorem State.formatFrom7_held (held : s.RecordHeld) :
    (s.formatEngine.formatEntry ps st).formatEnd.RecordHeld := by
  have ready2 := ready.of_books s.formatEngine_books
  exact State.formatEnd_held (State.formatEntry_held ready2.profile ready2.valid ready2.fuse ps st
    (State.formatEngine_held held ready.fuse)) (ready2.of_books (State.formatEntry_books _ ps st)).fuse

/-- Steps 7 to 9 leave a good engine record (R205). -/
theorem State.formatFrom7_good (good : s.store.failing s.engineAddr 16 = false) :
    (s.formatEngine.formatEntry ps st).formatEnd.engineRecordGood = true := by
  have before := s.formatEngine_books.trans (s.formatEngine.formatEntry_books ps st)
  have ending := (s.formatEngine.formatEntry ps st).formatEnd_books
  have all := before.trans ending
  refine State.engineRecordGood_of_stateWord (by rw [all.engineAddr]; exact all.failing _ _ good) ?_
  rw [ending.engineAddr]
  exact State.formatEnd_stateWord (ready.of_books before).fuse (by rw [State.formatEntry_engine])

theorem State.formatStores_held (held : s.RecordHeld) : s.formatStores.RecordHeld := by
  have begun := s.formatBegun_books
  have rest := ((s.formatBegun.formatAccountBook_books.trans (State.formatRecords_books _)).trans
    (State.formatJournal_books _)).trans (State.formatBays_books _)
  have ready1 := ready.of_books begun
  exact (State.formatBegun_held held ready.fuse).of_books rest ready1.profile ready1.valid ready1.fuse
    (by decide) (by rw [State.formatStores_engine]; rfl)

theorem State.formatHall_built : HallBuilt s (s.formatHall ps st undisturbed) := by
  have stores := s.formatStores_books
  have ready1 := ready.of_books stores
  have later := ((s.formatStores.formatEngine_books).trans
    (s.formatStores.formatEngine.formatEntry_books ps st)).trans (State.formatEnd_books _)
  have empty := State.formatStores_empty ready.profile ready.valid ready.fuse
  rw [State.formatHall_undisturbed]
  exact
    { fuse := (ready1.of_books later).fuse
      empty := empty.of_books later ready1.profile ready1.valid ready1.fuse (by decide)
      entry := fun slot h => State.formatFrom7_entry ready1 ps st h
        (State.formatStores_entry ready.profile ready.valid ready.fuse h)
      tailWord := State.formatFrom7_tailWord ready1 ps st
      record := fun held => State.formatFrom7_held ready1 ps st (State.formatStores_held ready held)
      good := fun good => State.formatFrom7_good ready1 ps st
        (by rw [stores.engineAddr]; exact stores.failing _ _ good) }

end Built

/-! ## The records of an empty hall -/

/-- The account that an account record of an empty hall spells (R32). -/
def emptyAccount (n : Nat) : AccountImage :=
  { kind := specialKind n, state := if n ≤ 2 then accountOpen else 0, day := if n ≤ 2 then 1 else 0,
    credit := 0, balance := 0, holds := 0, crates := 0, floor := 0, landed := 0, sales := 0, ice := 0 }

theorem EmptyHall.account_eq {t : State} (h : EmptyHall t) {n : Nat} (hn : n < 256) :
    t.account n = emptyAccount n := by
  have word (k : Nat) (hk : k < 16) : t.store.word (t.accountAddr n + 4 * k) = formatAccountWord n k :=
    h.account n k hn hk
  have spelled : t.account n =
      { kind := field (formatAccountWord n 0) 0 3, state := field (formatAccountWord n 0) 8 2,
        day := formatAccountWord n 1, balance := formatAccountWord n 2, credit := formatAccountWord n 3,
        holds := formatAccountWord n 4, crates := field (formatAccountWord n 6) 0 13,
        floor := field (formatAccountWord n 7) 0 12, landed := formatAccountWord n 8,
        sales := formatAccountWord n 9, ice := formatAccountWord n 10 } := by
    rw [← word 0 (by decide), ← word 1 (by decide), ← word 2 (by decide), ← word 3 (by decide),
      ← word 4 (by decide), ← word 6 (by decide), ← word 7 (by decide), ← word 8 (by decide),
      ← word 9 (by decide), ← word 10 (by decide)]
    rfl
  rw [spelled]
  by_cases special : n ≤ 2
  · interval_cases n <;> decide
  · simp only [formatAccountWord, emptyAccount, specialKind, special, if_false, show n ≠ 0 by omega,
      show n ≠ 1 by omega, show n ≠ 2 by omega]
    rfl

theorem EmptyHall.bayRecord_eq {t : State} (h : EmptyHall t) {b : Nat} (hb : b < 6) :
    t.bayRecord b = BayRecord.zero := by
  rw [State.bayRecord, Memory.words_zero fun k hk => h.bay b k hb hk]
  decide

end Sys2Proof.Machine
end

section
/-! FORMAT as the posting in hand, alone and with a tail write within it (R31 to R33, R42). -/

namespace Sys2Proof.Machine

variable {s : State}

/-! ## The end of an applied FORMAT -/

theorem State.formatRefusal_none (setup : s.engine.mode = .setup)
    (idle : ∀ b : Fin 6, (s.bay b).copy.state = bayIdle) : s.formatRefusal = none := by
  simp [State.formatRefusal, setup, modeRefusal, PostKind.inSetup, firstFail, State.baysIdle_eq_true.2 idle]

/-- FORMAT's report and the end of its posting (R20, R23). -/
def State.formatReported (s : State) (p : Posting) : State := (s.report p none (some 0) none []).endPosting

theorem State.applyFormat_applied {p : Posting} (applies : s.formatRefusal = none) (between : Between) :
    s.applyFormat p between = (s.formatHall p.params p.stamp between).formatReported p := by
  rw [State.applyFormat, applies]
  rfl

section Reported
variable (s : State) (p : Posting)

theorem State.formatReported_store : (s.formatReported p).store = s.store := by
  rw [State.formatReported, State.endPosting_store, State.report_store fun _ _ => rfl]

theorem State.formatReported_shell : SameShell s (s.formatReported p) :=
  (s.report_shell p none (some 0) none []).trans (State.endPosting_shell _)

theorem State.formatReported_engine : ∃ st w q,
    (s.formatReported p).engine = { s.engine with state := st, work := w, queue := q } := by
  have ended := (s.report p none (some 0) none []).endPosting_engine_frame
  rw [State.report_engine] at ended
  exact ⟨_, _, _, ended⟩

theorem State.formatReported_books : WritesBooks [] s (s.formatReported p) :=
  .of_store (s.formatReported_shell p).profile (s.formatReported_store p)

variable {p} (source : p.source = .desk)
include source

theorem State.formatReported_bay (b : Fin 6) : (s.formatReported p).bay b = s.bay b := by
  have ice : (s.formatReported p).ice = s.ice := by
    rw [State.formatReported, (State.endPosting_stations _).ice, State.report_desk_ice _ _ _ _ source]
    rfl
  rw [State.bay, ice]
  rfl

theorem State.formatReported_desk :
    (s.formatReported p).desk.get deskSlot = ⟨.applied, none, some 0, none, false, 0⟩ := by
  rw [State.formatReported, (State.endPosting_stations _).desk, State.report_desk _ _ _ _ source, if_pos rfl,
    reportStatus_eq]
  rfl

end Reported

/-- FORMAT comes from the desk (R12). -/
theorem Posting.source_of_format {p : Posting} (h : p.kindOf = some .format) : p.source = .desk := by
  have mem := List.mem_of_find?_eq_some h
  cases source : p.source with
  | desk => rfl
  | _ => simp [source, kindsOf] at mem

/-! ## A tail write within FORMAT -/

/-- What a tail write within a FORMAT leaves: the tail, its word, and the answer at its port (R33, R42). -/
structure TailLeft (t : State) (p : PortId) (w : Word) (answer : Answer) : Prop where
  tail : t.engine.tail = w
  word : t.store.word (t.controlAddr 0xA0) = w
  answer : (t.path p).answer = answer

section Within
variable {r : Profile} (ready : Ready r s) {p : PortId} (own : s.owns p 0) (ps : Params) (st : Stamp) (w : Word)
include ready own

/-- A tail write of the office's free port as a step of the store, and the tail word it leaves. -/
theorem State.arriveTail_owned_books (running : s.engine.state ≠ .journalWait) :
    WritesBooks [0] s (s.arriveTail (p, w)) ∧
    (s.arriveTail (p, w)).store.word (s.controlAddr 0xA0) =
      if s.tailAccepted w then w else s.store.word (s.controlAddr 0xA0) := by
  obtain ⟨-, -, store⟩ := State.arriveTail_owned own running w
  have profile := (State.arriveTail_only running (p, w)).profile
  cases accepted : s.tailAccepted w with
  | true =>
    rw [accepted, if_pos rfl] at store
    refine ⟨.of_putAll profile store fun v hv => ?_, ?_⟩
    · cases List.mem_singleton.1 hv
      exact s.controlWord_inBook (by decide)
    · rw [store]
      exact Memory.word_putWord_same ready.fuse _ _
  | false =>
    rw [accepted, if_neg Bool.false_ne_true] at store
    refine ⟨.of_putAll (ws := []) profile store fun v hv => (by cases hv), ?_⟩
    rw [store]
    rfl

/-- A tail write just before step 7 is checked against the old copies, and step 7 then makes the tail 0. -/
theorem State.formatHall_before7_left :
    TailLeft (s.formatHall ps st (tailsBetween [(.before7, p, w)])) p 0
      (if (w - s.engine.tail).toNat ≤ (s.engine.copy.head - s.engine.tail).toNat then .done
        else .fault .badValue) := by
  obtain ⟨owned, -, -⟩ := State.format_owned own ps st
  have ready1 := ready.of_books s.formatStores_books
  obtain ⟨books, -⟩ := State.arriveTail_owned_books ready1 owned w s.formatStores_running
  obtain ⟨-, answer, -⟩ := State.arriveTail_owned owned s.formatStores_running w
  rw [State.formatHall_before7_eq]
  refine ⟨?_, State.formatFrom7_tailWord (ready1.of_books books) ps st, ?_⟩
  · rw [State.formatEnd_engine, State.formatEntry_engine, State.formatEngine_engine]
  · rw [(State.formatEnd_shell _).path, (State.formatEntry_shell _ _ _).path, (State.formatEngine_shell _).path,
      answer, State.tailAccepted, State.formatStores_engine]
    simp only [decide_eq_true_eq]

/-- A tail write just before step 8 is accepted of 0 alone. -/
theorem State.formatHall_before8_left :
    TailLeft (s.formatHall ps st (tailsBetween [(.before8, p, w)])) p 0
      (if w = 0 then .done else .fault .badValue) := by
  obtain ⟨tail, answer⟩ := State.formatHall_before8 own ps st w
  refine ⟨tail, ?_, answer⟩
  obtain ⟨-, owned, -⟩ := State.format_owned own ps st
  have ready1 := ready.of_books s.formatStores_books
  have ready2 := ready1.of_books (State.formatEngine_books _)
  obtain ⟨books, word⟩ := State.arriveTail_owned_books ready2 owned w s.formatEngine_running
  have zero : s.formatStores.formatEngine.store.word (s.formatStores.formatEngine.controlAddr 0xA0) = 0 := by
    rw [(State.formatEngine_books _).controlAddr]
    exact State.formatEngine_tailWord ready1.fuse
  rw [State.formatHall_before8_eq, State.formatLast_tailWord (ready2.of_books books) ps st, books.controlAddr,
    word, State.formatEngine_tailAccepted, zero]
  by_cases h : w = 0 <;> simp [h]

/-- A tail write just before step 9 is accepted of 0 and 1. -/
theorem State.formatHall_before9_left :
    TailLeft (s.formatHall ps st (tailsBetween [(.before9, p, w)])) p (if w = 1 then 1 else 0)
      (if w.toNat ≤ 1 then .done else .fault .badValue) := by
  obtain ⟨tail, answer⟩ := State.formatHall_before9 own ps st w
  refine ⟨tail, ?_, answer⟩
  obtain ⟨-, -, owned⟩ := State.format_owned own ps st
  have ready1 := ready.of_books s.formatStores_books
  have ready2 := ready1.of_books (State.formatEngine_books _)
  have entry := s.formatStores.formatEngine.formatEntry_books ps st
  have ready3 := ready2.of_books entry
  obtain ⟨books, word⟩ := State.arriveTail_owned_books ready3 owned w (s.formatEntry_running ps st)
  have zero : (s.formatStores.formatEngine.formatEntry ps st).store.word
      ((s.formatStores.formatEngine.formatEntry ps st).controlAddr 0xA0) = 0 := by
    rw [entry.controlAddr, State.formatEntry_tailWord ready2.profile ready2.valid ready2.fuse,
      (State.formatEngine_books _).controlAddr]
    exact State.formatEngine_tailWord ready1.fuse
  rw [State.formatHall_before9_eq, (State.formatEnd_books _).controlAddr,
    State.formatEnd_tailWord (ready3.of_books books).fuse, books.controlAddr, word,
    State.formatEntry_tailAccepted, zero, tail_of_accepted]

end Within

theorem exec_tailWrite_inHand {p : Posting} (hand : s.inHand .format = some p) (applies : s.formatRefusal = none)
    (o : PortId) (w : Word) (point : RunPoint) :
    exec (.tailWrite o ⟨w, some ⟨.inHand, point, []⟩⟩) s =
      .next ((s.formatHall p.params p.stamp (tailsBetween [(point, o, w)])).formatReported p) := by
  rw [← State.applyFormat_applied applies]
  show Host.Outcome.next (s.postingWithin (tailsBetween [(point, o, w)])) = _
  rw [State.postingWithin, hand]
  simp only [applies, Option.isNone_none, if_true]

theorem exec_format_applied {p : Posting} (hand : s.inHand .format = some p) (applies : s.formatRefusal = none) :
    exec .format s = .next ((s.formatHall p.params p.stamp undisturbed).formatReported p) := by
  rw [← State.applyFormat_applied applies]
  show Host.Outcome.next s.formatRow = _
  rw [State.formatRow, hand]

/-- Settles O51: FORMAT's steps, book by book, and the tail writes that may come between them. -/
theorem formatBuildsEmptyHall : Obligations.FormatBuildsEmptyHall := by
  unfold Obligations.FormatBuildsEmptyHall
  intro s p r hand setup idle profile valid fuse
  have applies := State.formatRefusal_none setup idle
  have source := Posting.source_of_format (State.inHand_eq_some hand).2.2
  have ready : Ready r s := ⟨profile, valid, fuse⟩
  constructor
  · have built := State.formatHall_built ready p.params p.stamp
    have hall := s.formatHall_formatted p.params p.stamp undisturbed_tailOnly
    have tail := s.formatHall_tail p.params p.stamp
    refine ⟨_, exec_format_applied hand applies, ?_⟩
    generalize s.formatHall p.params p.stamp undisturbed = u at built hall tail
    have reported := u.formatReported_books p
    have empty := built.empty.of_books reported (hall.profile.trans profile) valid built.fuse (by decide)
    obtain ⟨st, w, q, engine⟩ := u.formatReported_engine p
    have copy : (u.formatReported p).engine.copy = u.engine.copy := by rw [engine]
    have held : (u.formatReported p).engineRecord = (u.formatReported p).engine.copy ↔ u.RecordHeld := by
      rw [← State.recordAt_iff, reported.engineAddr, State.formatReported_store, copy]
      rfl
    have word (x : Nat) : (u.formatReported p).store.word x = u.store.word x := by
      rw [State.formatReported_store]
    refine ⟨?_, fun h => ?_, fun good => ?_, ?_, ?_, ?_, u.formatReported_desk source, fun b => ⟨?_, ?_⟩,
      fun n hn => empty.account_eq hn, fun slot h => Memory.words_zero fun k hk => empty.lot slot k h hk,
      fun k h => Memory.words_zero fun j hj => empty.crate k j h hj, fun slot h => ?_⟩
    · rw [copy, hall.engine]; rfl
    · exact held.2 (built.record ((s.recordAt_iff _).2 h))
    · have same : (u.formatReported p).engineRecord = u.engineRecord := by
        simp only [State.engineRecord, reported.engineAddr, word]
      rw [State.engineRecordGood, same, reported.engineAddr, State.formatReported_store]
      exact built.good good
    · rw [engine]; exact tail
    · rw [word, reported.controlAddr]; exact built.tailWord
    · rw [engine, hall.engine]
    · rw [u.formatReported_bay source, hall.bays]
    · exact empty.bayRecord_eq b.isLt
    · rw [word, reported.entryAddr]; exact built.entry slot h
  · intro o w port office
    have own : s.owns o 0 := ⟨port, by simp [State.mayWrite, office]⟩
    have leave {point : RunPoint} {tail : Word} {answer : Answer}
        (left : TailLeft (s.formatHall p.params p.stamp (tailsBetween [(point, o, w)])) o tail answer) :
        ∃ t : State, exec (.tailWrite o ⟨w, some ⟨.inHand, point, []⟩⟩) s = .next t ∧
          t.engine.copy = ⟨1, 1, 1, dayOpen, formatted⟩ ∧ t.engine.tail = tail ∧
          t.store.word (t.controlAddr 0xA0) = tail ∧ (t.path o).answer = answer := by
      have hall := s.formatHall_formatted p.params p.stamp (tailsBetween_tailOnly [(point, o, w)])
      refine ⟨_, exec_tailWrite_inHand hand applies o w point, ?_⟩
      generalize s.formatHall p.params p.stamp (tailsBetween [(point, o, w)]) = u at left hall
      obtain ⟨st, wk, q, engine⟩ := u.formatReported_engine p
      refine ⟨by rw [engine, hall.engine]; rfl, by rw [engine]; exact left.tail, ?_, ?_⟩
      · rw [State.formatReported_store, (u.formatReported_books p).controlAddr, left.word]
      · rw [(u.formatReported_shell p).path, left.answer]
    exact ⟨leave (State.formatHall_before7_left ready own _ _ w),
      leave (State.formatHall_before8_left ready own _ _ w),
      leave (State.formatHall_before9_left ready own _ _ w)⟩

end Sys2Proof.Machine
end

section
/-! STEP and ENGINE_RESUME (R22, R24, R50), but for the close that ENGINE_RESUME resumes. -/

namespace Sys2Proof.Machine

variable {s : State} {p : PortId} (own : s.owns p 0)

section Taken
include own

theorem exec_step_taken : exec (.step p) s = .next ((s.dropSnapshot p).stepCommand.answer p .done) :=
  congrArg Host.Outcome.next (State.command_written own (v := 2) (by decide))

theorem exec_engineResume_taken :
    exec (.engineResume p) s = .next (((s.dropSnapshot p).resumeCommand undisturbed).answer p .done) :=
  congrArg Host.Outcome.next (State.command_written own (v := 3) (by decide))

/-- STEP while PAUSED takes the queue head (R24). -/
theorem exec_step_paused (paused : s.engine.state = .paused) :
    exec (.step p) s = .next (s.takeNext.wrote p) := by
  rw [exec_step_taken own, State.stepCommand, if_pos (by simpa using paused), State.wrote,
    State.takeNext_apart.dropSnapshot]

theorem exec_step_other (other : s.engine.state ≠ .paused) : exec (.step p) s = .next (s.wrote p) := by
  rw [exec_step_taken own, State.stepCommand, if_neg (by simpa using other), State.wrote]

theorem exec_engineResume_other (other : s.engine.state ≠ .halted) :
    exec (.engineResume p) s = .next (s.wrote p) := by
  rw [exec_engineResume_taken own, State.resumeCommand, if_neg (by simpa using other), State.wrote]

end Taken

section Halted
variable (halted : s.engine.state = .halted)
include halted

theorem State.resumeCommand_posting (h : s.engine.halt = some .posting) :
    s.resumeCommand undisturbed = State.takeNext { s with engine := { s.engine with halt := none } } := by
  simp only [State.resumeCommand, halted, if_true, h]

theorem State.resumeCommand_redo (h : s.engine.halt = some .redo) :
    s.resumeCommand undisturbed =
      State.repeatRedo { s with engine := { s.engine with halt := none } } undisturbed := by
  simp only [State.resumeCommand, halted, if_true, h]

theorem State.resumeCommand_close {c : CloseWork} (h : s.engine.halt = some (.close c)) :
    s.resumeCommand undisturbed =
      State.runClose { s with engine := { s.engine with halt := none } } c undisturbed := by
  simp only [State.resumeCommand, halted, if_true, h]

include own

/-- ENGINE_RESUME after a posting's halt takes the queue head (R22). -/
theorem exec_engineResume_posting (h : s.engine.halt = some .posting) :
    exec (.engineResume p) s =
      .next ((State.takeNext { s with engine := { s.engine with halt := none } }).wrote p) := by
  have dropped : (s.dropSnapshot p).resumeCommand undisturbed =
      (State.takeNext { s with engine := { s.engine with halt := none } }).dropSnapshot p := by
    rw [State.resumeCommand_posting (by simpa using halted) (by simpa using h),
      State.takeNext_apart.dropSnapshot]
    cases p <;> rfl
  rw [exec_engineResume_taken own, dropped, State.wrote]

/-- ENGINE_RESUME after a struck redo that is struck again leaves the engine HALTED (R50). -/
theorem exec_engineResume_struck (h : s.engine.halt = some .redo)
    (struck : State.redo { s.dropSnapshot p with engine := { s.engine with halt := none } } = none) :
    exec (.engineResume p) s = .next ((s.raise .halted).wrote p) := by
  have engine : ({ s.engine with state := .halted, halt := some .redo } : Engine) = s.engine := by
    rw [← halted, ← h]
  rw [exec_engineResume_taken own, State.resumeCommand_redo (by simpa using halted) (by simpa using h),
    State.dropSnapshot_engine, State.repeatRedo, struck]
  simp only [State.haltAtRedo]
  rw [engine]
  cases p <;> rfl

/-- ENGINE_RESUME after a struck redo that is read: the close in progress, or the queue head (R50). -/
theorem exec_engineResume_redone (h : s.engine.halt = some .redo) {t : State}
    (redone : State.redo { s.dropSnapshot p with engine := { s.engine with halt := none } } = some t) :
    exec (.engineResume p) s = .next
      ((if t.isClosing then t.runClose t.resumedClose undisturbed else t.takeNext).answer p .done) := by
  rw [exec_engineResume_taken own, State.resumeCommand_redo (by simpa using halted) (by simpa using h),
    State.dropSnapshot_engine, State.repeatRedo, redone]

end Halted

end Sys2Proof.Machine
end

section
/-! A close that nothing strikes and whose entries find room (chapter 09): phases B and C, lot by lot and account
by account, and phase D. -/

namespace Sys2Proof.Machine

/-! ## Lots -/

/-- A lot's state, from word 1 of its record (R106). -/
theorem State.lot_state (s : State) (slot : Nat) :
    (s.lot slot).state = field (s.store.word (s.lotAddr slot + 4)) 0 2 := rfl

theorem LotRecord.word1_state (l : LotRecord) :
    field (l.boat ++ l.species ++ flagBit l.landUnsure ++ l.count ++ l.scale ++ l.grade ++ l.reason ++ l.state)
      0 2 = l.state := by
  ext i h
  rw [field, BitVec.getElem_extractLsb' h, Nat.zero_add, BitVec.getLsbD_append, if_pos h,
    BitVec.getLsbD_eq_getElem h]

/-- The lots on the floor in the first `n` slots. -/
def State.floorLots (s : State) (n : Nat) : Nat :=
  (List.range n).countP fun slot => (s.lot slot).state == lotOnFloor

theorem State.floorLots_succ (s : State) (n : Nat) :
    s.floorLots (n + 1) = s.floorLots n + if (s.lot n).state = lotOnFloor then 1 else 0 := by
  rw [State.floorLots, List.range_succ, List.countP_append, State.floorLots, List.countP_singleton]
  by_cases h : (s.lot n).state = lotOnFloor <;> simp [h]

theorem State.floorLots_mono (s : State) {m n : Nat} (h : m ≤ n) : s.floorLots m ≤ s.floorLots n :=
  List.Sublist.countP_le (List.range_sublist.2 h)

/-! ## The images of a withdrawal -/

theorem accountImages_one (n : Nat) (f : AccountImage) :
    accountImages [(n, f)] = [.account (BitVec.ofNat 8 n) f] := rfl

/-- Each image of a withdrawal is of the lot's boat, of the lot, or of its crates (R118, R186). -/
theorem State.mem_withdrawImages {s : State} {slot : Nat} {reason : BitVec 2} {i : Image}
    (h : i ∈ s.withdrawImages slot reason) :
    (∃ n f, i = .account n f) ∨
      i = lotImage slot withdrawMask { s.lot slot with state := lotWithdrawn, reason := reason } ∨
      ∃ ks st holder deposit id, i = .crates ks st holder deposit id := by
  simp only [State.withdrawImages, accountImages_one, List.mem_append, List.mem_singleton] at h
  rcases h with (rfl | rfl) | h
  · exact .inl ⟨_, _, rfl⟩
  · exact .inr (.inl rfl)
  · unfold keepGroup at h
    split at h
    · cases h
    · cases List.mem_singleton.1 h
      exact .inr (.inr ⟨_, _, _, _, _, rfl⟩)

/-- The images of a withdrawal are of different records. -/
theorem State.withdrawImages_apart (s : State) (slot : Nat) (reason : BitVec 2) :
    (s.withdrawImages slot reason).Pairwise fun i j => ∀ x ∈ i.targets, x ∉ j.targets := by
  simp only [State.withdrawImages, accountImages_one, keepGroup]
  split <;> simp [lotImage, Image.targets]

theorem State.withdrawImages_records {s : State} {slot : Nat} {reason : BitVec 2} {i : Image}
    (h : i ∈ s.withdrawImages slot reason) : RecordId.engine ∉ i.targets := by
  rcases State.mem_withdrawImages h with ⟨n, f, rfl⟩ | rfl | ⟨ks, st, holder, deposit, id, rfl⟩ <;>
    simp [lotImage, Image.targets]

/-- A withdrawal's images name no lot but its own. -/
theorem State.withdrawImages_lot {s : State} {slot other : Nat} (hs : slot < 2048) (ne : other ≠ slot)
    {reason : BitVec 2} {i : Image} (h : i ∈ s.withdrawImages slot reason) : RecordId.lot other ∉ i.targets := by
  rcases State.mem_withdrawImages h with ⟨n, f, rfl⟩ | rfl | ⟨ks, st, holder, deposit, id, rfl⟩
  · simp [Image.targets]
  · have : slot % 2048 = slot := Nat.mod_eq_of_lt hs
    simpa [lotImage, Image.targets, this] using ne
  · simp [Image.targets]

/-- The word of a withdrawal's lot image: the lot WITHDRAWN (R39, R118). -/
theorem lotImage_withdraw_writes (s : State) {slot : Nat} (hs : slot < 2048) (l : LotRecord) (seq : Word) :
    (s.lotAddr slot + 4,
        l.boat ++ l.species ++ flagBit l.landUnsure ++ l.count ++ l.scale ++ l.grade ++ l.reason ++ l.state) ∈
      (lotImage slot withdrawMask l).writes s seq := by
  have : slot % 2048 = slot := Nat.mod_eq_of_lt hs
  simp [lotImage, Image.writes, maskedWords, LotRecord.words, maskWrites, this]

end Sys2Proof.Machine
end

section
/-! The run of a close that nothing strikes (R185 to R188): the invariant that its steps keep. -/

namespace Sys2Proof.Machine

/-- A close from `s` that has gone through the first `n` lot slots: its lots are withdrawn, its entries stand
before the head, and no more has changed that the close itself looks at. -/
structure Closing (r : Profile) (s : State) (n : Nat) (u : State) : Prop where
  shell : SameShell s u
  ready : Ready r u
  good : ∀ a k : Nat, u.store.failing a k = false
  copy : u.engine.copy =
    { s.engine.copy with head := s.engine.copy.head + BitVec.ofNat 32 (s.floorLots n) }
  tail : u.engine.tail = s.engine.tail
  halt : u.engine.halt = none
  lots : ∀ slot : Nat, slot < 2048 → (u.lot slot).state =
    if slot < n ∧ (s.lot slot).state = lotOnFloor then lotWithdrawn else (s.lot slot).state

/-- Room in the journal for a close's entries: one for each lot on the floor, and its DAY_CLOSED entry. -/
def State.ClosesInRoom (s : State) : Prop :=
  (s.engine.copy.head - s.engine.tail).toNat + s.floorLots 2048 < 256

/-- A close as it goes on: only its counts move (R186, R187). -/
structure SameClose (c d : CloseWork) : Prop where
  source : d.source = c.source
  day : d.day = c.day
  reports : d.reports = c.reports

theorem SameClose.refl (c : CloseWork) : SameClose c c := ⟨rfl, rfl, rfl⟩

theorem WritesBooks.lot {bs : List (Fin 7)} {s t : State} {r : Profile} (writes : WritesBooks bs s t)
    (ready : Ready r s) (other : 2 ∉ bs) {slot : Nat} (h : slot < 2048) :
    (t.lot slot).state = (s.lot slot).state := by
  have address : t.lotAddr slot = s.lotAddr slot := by simp only [State.lotAddr, writes.base]
  rw [State.lot_state, State.lot_state, address]
  exact congrArg (field · 0 2) (ready.kept writes other (s.lotWord_inBook (k := 1) h (by decide)))

namespace Closing
variable {r : Profile} {s u v : State} {n : Nat}

/-- A step that writes no lot record, and no engine state that a close looks at. -/
theorem of_books {bs : List (Fin 7)} (h : Closing r s n u) (shell : SameShell u v) (writes : WritesBooks bs u v)
    (other : 2 ∉ bs) (copy : v.engine.copy = u.engine.copy) (tail : v.engine.tail = u.engine.tail)
    (halt : v.engine.halt = u.engine.halt) : Closing r s n v :=
  ⟨h.shell.trans shell, h.ready.of_books writes, fun a k => writes.failing a k (h.good a k), copy.trans h.copy,
    tail.trans h.tail, halt.trans h.halt,
    fun slot hs => (writes.lot h.ready other hs).trans (h.lots slot hs)⟩

/-- A step that changes the guard and the arbiter's pointers alone. -/
theorem guarded (h : Closing r s n u) (g : List RecordId) (who : Grantee) :
    Closing r s n ((u.withGuard g).granted who) :=
  h.of_books ((u.withGuard_shell g).trans (State.granted_shell _ _)) (.of_store rfl rfl) (by decide) rfl rfl rfl

theorem released (h : Closing r s n u) : Closing r s n u.releaseStep :=
  h.of_books (u.withGuard_shell _) (.of_store rfl rfl) (by decide) rfl rfl rfl

theorem recordFails (h : Closing r s n u) (x : RecordId) : u.recordFails x = false := h.good _ _

theorem anyFails (h : Closing r s n u) (xs : List RecordId) : u.anyFails xs = false := by
  simp only [State.anyFails, List.any_eq_false, h.recordFails, Bool.false_eq_true, not_false_eq_true,
    implies_true]

theorem rollReadFails (h : Closing r s n u) (a : Nat) : u.rollReadFails a = false := by
  rw [State.rollReadFails, h.good, h.good, Bool.or_self]

/-- With room for its entries, a close finds a free slot for each. -/
theorem not_full (h : Closing r s n u) (room : s.ClosesInRoom) (hn : n ≤ 2048) : u.journalFull = false := by
  have mono := s.floorLots_mono hn
  simp only [State.ClosesInRoom] at room
  simp only [State.journalFull, h.copy, h.tail, beq_eq_false_iff_ne, ne_eq]
  generalize s.engine.copy.head = a at *
  generalize s.engine.tail = b at *
  intro e
  have : (a + BitVec.ofNat 32 (s.floorLots n) - b).toNat = (256#32).toNat := by rw [e]
  bv_omega

/-- A slot that holds no lot on the floor is passed (R185). -/
theorem pass (h : Closing r s n u) (off : (s.lot n).state ≠ lotOnFloor) : Closing r s (n + 1) u := by
  have count : s.floorLots (n + 1) = s.floorLots n := by rw [State.floorLots_succ, if_neg off]; rfl
  refine ⟨h.shell, h.ready, h.good, by rw [count]; exact h.copy, h.tail, h.halt, fun slot hs => ?_⟩
  rw [h.lots slot hs]
  by_cases e : slot = n
  · rw [e, if_neg (fun c => off c.2), if_neg (fun c => off c.2)]
  · have : slot < n + 1 ↔ slot < n := by omega
    simp only [this]

end Closing

/-! ## A withdrawal -/

/-- An entry of record images leaves the lots that none of them names. -/
theorem State.writeEntry_lot {r : Profile} {u : State} (ready : Ready r u) {e : JournalEntry} (new : EngineRecord)
    {slot : Nat} (hs : slot < 2048) (others : ∀ i ∈ e.images, RecordId.lot slot ∉ i.targets) :
    ((u.writeEntry e new).lot slot).state = (u.lot slot).state := by
  have address : (u.writeEntry e new).lotAddr slot = u.lotAddr slot := by
    simp only [State.lotAddr, (u.writeEntry_shell e new).base]
  have span : u.recordSpan (.lot slot) = (u.lotAddr slot, 64) := rfl
  rw [State.lot_state, State.lot_state, address, State.writeEntry_store, Memory.word_putAll_apart ready.fuse]
  intro w hw
  have entry := State.recordSpan_entry ready.profile ready.valid (x := .lot slot) hs u.engine.copy.head
  have engine := State.recordSpan_apart ready.profile ready.valid (x := .lot slot) (y := .engine) hs trivial
    (by simp)
  have engineSpan : u.recordSpan .engine = (u.engineAddr, 16) := rfl
  rw [span] at entry engine
  rw [engineSpan] at engine
  rcases State.entryWrites_range hw with range | ⟨i, hi, range⟩ | range
  · omega
  · have apart := imageWrites_apart (List.mem_flatMap.2 ⟨i, hi, range⟩) (a := u.lotAddr slot) (n := 64)
      fun j hj x hx placed => State.recordSpan_apart ready.profile ready.valid placed (y := .lot slot) hs
        fun eq => others j hj (eq ▸ hx)
    omega
  · omega

/-- A withdrawal leaves its lot WITHDRAWN (R186). -/
theorem State.writeEntry_withdraw {r : Profile} {u : State} (ready : Ready r u) {e : JournalEntry}
    (new : EngineRecord) {slot : Nat} (hs : slot < 2048) {reason : BitVec 2}
    (images : e.images = u.withdrawImages slot reason) :
    ((u.writeEntry e new).lot slot).state = lotWithdrawn := by
  have address : (u.writeEntry e new).lotAddr slot = u.lotAddr slot := by
    simp only [State.lotAddr, (u.writeEntry_shell e new).base]
  have records : ∀ i ∈ e.images, RecordId.engine ∉ i.targets := by
    rw [images]; exact fun i hi => State.withdrawImages_records hi
  have stands := State.entryWrites_stand ready.profile ready.valid ready.fuse records
    (by rw [images]; exact u.withdrawImages_apart slot reason) new
  have mine : lotImage slot withdrawMask { u.lot slot with state := lotWithdrawn, reason := reason } ∈ e.images := by
    rw [images]
    simp [State.withdrawImages]
  have word := stands.image _ mine _ (lotImage_withdraw_writes u hs _ _)
  rw [State.lot_state, address, State.writeEntry_store, word]
  exact LotRecord.word1_state { u.lot slot with state := lotWithdrawn, reason := reason }

/-- A lot on the floor withdrawn: the close has gone one slot on (R186). -/
theorem Closing.withdraw {r : Profile} {s u : State} {n : Nat} (h : Closing r s n u) (hn : n < 2048)
    (floor : (s.lot n).state = lotOnFloor) {e : JournalEntry} {reason : BitVec 2}
    (images : e.images = u.withdrawImages n reason) :
    Closing r s (n + 1) (u.writeWithdrawal e) := by
  have count : s.floorLots (n + 1) = s.floorLots n + 1 := by rw [State.floorLots_succ, if_pos floor]
  have shell : SameShell u (u.writeWithdrawal e) := u.writeWithdrawal_shell e
  have store : (u.writeWithdrawal e).store = u.store.putAll (u.entryWrites e u.engine.copy.step) :=
    State.writeEntry_store _ _ _
  have engine : (u.writeWithdrawal e).engine =
      { u.engine with copy := u.engine.copy.step, guard := [.engine] } := by
    simp [State.writeWithdrawal, State.releaseStep]
  refine ⟨h.shell.trans shell, ⟨shell.profile.trans h.ready.profile, h.ready.valid, ?_⟩, fun a k => ?_, ?_,
    by rw [engine]; exact h.tail, by rw [engine]; exact h.halt, fun slot hs => ?_⟩
  · rw [store]; exact Memory.putAll_fuse h.ready.fuse _
  · rw [store]; exact Memory.putAll_failing (h.good a k) _
  · rw [engine]
    simp only [EngineRecord.step, h.copy, count, BitVec.ofNat_add, BitVec.add_assoc]
    rfl
  · show ((u.writeEntry e u.engine.copy.step).lot slot).state = _
    by_cases eq : slot = n
    · subst eq
      rw [State.writeEntry_withdraw h.ready _ hs images, if_pos ⟨Nat.lt_succ_self _, floor⟩]
    · have earlier : slot < n + 1 ↔ slot < n := by omega
      have others : ∀ i ∈ e.images, RecordId.lot slot ∉ i.targets := by
        rw [images]; exact fun i hi => State.withdrawImages_lot hn eq hi
      rw [State.writeEntry_lot h.ready _ hs others, h.lots slot hs]
      simp only [earlier]

/-! ## Phase B -/

/-- A guard on records other than bays waits for nothing. -/
theorem State.settleDue_crates (u : State) (ks : List (BitVec 12)) : u.settleDue (crateIds ks) = u := by
  induction ks with
  | nil => rfl
  | cons k ks ih => exact ih

theorem Closing.placed {r : Profile} {s u : State} {n : Nat} (h : Closing r s n u) (a : Nat)
    (ks : List (BitVec 12)) : Closing r s n (u.placeGuard (.account a :: crateIds ks)) := by
  have placed : u.placeGuard (.account a :: crateIds ks) =
      u.withGuard (distinct (u.engine.guard ++ .account a :: crateIds ks)) := by
    show (u.settleDue (crateIds ks)).withGuard _ = _
    rw [State.settleDue_crates]
  rw [placed]
  exact h.of_books (u.withGuard_shell _) (.of_store rfl rfl) (by decide) rfl rfl rfl

/-- Phase B goes through every slot from the `n`th on, and then phase C follows (R185, R186). -/
theorem Closing.withdrawLots {r : Profile} {s : State} (room : s.ClosesInRoom) (k : Nat) {n : Nat} {u : State}
    (h : Closing r s n u) (left : n + k = 2048) (c : CloseWork) :
    ∃ v d, u.withdrawLots c undisturbed k = v.rollAccounts d 256 ∧ Closing r s 2048 v ∧ SameClose c d := by
  induction k generalizing n u c with
  | zero =>
    obtain rfl : n = 2048 := left
    exact ⟨u, c, rfl, h, .refl c⟩
  | succ k ih =>
    have slot : 2047 - k = n := by omega
    have guarded := h.guarded [.engine, .lot n] (.inner .engine)
    have state : (((u.withGuard [.engine, .lot n]).granted (.inner .engine)).lot n).state = (s.lot n).state := by
      rw [guarded.lots n (by omega), if_neg fun c => Nat.lt_irrefl n c.1]
    rw [State.withdrawLots, slot]
    dsimp only
    rw [guarded.recordFails, if_neg Bool.false_ne_true, state]
    by_cases floor : (s.lot n).state = lotOnFloor
    · rw [if_pos floor]
      have placed := guarded.placed
        (((u.withGuard [.engine, .lot n]).granted (.inner .engine)).lot n).boat.toNat
        (((u.withGuard [.engine, .lot n]).granted (.inner .engine)).lot n).crates
      rw [placed.anyFails, if_neg Bool.false_ne_true, placed.not_full room (by omega), if_neg Bool.false_ne_true]
      have written := placed.withdraw (by omega) floor (reason := withdrawnByClose)
        (e := c.withdrawal (((u.withGuard [.engine, .lot n]).granted (.inner .engine)).lot n).number _) rfl
      obtain ⟨v, d, run, closing, same⟩ := ih written (by omega) { c with lots := c.lots + 1 }
      exact ⟨v, d, run, closing, ⟨same.source, same.day, same.reports⟩⟩
    · rw [if_neg floor]
      exact ih (guarded.pass floor).released (by omega) c

/-! ## Phase C -/

theorem rollWrites_range {a : Nat} {i : AccountImage} {day : Word} {w : Nat × Word}
    (h : w ∈ rollWrites a i day) : a ≤ w.1 ∧ w.1 + 4 ≤ a + 64 := by
  simp only [rollWrites, List.mem_cons, List.not_mem_nil, or_false] at h
  rcases h with rfl | rfl | rfl | rfl | rfl <;> dsimp only <;> omega

theorem Closing.rolled {r : Profile} {s u : State} {n : Nat} (h : Closing r s n u) {a : Nat} (ha : a < 256)
    (i : AccountImage) (day : Word) :
    Closing r s n (u.write (.inner .engine) (rollWrites (u.accountAddr a) i day)) := by
  refine h.of_books (bs := [1]) (u.write_shell _ _)
    (.of_putAll (u.write_shell _ _).profile (State.write_store _ _ _) fun w hw => ?_) (by decide) rfl rfl rfl
  obtain ⟨low, high⟩ := rollWrites_range hw
  have limit : bookLimit 1 = 16384 := rfl
  simp only [State.accountAddr] at low high
  exact ⟨by omega, by omega⟩

/-- Phase C goes through every account from the `256 − k`th on, and then phase D follows (R187). -/
theorem Closing.rollAccounts {r : Profile} {s : State} {n : Nat} (k : Nat) {u : State} (h : Closing r s n u)
    (c : CloseWork) :
    ∃ v d, u.rollAccounts c k = v.finishClose d ∧ Closing r s n v ∧ SameClose c d := by
  induction k generalizing u c with
  | zero => exact ⟨u, c, rfl, h, .refl c⟩
  | succ k ih =>
    have guarded := h.guarded [.engine, .account (255 - k)] (.inner .engine)
    rw [State.rollAccounts]
    dsimp only
    rw [guarded.rollReadFails, if_neg Bool.false_ne_true]
    split
    · obtain ⟨v, d, run, closing, same⟩ := ih (guarded.rolled (a := 255 - k) (by omega) _ c.day).released
        { c with sold := c.sold + _ }
      exact ⟨v, d, run, closing, ⟨same.source, same.day, same.reports⟩⟩
    · exact ih guarded.released c

end Sys2Proof.Machine
end

section
/-! Phase D of a close (R188), the resume of a halted close (R190), and the commands STEP and ENGINE_RESUME. -/

namespace Sys2Proof.Machine

/-! ## Phase D -/

/-- The DAY_CLOSED entry written, the guard released and DAY_CLOSED raised (R188). -/
def State.closedBook (s : State) (c : CloseWork) : State :=
  ((s.writeEntry (c.closedEntry none) (s.openedRecord c)).withGuard []).raise .dayClosed

/-- The close reported to its source, when it has one (R188). -/
def State.closeReported (s : State) (c : CloseWork) (seq : Word) : State :=
  if c.reports then s.report c.posting none (some seq) (some c.day) [] else s

theorem State.writeClosed_eq (s : State) (c : CloseWork) :
    s.writeClosed c = ((s.closedBook c).closeReported c s.engine.copy.head).endPosting := rfl

section Reported
variable (s : State) (c : CloseWork) (seq : Word)

theorem State.closedBook_engine :
    (s.closedBook c).engine = { s.engine with copy := s.openedRecord c, guard := [] } := by
  simp [State.closedBook]

theorem State.closedBook_shell : SameShell s (s.closedBook c) :=
  ((s.writeEntry_shell _ _).trans (State.withGuard_shell _ _)).trans (State.raise_shell _ _)

theorem State.closeReported_engine : (s.closeReported c seq).engine = s.engine := by
  unfold State.closeReported
  split
  · exact State.report_engine ..
  · rfl

theorem State.closeReported_shell : SameShell s (s.closeReported c seq) :=
  .ite (s.report_shell _ _ _ _ _) (.refl s)

theorem State.closeReported_fixtures : SameFixtures s (s.closeReported c seq) := by
  unfold State.closeReported
  split
  · exact s.report_fixtures _ _ _ _ _
  · exact .refl s

theorem State.closeReported_store : (s.closeReported c seq).store = s.store := by
  unfold State.closeReported
  split
  · exact State.report_store (fun _ _ => rfl) _ _ _
  · rfl

theorem State.closeReported_desk (reports : c.reports = true) (source : c.source = .desk) :
    (s.closeReported c seq).desk.get deskSlot = ⟨.applied, none, some seq, some c.day, false, 0⟩ := by
  rw [State.closeReported, if_pos reports, State.report_desk _ _ _ _ (p := c.posting) source, if_pos rfl,
    reportStatus_eq]
  rfl

theorem State.closeReported_schedule (reports : c.reports = true) (source : c.source = .schedule) :
    (s.closeReported c seq).clock.request = .none := by
  have posted : c.posting.source = .schedule := source
  simp only [State.closeReported, reports, if_true, State.report, posted]

end Reported

/-- What a close that ends leaves (R188): the next day, the lots withdrawn, and its report. -/
structure DayClosed (s : State) (c : CloseWork) (t : State) : Prop where
  copy : t.engine.copy =
    { s.engine.copy with
      head := s.engine.copy.head + BitVec.ofNat 32 (s.floorLots 2048 + 1), day := dayAfter c.day,
      dayState := dayOpen }
  guard : t.engine.guard = []
  halt : t.engine.halt = none
  noticed : t.noticed .dayClosed = true
  lots : ∀ slot : Nat, slot < 2048 → (t.lot slot).state =
    if (s.lot slot).state = lotOnFloor then lotWithdrawn else (s.lot slot).state
  desk : c.reports = true → c.source = .desk → t.desk.get deskSlot =
    ⟨.applied, none, some (s.engine.copy.head + BitVec.ofNat 32 (s.floorLots 2048)), some c.day, false, 0⟩
  schedule : c.reports = true → c.source = .schedule → t.clock.request = .none

/-- Phase D ends a close that has gone through every lot (R188). -/
theorem Closing.writeClosed {r : Profile} {s u : State} (h : Closing r s 2048 u) {c d : CloseWork}
    (same : SameClose c d) : DayClosed s c (u.writeClosed d) := by
  have head : u.engine.copy.head = s.engine.copy.head + BitVec.ofNat 32 (s.floorLots 2048) := by rw [h.copy]
  rw [State.writeClosed_eq, head]
  let seq := s.engine.copy.head + BitVec.ofNat 32 (s.floorLots 2048)
  have engine := (u.closedBook d).closeReported_engine d seq
  have fixtures := (u.closedBook d).closeReported_fixtures d seq
  have frame := ((u.closedBook d).closeReported d seq).endPosting_engine_frame
  have stations := State.endPosting_stations ((u.closedBook d).closeReported d seq)
  rw [engine, State.closedBook_engine] at frame
  refine ⟨?_, by rw [frame], by rw [frame]; exact h.halt, ?_, fun slot hs => ?_, fun reports source => ?_,
    fun reports source => ?_⟩
  · rw [frame]
    simp only [State.openedRecord, EngineRecord.step, h.copy, same.day, BitVec.ofNat_add, BitVec.add_assoc]
    rfl
  · exact stations.noticed _ (fixtures.noticed _ (State.raise_noticed _ _))
  · have address : (((u.closedBook d).closeReported d seq).endPosting).lotAddr slot =
        (u.writeEntry (d.closedEntry none) (u.openedRecord d)).lotAddr slot := by
      have shell := ((u.closedBook_shell d).trans (State.closeReported_shell _ d seq)).trans
        (State.endPosting_shell _)
      simp only [State.lotAddr, shell.base, (u.writeEntry_shell _ _).base]
    have store : (((u.closedBook d).closeReported d seq).endPosting).store =
        (u.writeEntry (d.closedEntry none) (u.openedRecord d)).store := by
      rw [State.endPosting_store, State.closeReported_store, State.closedBook, State.raise_store,
        State.withGuard_store]
    have kept := State.writeEntry_lot h.ready (e := d.closedEntry none) (u.openedRecord d) hs
      fun i hi => by cases hi
    have all := h.lots slot hs
    simp only [hs, true_and] at all
    rw [State.lot_state, address, store, ← State.lot_state, kept, all]
  · rw [stations.desk, State.closeReported_desk _ _ _ (same.reports.trans reports) (same.source.trans source),
      same.day]
  · rw [stations.clock, State.closeReported_schedule _ _ _ (same.reports.trans reports)
      (same.source.trans source)]

/-! ## A halted close resumed -/

/-- A close that finds its records readable and room in the journal runs to its end (R185 to R188). -/
theorem State.runClose_closes {r : Profile} {s : State} (ready : Ready r s) (good : s.store.bad = [])
    (halt : s.engine.halt = none) (room : s.ClosesInRoom) (c : CloseWork) :
    DayClosed s c (s.runClose c undisturbed) := by
  have none : s.floorLots 0 = 0 := rfl
  have entered : Closing r s 0 s.enterClose :=
    { shell := s.engine_shell _
      ready := ⟨ready.profile, ready.valid, ready.fuse⟩
      good := fun a k => by simp [State.enterClose, Memory.failing, good]
      copy := by rw [none]; simp [State.enterClose]
      tail := rfl
      halt := halt
      lots := fun slot hs => by rw [if_neg fun h => Nat.not_lt_zero _ h.1]; rfl }
  obtain ⟨v, d, phaseB, withdrawn, same⟩ := entered.withdrawLots room 2048 (Nat.zero_add _) c
  obtain ⟨w, e, phaseC, rolled, same'⟩ := withdrawn.rollAccounts 256 d
  have run : s.runClose c undisturbed = w.writeClosed e := by
    show s.enterClose.withdrawLots c undisturbed 2048 = _
    rw [phaseB, phaseC, State.finishClose, rolled.not_full room (Nat.le_refl _), if_neg Bool.false_ne_true]
  rw [run]
  exact rolled.writeClosed
    ⟨same'.source.trans same.source, same'.day.trans same.day, same'.reports.trans same.reports⟩

/-- Settles O14: the two commands branch on the engine's state; a resumed close runs through its phases. -/
theorem stepAndResumeCommands : Obligations.StepAndResumeCommands := by
  unfold Obligations.StepAndResumeCommands
  intro s p own
  refine ⟨fun q qs paused queue => ?_, fun paused queue => ?_, exec_step_other own,
    fun q qs halted posting queue => ?_, fun halted posting queue => ?_, exec_engineResume_other own,
    fun halted redo => ?_, fun c r halted close profile valid fuse bad => ?_⟩
  · rw [exec_step_paused own paused, State.takeNext_cons queue]
  · rw [exec_step_paused own paused, State.takeNext_nil queue]
  · rw [exec_engineResume_posting own halted posting, State.takeNext_cons (by exact queue)]
  · rw [exec_engineResume_posting own halted posting, State.takeNext_nil (by exact queue)]
  · intro u
    refine ⟨exec_engineResume_struck own halted redo, fun t redone open_ => ?_, fun t redone closing => ?_⟩
    · rw [exec_engineResume_redone own halted redo redone, open_, if_neg Bool.false_ne_true]
    · rw [exec_engineResume_redone own halted redo redone, closing, if_pos rfl]
      rfl
  · intro lots room
    let u : State := { s.dropSnapshot p with engine := { s.engine with halt := none } }
    have profile' : u.profile = s.profile := State.dropSnapshot_profile s p
    have store : u.store = s.store := State.dropSnapshot_store s p
    have lot (slot : Nat) : u.lot slot = s.lot slot := by
      simp only [State.lot, State.lotAddr, State.base, store, profile']
    have floor : u.floorLots 2048 = lots := by
      simp only [State.floorLots, lot]
      rfl
    have closed := State.runClose_closes (s := u) ⟨profile'.trans profile, valid, by rw [store]; exact fuse⟩
      (by rw [store]; exact bad) rfl (by rw [State.ClosesInRoom, floor]; exact room) c
    have run : (s.dropSnapshot p).resumeCommand undisturbed = u.runClose c undisturbed := by
      rw [State.resumeCommand_close (by simpa using halted) (by simpa using close), State.dropSnapshot_engine]
    obtain ⟨copy, guard, halt, noticed, states, desk, schedule⟩ := closed
    rw [floor] at copy desk
    refine ⟨_, exec_engineResume_taken own, State.answer_answer _ _ _, ?_⟩
    rw [run]
    generalize u.runClose c undisturbed = t at *
    refine ⟨by rw [State.answer_engine]; exact copy, by rw [State.answer_engine]; exact guard,
      by rw [State.answer_engine]; exact halt, ?_, fun slot hs => ?_, fun reports source => ?_,
      fun reports source => ?_⟩
    · simpa only [State.noticed, State.answer_notices] using noticed
    · have same : (t.answer p .done).lot slot = t.lot slot := by
        simp only [State.lot, State.lotAddr, State.answer_store, State.answer_base]
      rw [same, states slot hs, lot]
    · rw [State.answer_desk]; exact desk reports source
    · rw [State.answer_clock]; exact schedule reports source

end Sys2Proof.Machine
end

section
/-! The journal bound (R44, R51): every operation that reaches the engine's copies of head and tail keeps at
most 256 entries from the tail to the head. -/

namespace Sys2Proof.Machine

variable {s : State}

/-! ## Operations that leave head and tail -/

/-- Two states with one head and one tail of the journal, as the engine's copies hold them. -/
structure SameJournal (s t : State) : Prop where
  head : t.engine.copy.head = s.engine.copy.head
  tail : t.engine.tail = s.engine.tail

theorem SameJournal.trans {t u : State} (h : SameJournal s t) (k : SameJournal t u) : SameJournal s u :=
  ⟨k.head.trans h.head, k.tail.trans h.tail⟩

theorem SameJournal.of_engine {t : State} (e : t.engine = s.engine) : SameJournal s t := by
  constructor <;> rw [e]

theorem SameJournal.bound {t : State} (same : SameJournal s t) (h : JournalBound s) : JournalBound t := by
  show (t.engine.copy.head - t.engine.tail).toNat ≤ 256
  rw [same.head, same.tail]
  exact h

theorem SameJournal.full {t : State} (same : SameJournal s t) : t.journalFull = s.journalFull := by
  simp only [State.journalFull, same.head, same.tail]

theorem State.enqueue_sameJournal (s : State) (p : Posting) : SameJournal s (s.enqueue p) := by
  unfold State.enqueue
  split <;> exact ⟨rfl, rfl⟩

theorem State.takeNext_sameJournal (s : State) : SameJournal s s.takeNext := by
  unfold State.takeNext
  split <;> exact ⟨rfl, rfl⟩

theorem State.endPosting_sameJournal (s : State) : SameJournal s s.endPosting := by
  unfold State.endPosting
  split
  · exact ⟨rfl, rfl⟩
  · exact s.takeNext_sameJournal

theorem State.placeGuard_sameJournal (s : State) (rs : List RecordId) : SameJournal s (s.placeGuard rs) :=
  ⟨by simp, by simp⟩

theorem State.withGuard_sameJournal (s : State) (g : List RecordId) : SameJournal s (s.withGuard g) :=
  ⟨rfl, rfl⟩

theorem State.granted_sameJournal (s : State) (g : Grantee) : SameJournal s (s.granted g) := ⟨rfl, rfl⟩

theorem State.write_sameJournal (s : State) (g : Grantee) (ws : List (Nat × Word)) :
    SameJournal s (s.write g ws) := ⟨rfl, rfl⟩

theorem State.setStepMode_sameJournal (s : State) (on : Bool) : SameJournal s (s.setStepMode on) := by
  unfold State.setStepMode
  dsimp only
  split
  · exact SameJournal.trans (t := { s with engine := { s.engine with stepMode := on } }) ⟨rfl, rfl⟩
      (State.takeNext_sameJournal _)
  · exact ⟨rfl, rfl⟩

theorem State.admitInternal_sameJournal (s : State) : SameJournal s s.admitInternal := by
  unfold State.admitInternal
  split
  · split
    · exact ⟨rfl, rfl⟩
    · refine SameJournal.trans ?_ (State.enqueue_sameJournal _ _)
      exact ⟨by simp [State.dropWaiting_engine], by simp [State.dropWaiting_engine]⟩
  · exact ⟨rfl, rfl⟩

/-! ## Tail writes -/

/-- What a tail write does to the engine's copies: the head stays, and the tail comes no farther from it. -/
structure TailNearer (s t : State) : Prop where
  copy : t.engine.copy = s.engine.copy
  distance : (t.engine.copy.head - t.engine.tail).toNat ≤ (s.engine.copy.head - s.engine.tail).toNat

theorem TailNearer.of_engine {t : State} (e : t.engine = s.engine) : TailNearer s t :=
  ⟨by rw [e], by rw [e]⟩

theorem TailNearer.to_engine {t u : State} (h : TailNearer s t) (e : u.engine = t.engine) :
    TailNearer s u := ⟨by rw [e]; exact h.copy, by rw [e]; exact h.distance⟩

theorem TailNearer.trans {t u : State} (h : TailNearer s t) (k : TailNearer t u) : TailNearer s u :=
  ⟨k.copy.trans h.copy, Nat.le_trans k.distance h.distance⟩

theorem TailNearer.bound {t : State} (near : TailNearer s t) (h : JournalBound s) : JournalBound t :=
  Nat.le_trans near.distance h

/-- The state in which an accepted tail write leaves the engine: one that makes room for a waiting entry ends
JOURNAL_WAIT (R45). -/
def Engine.stateAfterTail (e : Engine) (w : Word) : EngineState :=
  if e.state = .journalWait ∧ e.copy.head - w ≠ 256#32 then
    match e.work with
    | .close _ _ => .closingDay
    | _ => .applying
  else e.state

/-- An accepted tail write sets the tail, and of the rest at most the engine's state (R42, R45). -/
theorem State.setTail_eq (s : State) (w : Word) :
    s.setTail w =
      { s with engine := { s.engine with tail := w, state := s.engine.stateAfterTail w } } := by
  have full : (s.engine.copy.head - w == 256#32) = false ↔ s.engine.copy.head - w ≠ 256#32 := by simp
  unfold State.setTail Engine.stateAfterTail
  simp only [State.journalFull, full]
  split
  · unfold State.leaveJournalWait
    cases s.engine.work <;> rfl
  · rfl

theorem State.setTail_apart (w : Word) : Apart fun u => u.setTail w := by
  intro u m a x y
  simp only [State.setTail_eq]
  rfl

/-- A tail that lies between the old tail and the head is no farther from the head (R42). -/
theorem distance_of_accepted {head tail w : Word} (h : (w - tail).toNat ≤ (head - tail).toNat) :
    (head - w).toNat ≤ (head - tail).toNat := by
  bv_omega

theorem State.setTail_nearer {w : Word} (h : s.tailAccepted w = true) : TailNearer s (s.setTail w) := by
  rw [State.setTail_eq]
  exact ⟨rfl, distance_of_accepted (by simpa [State.tailAccepted] using h)⟩

/-- A list of checks passes exactly when each of them does. -/
theorem firstFail_eq_none {α : Type} {cs : List (Bool × α)} :
    firstFail cs = none ↔ ∀ c ∈ cs, c.1 = true := by
  induction cs with
  | nil => simp [firstFail]
  | cons c cs ih => cases h : c.1 <;> simp [firstFail, h, ih]

/-- A write that passes the checks of its special book is an aligned whole word of a value that it takes. -/
theorem State.takesValue_of_passed {d : Side} {book : Fin 7} {a : Access} {v : Word}
    (write : a.write = some v) (passed : firstFail (s.specialChecks d book a) = none) :
    s.takesValue (specialWordAt book a.offset) v = true := by
  refine firstFail_eq_none.mp passed (_, .badValue) ?_
  rw [State.specialChecks, write]
  exact List.mem_append_right _ (.tail _ (.head _))

/-- A write of TAIL that its path carries out (R42, R58). -/
theorem State.writeSpecial_tail_engine (s : State) (p : PortId) {book : Fin 7} {a : Access}
    (word : specialWordAt book a.offset = .tail) (w : Word) :
    (s.writeSpecial p book a w).engine = (s.setTail w).engine := by
  have same (rs : List Request) :
      ((s.dropSnapshot p).effect p .tail w rs).engine = (s.setTail w).engine := by
    rw [State.effect_block rfl, State.serve_engine, State.blockEffect, State.setTail_eq, State.setTail_eq,
      State.dropSnapshot_engine]
  unfold State.writeSpecial
  rw [word]
  dsimp only
  split
  · exact same _
  · rw [State.answer_engine, same]

/-- A tail write that arrives at a port brings the tail no farther from the head, whatever becomes of it. -/
theorem State.arriveTail_nearer (s : State) (w : PortId × Word) : TailNearer s (s.arriveTail w) := by
  obtain ⟨p, w⟩ := w
  by_cases taken : s.idlePort p
  · have special : s.arriveTail (p, w) = s.checkSpecial p 0 ⟨portAddr 0 0xA0, .word, some w⟩ :=
      State.arrive_special taken 0 0xA0 .word (some w)
    have word : specialWordAt 0 (⟨portAddr 0 0xA0, .word, some w⟩ : Access).offset = .tail := by
      rw [show (⟨portAddr 0 0xA0, .word, some w⟩ : Access).offset = 0xA0 from
        addrOffset_portAddr 0 0xA0 (by decide)]
      rfl
    rw [special, State.checkSpecial]
    split
    · exact .of_engine (by simp)
    · next passed =>
      have accepted := State.takesValue_of_passed rfl passed
      rw [word] at accepted
      exact (State.setTail_nearer accepted).to_engine (s.writeSpecial_tail_engine p word w)
  · refine .of_engine ?_
    unfold State.arriveTail State.arrive
    split
    · next free =>
      cases part : s.part with
      | running => exact absurd ⟨part, free⟩ taken
      | _ => simp
    · rfl

/-- What comes between the steps of a run brings the tail no farther from the head. -/
def Between.Nearer (between : Between) : Prop := ∀ point u, TailNearer u (between point u)

theorem undisturbed_nearer : undisturbed.Nearer := fun _ _ => .of_engine rfl

theorem tailsBetween_nearer (tails : List (RunPoint × PortId × Word)) : (tailsBetween tails).Nearer := by
  intro point u
  unfold tailsBetween
  generalize tails.filter _ = ts
  induction ts generalizing u with
  | nil => exact .of_engine rfl
  | cons t ts ih => exact (u.arriveTail_nearer t.2).trans (ih _)

/-! ## Entries -/

/-- An entry that finds a slot free and carries the head one on keeps the bound (R44). -/
theorem JournalBound.advance {t : State} (h : JournalBound s) (room : s.journalFull = false)
    (head : t.engine.copy.head = s.engine.copy.head + 1) (tail : t.engine.tail = s.engine.tail) :
    JournalBound t := by
  have free : s.engine.copy.head - s.engine.tail ≠ 256#32 := by simpa [State.journalFull] using room
  show (t.engine.copy.head - t.engine.tail).toNat ≤ 256
  rw [head, tail]
  have bound : (s.engine.copy.head - s.engine.tail).toNat ≤ 256 := h
  bv_omega

theorem State.writeEntry_journalBound (h : JournalBound s) (room : s.journalFull = false) (e : JournalEntry)
    {new : EngineRecord} (one : new.head = s.engine.copy.head + 1) : JournalBound (s.writeEntry e new) :=
  h.advance room (by rw [State.writeEntry_engine]; exact one) (by rw [State.writeEntry_engine])

theorem State.haltAt_sameJournal (s : State) (c : HaltCause) : SameJournal s (s.haltAt c) := ⟨rfl, rfl⟩

theorem State.waitForJournal_sameJournal (s : State) (w : Work) : SameJournal s (s.waitForJournal w) :=
  ⟨rfl, rfl⟩

theorem State.writeDueEntry_journalBound (h : JournalBound s) (room : s.journalFull = false) (d : Due) :
    JournalBound (s.writeDueEntry d) := by
  have reported : JournalBound (((s.writeEntry d.entry (s.nextRecord d.nextLot)).withGuard []).report
      d.posting d.entry.reason (some s.engine.copy.head) d.value d.entry.images) :=
    h.advance room (by simp [State.nextRecord, EngineRecord.step]) (by simp)
  rw [State.writeDueEntry_eq]
  dsimp only
  split
  · exact (State.haltAt_sameJournal _ _).bound reported
  · exact (State.endPosting_sameJournal _).bound reported

theorem State.entryDue_journalBound (h : JournalBound s) (d : Due) : JournalBound (s.entryDue d) := by
  unfold State.entryDue
  split
  · exact (s.waitForJournal_sameJournal _).bound h
  · next room => exact State.writeDueEntry_journalBound h (by simpa using room) d

theorem State.refuse_journalBound (h : JournalBound s) (p : Posting) (r : Reason) :
    JournalBound (s.refuse p r) := State.entryDue_journalBound h _

theorem State.refuseBare_sameJournal (s : State) (p : Posting) (r : Reason) :
    SameJournal s (s.refuseBare p r) :=
  SameJournal.trans ⟨by simp, by simp⟩ (State.endPosting_sameJournal (s.report p (some r) none none []))

/-! ## FORMAT -/

/-- FORMAT sets head and tail to 0 at step 7 and the head to 1 at step 8, whatever it found (R32, R33). -/
theorem State.formatHall_journalBound (s : State) (ps : Params) (st : Stamp) {between : Between}
    (near : between.Nearer) : JournalBound (s.formatHall ps st between) := by
  have step8 (u : State) (head : u.engine.copy.head = 0) (tail : u.engine.tail = 0) :
      JournalBound (u.formatEntry ps st) := by
    have one : (u.formatEntry ps st).engine.copy.head = 1 := by rw [State.formatEntry_engine]; rfl
    have zero : (u.formatEntry ps st).engine.tail = 0 := by rw [State.formatEntry_engine]; exact tail
    show ((u.formatEntry ps st).engine.copy.head - (u.formatEntry ps st).engine.tail).toNat ≤ 256
    rw [one, zero]
    decide
  have step9 (u : State) (same : u.engine.copy.head = 1) (h : JournalBound u) : JournalBound u.formatEnd :=
    SameJournal.bound ⟨by rw [State.formatEnd_engine, same]; rfl, by rw [State.formatEnd_engine]⟩ h
  have before8 := near .before8 (between .before7 s.formatStores).formatEngine
  have head : (between .before8 (between .before7 s.formatStores).formatEngine).engine.copy.head = 0 := by
    rw [before8.copy, State.formatEngine_engine]
    rfl
  have tail : (between .before8 (between .before7 s.formatStores).formatEngine).engine.tail = 0 := by
    have distance := before8.distance
    rw [head, State.formatEngine_engine] at distance
    generalize (between .before8 (between .before7 s.formatStores).formatEngine).engine.tail = tail
      at distance ⊢
    have none : ((0 : Word) - tail).toNat ≤ ((0 : Word) - 0).toNat := distance
    bv_omega
  have before9 := near .before9
    ((between .before8 (between .before7 s.formatStores).formatEngine).formatEntry ps st)
  refine step9 _ ?_ (before9.bound (step8 _ head tail))
  rw [before9.copy, State.formatEntry_engine]
  rfl

theorem State.applyFormat_journalBound (h : JournalBound s) (p : Posting) {between : Between}
    (near : between.Nearer) : JournalBound (s.applyFormat p between) := by
  unfold State.applyFormat
  split
  · split
    · exact State.refuse_journalBound ((s.placeGuard_sameJournal _).bound h) _ _
    · exact (s.refuseBare_sameJournal _ _).bound h
  · refine (State.endPosting_sameJournal _).bound (SameJournal.bound ?_
      (s.formatHall_journalBound p.params p.stamp near))
    exact ⟨by simp, by simp⟩

theorem State.forceFormat_journalBound (s : State) {between : Between} (near : between.Nearer) :
    JournalBound (s.forceFormat between) := by
  rw [State.forceFormat_eq]
  refine (State.endPosting_sameJournal _).bound (SameJournal.bound ?_
    (s.formatHall_journalBound Params.zero s.stamp near))
  exact ⟨by rw [State.reportAbandoned_engine], by rw [State.reportAbandoned_engine]⟩

/-! ## Day close -/

theorem State.writeStruck_journalBound (h : JournalBound s) (room : s.journalFull = false) (c : CloseWork) :
    JournalBound (s.writeStruck c) := by
  refine SameJournal.bound ?_ (State.writeEntry_journalBound h room (c.closedEntry (some .storeError))
    (new := s.engine.copy.step) rfl)
  exact ⟨rfl, rfl⟩

theorem State.strikeClose_journalBound (h : JournalBound s) (c : CloseWork) :
    JournalBound (s.strikeClose c) := by
  unfold State.strikeClose
  split
  · exact h
  · split
    · exact (s.waitForJournal_sameJournal _).bound h
    · next room => exact State.writeStruck_journalBound h (by simpa using room) c

theorem State.holdClose_sameJournal (s : State) (c : CloseWork) (due : CloseDue) :
    SameJournal s (s.holdClose c due) := by
  unfold State.holdClose
  split
  · exact ⟨rfl, rfl⟩
  · exact s.waitForJournal_sameJournal _

theorem State.writeClosed_journalBound (h : JournalBound s) (room : s.journalFull = false) (c : CloseWork) :
    JournalBound (s.writeClosed c) := by
  rw [State.writeClosed_eq]
  refine (State.endPosting_sameJournal _).bound (h.advance room ?_ ?_) <;>
    rw [State.closeReported_engine, State.closedBook_engine]
  rfl

theorem State.finishClose_journalBound (h : JournalBound s) (c : CloseWork) :
    JournalBound (s.finishClose c) := by
  unfold State.finishClose
  split
  · exact (s.holdClose_sameJournal _ _).bound h
  · next room => exact State.writeClosed_journalBound h (by simpa using room) c

theorem State.rollAccounts_journalBound (h : JournalBound s) (c : CloseWork) (n : Nat) :
    JournalBound (s.rollAccounts c n) := by
  induction n generalizing s c with
  | zero => exact State.finishClose_journalBound h c
  | succ n ih =>
    have read (g : List RecordId) : JournalBound ((s.withGuard g).granted (.inner .engine)) :=
      (State.granted_sameJournal _ _).bound ((s.withGuard_sameJournal g).bound h)
    unfold State.rollAccounts
    dsimp only
    split
    · exact State.strikeClose_journalBound (read _) c
    · split
      · exact ih ((State.withGuard_sameJournal _ _).bound ((State.write_sameJournal _ _ _).bound (read _))) _
      · exact ih ((State.withGuard_sameJournal _ _).bound (read _)) _

theorem State.writeWithdrawal_journalBound (h : JournalBound s) (room : s.journalFull = false)
    (e : JournalEntry) : JournalBound (s.writeWithdrawal e) := by
  refine SameJournal.bound ?_ (State.writeEntry_journalBound h room e (new := s.engine.copy.step) rfl)
  exact ⟨rfl, rfl⟩

theorem State.withdrawOne_journalBound (h : JournalBound s) (room : s.journalFull = false) (c : CloseWork)
    (e : JournalEntry) {between : Between} (near : between.Nearer) :
    JournalBound (s.withdrawOne c e between) :=
  (near _ _).bound (State.writeWithdrawal_journalBound h room e)

theorem State.withdrawLots_journalBound (h : JournalBound s) (c : CloseWork) {between : Between}
    (near : between.Nearer) (n : Nat) : JournalBound (s.withdrawLots c between n) := by
  induction n generalizing s c with
  | zero => exact State.rollAccounts_journalBound h c 256
  | succ n ih =>
    have guarded (g : List RecordId) : JournalBound ((s.withGuard g).granted (.inner .engine)) :=
      (State.granted_sameJournal _ _).bound ((s.withGuard_sameJournal g).bound h)
    have placed (g rs : List RecordId) :
        JournalBound (((s.withGuard g).granted (.inner .engine)).placeGuard rs) :=
      (State.placeGuard_sameJournal _ rs).bound (guarded g)
    unfold State.withdrawLots
    dsimp only
    split
    · exact State.strikeClose_journalBound (guarded _) c
    · split
      · split
        · exact State.strikeClose_journalBound (placed _ _) c
        · split
          · exact (State.holdClose_sameJournal _ _ _).bound (placed _ _)
          · next room =>
            exact ih (State.withdrawOne_journalBound (placed _ _) (by simpa using room) _ _ near) _
      · exact ih ((State.withGuard_sameJournal _ _).bound (guarded _)) _

theorem State.runClose_journalBound (h : JournalBound s) (c : CloseWork) {between : Between}
    (near : between.Nearer) : JournalBound (s.runClose c between) := by
  have entered : JournalBound s.enterClose := h
  exact State.withdrawLots_journalBound ((near _ _).bound entered) c near 2048

theorem State.beginClose_journalBound (h : JournalBound s) (c : CloseWork) {between : Between}
    (near : between.Nearer) : JournalBound (s.beginClose c between) := by
  refine State.runClose_journalBound (SameJournal.bound ?_ h) c near
  exact ⟨rfl, rfl⟩

theorem State.releaseWork_journalBound (h : JournalBound s) (room : s.journalFull = false)
    {between : Between} (near : between.Nearer) : JournalBound (s.releaseWork between) := by
  unfold State.releaseWork
  split
  · exact State.writeDueEntry_journalBound (s := { s with engine := { s.engine with work := .none } })
      h room _
  · dsimp only
    split
    · exact State.withdrawLots_journalBound (State.withdrawOne_journalBound
        (s := { s with engine := { s.engine with work := .none } }) h room _ _ near) _ near _
    · exact State.writeClosed_journalBound (s := { s with engine := { s.engine with work := .none } })
        h room _
    · exact State.writeStruck_journalBound (s := { s with engine := { s.engine with work := .none } })
        h room _
  · exact h

theorem State.journalRelease_journalBound (h : JournalBound s) {between : Between} (near : between.Nearer) :
    JournalBound (s.journalRelease between) := by
  unfold State.journalRelease
  split
  · exact h
  · next free =>
    have room : s.journalFull = false := by
      cases full : s.journalFull with
      | false => rfl
      | true => exact absurd (.inr full) free
    split
    · exact State.releaseWork_journalBound h room near
    · exact State.releaseWork_journalBound h room near
    · exact h

/-! ## The posting in hand -/

/-- The states that phases 1 to 4 of a posting leave have the head and the tail they began with. -/
def Applied.sameJournal (s : State) : Applied → Prop
  | .bare _ => True
  | .refused t _ => SameJournal s t
  | .accepted t _ => SameJournal s t
  | .closing t _ => SameJournal s t

theorem State.judge_sameJournal {t : State} (same : SameJournal t s) (p : Posting) (k : PostKind)
    (plan : Plan) : (s.judge p k plan).sameJournal t := by
  unfold State.judge
  split
  · exact same
  · split <;> exact same

theorem State.examine_sameJournal (s : State) (p : Posting) (k : PostKind) (plan : Plan) :
    (s.examine p k plan).sameJournal s := by
  have read (rs : List RecordId) : SameJournal s ((s.placeGuard rs).granted (.inner .engine)) :=
    (s.placeGuard_sameJournal rs).trans (State.granted_sameJournal _ _)
  have more (rs rs' : List RecordId) :
      SameJournal s (((s.placeGuard rs).granted (.inner .engine)).placeGuard rs') :=
    (read rs).trans (State.placeGuard_sameJournal _ rs')
  unfold State.examine
  split
  · trivial
  · dsimp only
    split
    · exact read _
    · split
      · exact more _ _
      · exact State.judge_sameJournal (more _ _) p k plan

theorem State.applyPlan_journalBound (h : JournalBound s) (p : Posting) (k : PostKind) (plan : Plan) :
    JournalBound (s.applyPlan p k plan) := by
  have kept := s.examine_sameJournal p k plan
  unfold State.applyPlan
  cases e : s.examine p k plan with
  | bare r => exact (s.refuseBare_sameJournal p r).bound h
  | refused t r => rw [e] at kept; exact State.refuse_journalBound (SameJournal.bound kept h) p r
  | accepted t d => rw [e] at kept; exact State.entryDue_journalBound (SameJournal.bound kept h) d
  | closing t c =>
    rw [e] at kept
    exact State.beginClose_journalBound (SameJournal.bound kept h) c undisturbed_nearer

theorem State.applyRow_journalBound (h : JournalBound s) (k : PostKind) (plan : Posting → Plan) :
    JournalBound (s.applyRow k plan) := by
  unfold State.applyRow
  split
  · exact State.applyPlan_journalBound h _ _ _
  · exact h

theorem State.formatRow_journalBound (h : JournalBound s) : JournalBound s.formatRow := by
  unfold State.formatRow
  split
  · exact State.applyFormat_journalBound h _ undisturbed_nearer
  · exact h

theorem State.applyUnknown_journalBound (h : JournalBound s) (p : Posting) :
    JournalBound (s.applyUnknown p) := by
  unfold State.applyUnknown
  split
  · exact State.refuse_journalBound (s := (s.placeGuard [.engine]).granted (.inner .engine))
      ((s.placeGuard_sameJournal _).bound h) _ _
  · exact (s.refuseBare_sameJournal _ _).bound h

theorem State.unknownRow_journalBound (h : JournalBound s) : JournalBound s.unknownRow := by
  unfold State.unknownRow
  split
  · split
    · exact State.applyUnknown_journalBound h _
    · exact h
  · exact h

theorem State.closeWithin_journalBound (h : JournalBound s) (p : Posting) {between : Between}
    (near : between.Nearer) : JournalBound (s.closeWithin p between) := by
  have kept := s.examine_sameJournal p .dayClose (dayClosePlan p)
  unfold State.closeWithin
  split
  · next e => rw [e] at kept; exact State.beginClose_journalBound (SameJournal.bound kept h) _ near
  · exact h

theorem State.postingWithin_journalBound (h : JournalBound s) {between : Between} (near : between.Nearer) :
    JournalBound (s.postingWithin between) := by
  unfold State.postingWithin
  split
  · split
    · exact State.applyFormat_journalBound h _ near
    · exact h
  · exact State.closeWithin_journalBound h _ near
  · exact h

/-! ## Redo -/

/-- Redo completes the entry at the head by its first engine record image (R49). -/
theorem State.redo_engine {t : State} (e : s.redo = some t) :
    t.engine = s.engine ∨ ∃ d h n y,
      Image.engine d h n y ∈ entryImages s.store (s.entryAddr (entrySlot s.engine.copy.head)) ∧
        t.engine = { s.engine with copy := s.engine.copy.withImage d h n y } := by
  have completes (u : State) (same : u.engine = s.engine) (is : List Image) :
      (u.redoEngineImage is).engine = s.engine ∨ ∃ d h n y, Image.engine d h n y ∈ is ∧
        (u.redoEngineImage is).engine = { s.engine with copy := s.engine.copy.withImage d h n y } := by
    unfold State.redoEngineImage
    split
    · exact .inl same
    · next d h n y found =>
      obtain ⟨i, mem, image⟩ := List.exists_of_findSome?_eq_some found
      cases i with
      | engine d' h' n' y' =>
        cases image
        exact .inr ⟨d, h, n, y, mem, by simp [same]⟩
      | _ => cases image
  unfold State.redo at e
  simp only at e
  split at e
  · cases e
  · split at e
    · cases e; exact .inl rfl
    · split at e
      · cases e; exact completes _ (by simp) _
      · split at e
        · cases e; exact completes _ (by simp) _
        · cases e; exact .inl rfl

/-- Redo of an entry that carries the head one on, in a journal with a free slot, keeps the bound. -/
theorem State.redo_journalBound {t : State} (h : JournalBound s) (e : s.redo = some t)
    (advances : ∀ d h n y,
      Image.engine d h n y ∈ entryImages s.store (s.entryAddr (entrySlot s.engine.copy.head)) →
      h = s.engine.copy.head + 1 ∧ s.journalFull = false) : JournalBound t := by
  obtain same | ⟨d, head, n, y, mem, redone⟩ := State.redo_engine e
  · exact (SameJournal.of_engine same).bound h
  · obtain ⟨one, room⟩ := advances d head n y mem
    exact h.advance room (by rw [redone]; exact one) (by rw [redone])

/-! ## Commands to the engine -/

/-- The engine is HALTED by a struck redo, which ENGINE_RESUME repeats (R50). -/
def Engine.AwaitsRedo (e : Engine) : Prop := e.state = .halted ∧ e.halt = some .redo

theorem State.resumeCommand_journalBound (h : JournalBound s) (redo : ¬ s.engine.AwaitsRedo)
    {between : Between} (near : between.Nearer) : JournalBound (s.resumeCommand between) := by
  unfold State.resumeCommand
  split
  · next halted =>
    dsimp only
    split
    · next cause => exact absurd ⟨halted, cause⟩ redo
    · exact State.runClose_journalBound (s := { s with engine := { s.engine with halt := none } }) h _ near
    · exact (State.takeNext_sameJournal _).bound h
  · exact h

theorem State.formatCommand_journalBound (h : JournalBound s) {between : Between} (near : between.Nearer) :
    JournalBound (s.formatCommand between) := by
  unfold State.formatCommand
  split
  · exact s.forceFormat_journalBound near
  · exact h

theorem State.takeCommand_journalBound (h : JournalBound s) (v : Word)
    (redo : v = 3 → ¬ s.engine.AwaitsRedo) : JournalBound (s.takeCommand v) := by
  unfold State.takeCommand
  split
  · exact h
  · unfold State.stepCommand
    split
    · exact s.takeNext_sameJournal.bound h
    · exact h
  · next three =>
    exact State.resumeCommand_journalBound h (redo (BitVec.eq_of_toNat_eq three)) undisturbed_nearer
  · exact State.formatCommand_journalBound h undisturbed_nearer
  · exact h

/-! ## Intake -/

theorem State.takeCommit_sameJournal (s : State) (n : Fin 8) : SameJournal s (s.takeCommit n) := by
  unfold State.takeCommit
  dsimp only
  split
  · exact ⟨rfl, rfl⟩
  · split
    · exact ⟨rfl, rfl⟩
    · split
      · exact ⟨rfl, rfl⟩
      · split
        · exact SameJournal.trans (t := s.setScale n _) ⟨rfl, rfl⟩ (State.enqueue_sameJournal _ _)
        · exact ⟨rfl, rfl⟩

theorem State.takeTrigger_sameJournal (s : State) (slot : Fin 3) (v : Word) :
    SameJournal s (s.takeTrigger slot v) := by
  unfold State.takeTrigger
  split
  · exact ⟨rfl, rfl⟩
  · split
    · exact SameJournal.trans (t := s.setDesk slot _) ⟨rfl, rfl⟩ (State.enqueue_sameJournal _ _)
    · exact ⟨rfl, rfl⟩

theorem State.takeBayTrigger_sameJournal (s : State) (b : Fin 6) (isDone : Bool) (sh : BayShadow)
    (rs : List Request) : SameJournal s (s.takeBayTrigger b isDone sh rs) := by
  unfold State.takeBayTrigger
  split
  · exact .of_engine (by simp)
  · unfold State.takeRequest
    split
    · exact .of_engine (by simp)
    · split
      · exact .of_engine (by simp)
      · split
        · exact SameJournal.trans (.of_engine (by simp)) (State.enqueue_sameJournal _ _)
        · exact .of_engine (by simp)

theorem State.takeHeld_sameJournal (s : State) (b : Fin 6) : SameJournal s (s.takeHeld b) := by
  unfold State.takeHeld
  dsimp only
  split
  · exact ⟨rfl, rfl⟩
  · split
    · exact ⟨rfl, rfl⟩
    · exact (SameJournal.trans (.of_engine (by simp)) (State.takeBayTrigger_sameJournal _ b _ _ _)).trans
        (.of_engine (State.answer_engine _ _ _))

/-! ## Accesses -/

theorem State.setCopy_sameJournal (s : State) (c : ConfigWord) (v : Word) :
    SameJournal s (s.setCopy c v) := by
  cases c with
  | stepMode => exact s.setStepMode_sameJournal _
  | declareMode => exact .of_engine (by simp [State.setCopy])
  | _ => exact ⟨rfl, rfl⟩

theorem State.blockEffect_journalBound (h : JournalBound s) (w : SpecialWord) (v : Word)
    (takes : s.takesValue w v = true) (redo : w = .command → v = 3 → ¬ s.engine.AwaitsRedo) :
    JournalBound (s.blockEffect w v) := by
  cases w with
  | command => exact State.takeCommand_journalBound h v (redo rfl)
  | tail => exact (State.setTail_nearer takes).bound h
  | config c => exact (s.setCopy_sameJournal c v).bound h
  | commit n => exact (s.takeCommit_sameJournal n).bound h
  | trigger slot => exact (s.takeTrigger_sameJournal slot v).bound h
  | hallMode => exact h
  | _ => exact (SameJournal.of_engine (by simp [State.blockEffect, State.clearNotices,
      State.clearIndications, State.clockDateWrite, State.clockTimeWrite])).bound h

theorem State.deliverBay_sameJournal (s : State) (port : PortId) (b : Fin 6) (isDone : Bool) (v : Word)
    (rs : List Request) : SameJournal s (s.deliverBay port b isDone v rs) := by
  unfold State.deliverBay
  dsimp only
  split
  · exact .of_engine (by simp)
  · exact s.takeBayTrigger_sameJournal b isDone _ rs

theorem State.effect_journalBound (h : JournalBound s) (port : PortId) (w : SpecialWord) (v : Word)
    (rs : List Request) (takes : s.takesValue w v = true)
    (redo : w = .command → v = 3 → ¬ s.engine.AwaitsRedo) : JournalBound (s.effect port w v rs) := by
  cases w with
  | quayRestart => exact (SameJournal.of_engine (by simp [State.effect])).bound h
  | request b => exact (s.deliverBay_sameJournal port b false v rs).bound h
  | done b => exact (s.deliverBay_sameJournal port b true v rs).bound h
  | _ =>
    exact (SameJournal.of_engine (State.serve_engine _ _)).bound
      (State.blockEffect_journalBound h _ v takes redo)

theorem State.dropSnapshot_takesValue (s : State) (p : PortId) (w : SpecialWord) (v : Word) :
    (s.dropSnapshot p).takesValue w v = s.takesValue w v := by
  cases p <;> cases w <;> rfl

theorem State.writeSpecial_journalBound (h : JournalBound s) (p : PortId) (book : Fin 7) (a : Access)
    (v : Word) (takes : s.takesValue (specialWordAt book a.offset) v = true)
    (redo : specialWordAt book a.offset = .command → v = 3 → ¬ s.engine.AwaitsRedo) :
    JournalBound (s.writeSpecial p book a v) := by
  have dropped : JournalBound (s.dropSnapshot p) := (SameJournal.of_engine (by simp)).bound h
  have taken := State.effect_journalBound dropped p (specialWordAt book a.offset) v
    (s.wordRequest p book a v) (by rw [State.dropSnapshot_takesValue]; exact takes)
    (by rw [State.dropSnapshot_engine]; exact redo)
  unfold State.writeSpecial
  dsimp only
  split
  · exact taken
  · exact (SameJournal.of_engine (State.answer_engine _ _ _)).bound taken

/-- COMMAND is the word at offset 4 of the CONTROL book, and no other. -/
theorem specialWordAt_command {book : Fin 7} {off : Nat} (h : specialWordAt book off = .command) :
    book = 0 ∧ off / 4 = 1 := by
  unfold specialWordAt at h
  dsimp only at h
  split at h
  · next zero =>
    refine ⟨Fin.ext zero, ?_⟩
    unfold controlWordAt at h
    split at h <;> first
      | omega
      | (repeat' split at h) <;> cases h
  · unfold quaysideWordAt scaleWordAt readerWordAt bayWordAt at h
    dsimp only at h
    (repeat' split at h) <;> cases h
  · unfold deskWordAt at h
    dsimp only at h
    (repeat' split at h) <;> cases h
  · cases h

/-- The access that repeats a struck redo: the word 3 written to COMMAND (R22, R50). -/
def resumeAccess : Access := ⟨portAddr 0 4, .word, some 3⟩

/-- A port address is its book and its offset (R52). -/
theorem portAddr_of_parts (a : BitVec 24) : portAddr (addrBook a).toNat (addrOffset a) = a := by
  simp only [portAddr, addrBook, addrOffset, BitVec.ofNat_toNat, BitVec.setWidth_eq]
  exact BitVec.extractLsb'_append_extractLsb'_eq_extractLsb' rfl |>.trans (by simp)

/-- A write that passes its checks at COMMAND is a whole word at the port address of COMMAND. -/
theorem command_access {d : Side} {book : Fin 7} {a : Access} {v : Word} (write : a.write = some v)
    (at_ : (addrBook a.addr).toNat = book.val) (passed : firstFail (s.specialChecks d book a) = none)
    (word : specialWordAt book a.offset = .command) : a = ⟨portAddr 0 4, .word, some v⟩ := by
  obtain ⟨rfl, four⟩ := specialWordAt_command word
  have all := firstFail_eq_none.mp passed
  have whole : a.size = .word := by
    have := all (!(a.isWrite && wholeWords 0 && decide (a.size ≠ .word)), .partialWrite)
      (List.mem_append_left _ (.tail _ (.tail _ (.tail _ (.head _)))))
    simpa [Access.isWrite, write, wholeWords] using this
  have aligned : a.offset % 4 = 0 := by
    have := all (a.aligned, .misaligned) (List.mem_append_left _ (.tail _ (.tail _ (.head _))))
    simpa [Access.aligned, whole, sizeBytes] using this
  have offset : addrOffset a.addr = 4 := by
    have : a.offset = 4 := by omega
    exact this
  have addr : a.addr = portAddr 0 4 := by rw [← portAddr_of_parts a.addr, at_, offset]; rfl
  rw [← addr, ← whole, ← write]

theorem State.checkAccess_journalBound (h : JournalBound s) (p : PortId) (a : Access)
    (redo : a = resumeAccess → ¬ s.engine.AwaitsRedo) : JournalBound (s.checkAccess p a) := by
  have free : JournalBound (s.setWait p .free) := (SameJournal.of_engine (by simp)).bound h
  unfold State.checkAccess
  dsimp only
  split
  · unfold State.checkSpecial
    split
    · exact (SameJournal.of_engine (by simp)).bound free
    · next passed =>
      split
      · exact (SameJournal.of_engine (by simp)).bound free
      · next v write =>
        refine State.writeSpecial_journalBound free p _ a v (State.takesValue_of_passed write passed) ?_
        intro word three
        rw [State.setWait_engine]
        exact redo (by rw [command_access write rfl passed word, three]; rfl)
  · exact (SameJournal.of_engine (by simp)).bound free

theorem State.arrive_journalBound (h : JournalBound s) (p : PortId) (a : Access)
    (redo : a = resumeAccess → ¬ s.engine.AwaitsRedo) : JournalBound (s.arrive p a) := by
  unfold State.arrive
  split
  · split
    · exact h
    · exact (SameJournal.of_engine (by simp)).bound h
    · exact (SameJournal.of_engine (by simp)).bound h
    · exact State.checkAccess_journalBound h p a redo
  · exact h

/-! ## Power, reset and runs with tail writes -/

/-- Main power that arrives starts the part (R174). -/
theorem State.powerOn_part (s : State) :
    s.powerOn.part = if s.part = .unpowered then .starting else s.part := by
  unfold State.powerOn State.backupCheck
  split
  · split <;> rfl
  · rfl

theorem State.dropVolatile_journalBound (s : State) (part : PartState) :
    JournalBound (s.dropVolatile part) := by
  show (Engine.reset.copy.head - Engine.reset.tail).toNat ≤ 256
  decide

/-- A reset whose start-up has not ended, or that is not taken, keeps the bound (log 2). -/
theorem State.resetLine_journalBound (h : JournalBound s) {event : ResetEvent}
    (short : (event.ends && s.cutTaken event.cut) = false) : JournalBound (s.resetLine event) := by
  unfold State.resetLine
  split
  · next taken =>
    have ends : event.ends = false := by simpa [taken] using short
    rw [ends]
    exact State.dropVolatile_journalBound _ _
  · exact h

theorem State.commandWithin_journalBound (h : JournalBound s) (p : PortId) {command : State → State}
    (keeps : ∀ u, JournalBound u → u.engine = s.engine → JournalBound (command u)) :
    JournalBound (s.commandWithin p command) := by
  have answered : ((s.dropSnapshot p).answer p .done).engine = s.engine := by simp
  unfold State.commandWithin
  split
  · exact keeps _ ((SameJournal.of_engine answered).bound h) answered
  · exact h

theorem State.runWithin_journalBound (h : JournalBound s) (work : RunWork) {between : Between}
    (near : between.Nearer) (starts : work = .startUp → s.powerOn.part ≠ .starting)
    (redo : ∀ p, work = .engineResume p → ¬ s.engine.AwaitsRedo) :
    JournalBound (s.runWithin work between) := by
  cases work with
  | inHand =>
    unfold State.runWithin
    exact State.postingWithin_journalBound h near
  | engineFormat p =>
    unfold State.runWithin
    exact State.commandWithin_journalBound h p fun _ hu _ => State.formatCommand_journalBound hu near
  | engineResume p =>
    unfold State.runWithin
    refine State.commandWithin_journalBound h p fun _ hu same => State.resumeCommand_journalBound hu ?_ near
    rw [same]
    exact redo p rfl
  | journalRelease =>
    unfold State.runWithin
    dsimp only
    split
    · exact State.journalRelease_journalBound h near
    · exact h
  | startUp =>
    unfold State.runWithin
    rw [if_neg (starts rfl)]
    exact h

/-! ## Steps -/

/-- Port addresses of different words are different (R52). -/
theorem portAddr_inj {b c off off' : Nat} (hb : b < 64) (ho : off < 262144) (hc : c < 64)
    (ho' : off' < 262144) (e : portAddr b off = portAddr c off') : b = c ∧ off = off' := by
  have books : (addrBook (portAddr b off)).toNat = (addrBook (portAddr c off')).toNat := by rw [e]
  have offsets : addrOffset (portAddr b off) = addrOffset (portAddr c off') := by rw [e]
  rw [addrBook_portAddr _ _ hb, addrBook_portAddr _ _ hc] at books
  rw [addrOffset_portAddr _ _ ho, addrOffset_portAddr _ _ ho'] at offsets
  exact ⟨books, offsets⟩

/-- A word write of any other word than COMMAND keeps the bound. -/
theorem State.writeWord_journalBound (h : JournalBound s) (p : PortId) {b off : Nat} (v : Word)
    (hb : b < 64) (ho : off < 262144) (other : b ≠ 0 ∨ off ≠ 4) :
    JournalBound (s.writeWord p (portAddr b off) v) := by
  unfold State.writeWord
  refine State.arrive_journalBound h p _ fun e => ?_
  obtain ⟨zero, four⟩ := portAddr_inj hb ho (by decide) (by decide) (congrArg Access.addr e)
  omega

/-- A word write of COMMAND keeps the bound, but for the repeat of a struck redo. -/
theorem State.writeCommand_journalBound (h : JournalBound s) (p : PortId) (v : Word)
    (redo : v = 3 → ¬ s.engine.AwaitsRedo) : JournalBound (s.writeWord p (portAddr 0 4) v) := by
  unfold State.writeWord
  refine State.arrive_journalBound h p _ fun e => redo ?_
  simpa [resumeAccess] using e

theorem State.readWord_journalBound (h : JournalBound s) (p : PortId) (addr : BitVec 24) :
    JournalBound (s.readWord p addr) := by
  unfold State.readWord
  exact State.arrive_journalBound h p _ fun e => by cases e

theorem paramPlace_book (p : ParamWord) : (paramPlace p).1 = 5 ∨ (paramPlace p).1 = 6 := by
  cases p <;> simp [paramPlace]

theorem paramPlace_offset (p : ParamWord) : (paramPlace p).2 < 262144 := by
  cases p <;> simp only [paramPlace] <;> omega

theorem ConfigWord.offset_ne_command (c : ConfigWord) : c.offset ≠ 4 := by
  cases c <;> simp only [ConfigWord.offset] <;> omega

theorem State.writeConfig_journalBound (h : JournalBound s) (p : PortId) (c : ConfigWord) (v : Word) :
    JournalBound (s.writeWord p c.addr v) :=
  State.writeWord_journalBound h p v (by decide) (by have := c.offset_lt; omega) (.inr c.offset_ne_command)

/-- An ENGINE_RESUME that repeats no redo finds none struck. -/
theorem State.not_awaitsRedo_of_resume {p : PortId} {rest : List Instr}
    (h : State.repeatsRedo { s with pending := .engineResume p :: rest } = false) :
    ¬ s.engine.AwaitsRedo := by
  rintro ⟨halted, cause⟩
  simp [State.repeatsRedo, halted, cause] at h

theorem State.not_awaitsRedo_of_portWrite {p : PortId} {rest : List Instr}
    (h : State.repeatsRedo { s with pending := .portWrite p (portAddr 0 4) .word 3 :: rest } = false) :
    ¬ s.engine.AwaitsRedo := by
  rintro ⟨halted, cause⟩
  simp [State.repeatsRedo, halted, cause] at h

theorem State.not_awaitsRedo_of_tailWrite {p q : PortId} {w : Word} {run : EngineRun} {rest : List Instr}
    (work : run.work = .engineResume q)
    (h : State.repeatsRedo { s with pending := .tailWrite p ⟨w, some run⟩ :: rest } = false) :
    ¬ s.engine.AwaitsRedo := by
  rintro ⟨halted, cause⟩
  simp [State.repeatsRedo, halted, cause, work] at h

/-- Every command but a start-up and a repeated redo keeps the bound. -/
theorem exec_journalBound {t : State} (h : JournalBound s) (i : Instr) (rest : List Instr)
    (starts : State.startsUp { s with pending := i :: rest } = false)
    (repeats : State.repeatsRedo { s with pending := i :: rest } = false) (e : exec i s = .next t) :
    JournalBound t := by
  cases i
  case powerUp =>
    cases e
    have powered : s.part ≠ .unpowered := by simpa [State.startsUp] using starts
    unfold State.powerUp
    rw [if_neg powered]
    exact h
  case reset event => cases e; exact State.resetLine_journalBound h starts
  case mainPowerOff cut =>
    cases e
    unfold State.powerOff
    split
    · exact State.dropVolatile_journalBound _ _
    · exact h
  case secondTick => cases e; exact (SameJournal.of_engine (by simp)).bound h
  case stallTimeout b =>
    cases e
    refine (SameJournal.of_engine ?_).bound h
    unfold State.stallTick
    split <;> simp
  case crystalStop count =>
    cases e
    refine (SameJournal.of_engine ?_).bound h
    unfold State.stopCrystal
    split <;> simp
  case crystalRunsAgain =>
    cases e
    refine (SameJournal.of_engine ?_).bound h
    unfold State.startCrystal
    split <;> rfl
  case backupSupplyLost =>
    cases e
    refine (SameJournal.of_engine ?_).bound h
    unfold State.loseBackup
    split <;> rfl
  case descriptorFetchDone book => cases e; exact (SameJournal.of_engine (by simp)).bound h
  case guardedReadResume p => cases e; exact (SameJournal.of_engine (by simp)).bound h
  case tailWrite p event =>
    cases e
    obtain ⟨word, within⟩ := event
    cases within with
    | none => exact (s.arriveTail_nearer (p, word)).bound h
    | some run =>
      refine State.runWithin_journalBound h run.work (tailsBetween_nearer _) ?_ ?_
      · intro work
        rw [State.startsUp] at starts
        simpa [work, State.powerOn_part] using starts
      · exact fun q work => State.not_awaitsRedo_of_tailWrite work repeats
  case journalWaitRelease => cases e; exact State.journalRelease_journalBound h undisturbed_nearer
  case bayHeldTrigger b => cases e; exact (s.takeHeld_sameJournal b).bound h
  case bayRecordWriteBack b =>
    cases e
    refine (SameJournal.of_engine ?_).bound h
    unfold State.writeBackStep
    split <;> simp
  case internalAdmission => cases e; exact s.admitInternal_sameJournal.bound h
  case format => cases e; exact State.formatRow_journalBound h
  case unknownKind => cases e; exact State.unknownRow_journalBound h
  case openAccount | setCredit | freeze | thaw | closeAccount | transfer | land | sell | withdraw | lend |
      returnCrate | registerCrate | retireCrate | writeOff | iceHold | iceSettle | bayRelease | dayClose =>
    cases e; exact State.applyRow_journalBound h _ _
  case portRead p addr size => cases e; exact State.arrive_journalBound h p _ fun e => by cases e
  case latchingRead | clockDateRead | clockTimeRead => cases e; exact State.readWord_journalBound h _ _
  case portWrite p addr size data =>
    cases e
    refine State.arrive_journalBound h p _ fun e => ?_
    obtain ⟨rfl, rfl, rfl⟩ : addr = portAddr 0 4 ∧ size = .word ∧ data = 3 := by
      simpa [resumeAccess] using e
    exact State.not_awaitsRedo_of_portWrite repeats
  case engineResume p =>
    cases e
    exact State.writeCommand_journalBound h p 3 fun _ => State.not_awaitsRedo_of_resume repeats
  case invalidateAll p => cases e; exact State.writeCommand_journalBound h p 1 fun e => absurd e (by decide)
  case step p => cases e; exact State.writeCommand_journalBound h p 2 fun e => absurd e (by decide)
  case engineFormat p => cases e; exact State.writeCommand_journalBound h p 4 fun e => absurd e (by decide)
  case commandZero p => cases e; exact State.writeCommand_journalBound h p 0 fun e => absurd e (by decide)
  case noticeEnableWrite | scheduleWrite | declareModeWrite | stepModeWrite | ownerWrite =>
    cases e; exact State.writeConfig_journalBound h _ _ _
  case slotParameterWrite p param data =>
    cases e
    have book := paramPlace_book param
    exact State.writeWord_journalBound h p data (by omega) (paramPlace_offset param) (.inl (by omega))
  all_goals cases e; exact State.writeWord_journalBound h _ _ (by decide) (by omega) (by omega)

/-- Settles O8: an entry is written only where a slot is free, and a tail write only shortens the distance. -/
theorem stepKeepsJournalBound : Obligations.StepKeepsJournalBound := by
  unfold Obligations.StepKeepsJournalBound
  refine ⟨?_, fun s t h e advances => State.redo_journalBound h e advances⟩
  intro s t h starts repeats e
  unfold step at e
  split at e
  · next none =>
    have idle : s.part ≠ .starting := by simpa [State.startsUp, none] using starts
    unfold idleStep at e
    split at e
    · next starting => exact absurd starting idle
    · cases e; exact h
  · next c cs pending =>
    have same : s = { ({ s with pending := cs } : State) with pending := c :: cs } := by rw [← pending]
    rw [same] at starts repeats
    exact exec_journalBound (s := { s with pending := cs }) h c cs starts repeats e

end Sys2Proof.Machine
end

section
/-! The TAIL rule (R42): a tail write that is taken, and the three ways in which one faults. -/

namespace Sys2Proof.Machine

variable {s : State} {p : PortId}

theorem exec_tailWrite_alone (s : State) (p : PortId) (w : Word) :
    exec (.tailWrite p ⟨w, none⟩) s = .next (s.arriveTail (p, w)) := rfl

theorem State.owns_control (idle : s.idlePort p) (office : s.side p = .office) : s.owns p 0 :=
  ⟨idle, by simp [State.mayWrite, office]⟩

/-- Of the checks of a word, TAIL has that of its value alone (R42, R57). -/
theorem State.tail_checks (s : State) (w : Word) :
    firstFail (s.wordChecks .tail w) = if s.tailAccepted w then none else some .badValue := by
  simp only [State.wordChecks, firstFail, SpecialWord.writable, State.takesValue, SpecialWord.setupOnly,
    SpecialWord.needsHold, State.wordFitted, State.slotFree, State.quietAllows, State.formatAllows]
  cases s.tailAccepted w <;> rfl

/-- A tail write that lies between the old tail and the head is taken: the word in the store, then the tail
copy and the end of JOURNAL_WAIT (R42, R45). -/
theorem State.arriveTail_taken (own : s.owns p 0) {w : Word} (accepted : s.tailAccepted w = true) :
    s.arriveTail (p, w) = (s.wroteWord p 0 0xA0 w).setTail w :=
  State.stored_write_apart (w := .tail) (book := 0) rfl own rfl (by decide) rfl (by decide) rfl rfl
    (by rw [State.tail_checks, accepted]; rfl) (State.setTail_apart w)

theorem State.arriveTail_refused (own : s.owns p 0) {w : Word} (refused : s.tailAccepted w = false) :
    s.arriveTail (p, w) = s.faultAccess p ⟨portAddr 0 0xA0, .word, some w⟩ .badValue :=
  State.write_faults (w := .tail) (book := 0) rfl own rfl (by decide) rfl (by decide)
    (by rw [State.tail_checks, refused]; rfl)

/-- An access to TAIL whose first failing check is known faults with that check's reason (R55). -/
theorem State.tailAccess_faults (idle : s.idlePort p) {size : Size} {w : Word} {r : FaultReason}
    (fails : firstFail (s.specialChecks (s.side p) 0 ⟨portAddr 0 0xA0, size, some w⟩) = some r) :
    s.arrive p ⟨portAddr 0 0xA0, size, some w⟩ =
      s.faultAccess p ⟨portAddr 0 0xA0, size, some w⟩ r := by
  have arrives := State.arrive_special idle 0 0xA0 size (some w)
  rw [State.checkSpecial, show portAddr ((0 : Fin 7) : Nat) 0xA0 = portAddr 0 0xA0 from rfl, fails] at arrives
  exact arrives

theorem tailAccess_offset (size : Size) (w : Option Word) :
    (⟨portAddr 0 0xA0, size, w⟩ : Access).offset = 0xA0 := addrOffset_portAddr 0 0xA0 (by decide)

/-- Settles O18: the checks of R55 at TAIL, in their order, and the effect of the one write that passes. -/
theorem tailWriteRule : Obligations.TailWriteRule := by
  unfold Obligations.TailWriteRule
  intro s p t idle
  refine ⟨fun office between => ?_, fun office beyond => ?_, fun office size part => ?_, fun quay => ?_⟩
  · have accepted : s.tailAccepted t = true := by simpa [State.tailAccepted] using between
    refine ⟨_, exec_tailWrite_alone s p t, ?_⟩
    rw [State.arriveTail_taken (State.owns_control idle office) accepted, State.setTail_eq]
    refine ⟨rfl, by simp, ?_, ?_⟩
    · cases p <;> rfl
    · simp [State.wroteWord, State.controlAddr, Memory.putAll]
  · have refused : s.tailAccepted t = false := by simpa [State.tailAccepted] using beyond
    rw [exec_tailWrite_alone, State.arriveTail_refused (State.owns_control idle office) refused]
  · refine congrArg Host.Outcome.next (State.tailAccess_faults idle ?_)
    have aligned : 160 % sizeBytes size = 0 := by cases size <;> rfl
    have limit : 160 + sizeBytes size ≤ 4096 := by cases size <;> decide
    simp [State.specialChecks, firstFail, tailAccess_offset, bookLimit, limit, office, State.mayWrite,
      Access.isWrite, Access.aligned, aligned, wholeWords, part]
  · refine congrArg Host.Outcome.next (State.tailAccess_faults idle ?_)
    simp [State.specialChecks, firstFail, tailAccess_offset, bookLimit, sizeBytes, quay, State.mayWrite,
      Access.isWrite]

end Sys2Proof.Machine
end

section
/-! After-images as words (R37 to R40): every image list is spelled back by its words, and the check of the
engine record (R205). -/

namespace Sys2Proof.Machine

/-! ## Fields of a packed word -/

/-- A field that lies in the low part of a packed word. -/
theorem field_low {m n : Nat} (x : BitVec m) (y : BitVec n) {lo len : Nat} (h : lo + len ≤ n) :
    (x ++ y).extractLsb' lo len = y.extractLsb' lo len :=
  BitVec.extractLsb'_append_eq_of_add_le h

/-- A field that lies in the high part of a packed word. -/
theorem field_high {m n : Nat} (x : BitVec m) (y : BitVec n) {lo len : Nat} (h : n ≤ lo) :
    (x ++ y).extractLsb' lo len = x.extractLsb' (lo - n) len :=
  BitVec.extractLsb'_append_eq_of_le h

/-! ## Crate numbers in words -/

theorem packCrates_lt (ks : List (BitVec 12)) : packCrates ks < 2 ^ (12 * ks.length) := by
  induction ks with
  | nil => simp [packCrates]
  | cons k ks ih =>
    have low := k.isLt
    have step : 2 ^ (12 * (ks.length + 1)) = 4096 * 2 ^ (12 * ks.length) := by
      rw [Nat.mul_add, Nat.pow_add, Nat.mul_comm]
    simp only [packCrates, List.length_cons]
    omega

theorem unpackCrates_packCrates (ks : List (BitVec 12)) : unpackCrates ks.length (packCrates ks) = ks := by
  induction ks with
  | nil => rfl
  | cons k ks ih =>
    have low : k.toNat < 4096 := k.isLt
    have rest : (k.toNat + 4096 * packCrates ks) / 4096 = packCrates ks := by omega
    have first : BitVec.ofNat 12 (k.toNat + 4096 * packCrates ks) = k := by
      apply BitVec.eq_of_toNat_eq
      rw [BitVec.toNat_ofNat]
      omega
    simp only [List.length_cons, unpackCrates, packCrates, rest, first, ih]

theorem natWords_length (n v : Nat) : (natWords n v).length = n := by
  induction n generalizing v with
  | zero => rfl
  | succ n ih => simp [natWords, ih]

theorem wordsNat_natWords (n v : Nat) (h : v < 2 ^ (32 * n)) : wordsNat (natWords n v) = v := by
  induction n generalizing v with
  | zero => simp [natWords, wordsNat] at h ⊢; omega
  | succ n ih =>
    have rest : v / 4294967296 < 2 ^ (32 * n) := by
      rw [Nat.mul_add, Nat.pow_add] at h
      exact Nat.div_lt_of_lt_mul (by rw [Nat.mul_comm]; exact h)
    rw [natWords, wordsNat, ih _ rest, BitVec.toNat_ofNat]
    omega

/-- The words of a crate group hold all its crate numbers (R39). -/
theorem unpackCrates_natWords (ks : List (BitVec 12)) :
    unpackCrates ks.length (wordsNat (natWords ((12 * ks.length + 31) / 32) (packCrates ks))) = ks := by
  rw [wordsNat_natWords, unpackCrates_packCrates]
  exact Nat.lt_of_lt_of_le (packCrates_lt ks) (Nat.pow_le_pow_right (by decide) (by omega))

/-! ## One image -/

/-- The header word of an image. -/
def Image.header (i : Image) : Word := i.info ++ BitVec.ofNat 8 (i.body.length + 1) ++ i.type

theorem Image.words_eq (i : Image) : i.words = i.header :: i.body := rfl

theorem Image.header_type (i : Image) : field i.header 0 8 = i.type := by
  rw [field, Image.header, field_low _ _ (by decide), BitVec.extractLsb'_eq_self]

theorem Image.header_length (i : Image) : field i.header 8 8 = BitVec.ofNat 8 (i.body.length + 1) := by
  rw [field, Image.header, field_high _ _ (by decide), field_low _ _ (by decide), BitVec.extractLsb'_eq_self]

/-- Header bits 31-16 are the image's own. -/
theorem Image.header_info (i : Image) (lo len : Nat) :
    field i.header (16 + lo) len = i.info.extractLsb' lo len := by
  rw [field, Image.header, field_high _ _ (by omega), field_high _ _ (by omega)]
  congr 1
  omega

theorem Image.header_bit (i : Image) (k : Nat) : i.header.getLsbD (16 + k) = i.info.getLsbD k := by
  rw [Image.header, BitVec.getLsbD_append, if_neg (by omega), BitVec.getLsbD_append, if_neg (by omega)]
  congr 1
  omega

theorem maskCount_le (mask : BitVec 16) : maskCount mask ≤ 16 := by
  have := List.countP_le_length (p := fun i => mask.getLsbD i) (l := List.range 16)
  simpa [maskCount] using this

theorem Image.body_length_lt {i : Image} (h : i.wellFormed = true) : i.body.length < 255 := by
  cases i with
  | lot slot mask ws =>
    have count := maskCount_le mask
    have len : ws.length = maskCount mask := by simpa [Image.wellFormed] using h
    simp only [Image.body, List.length_cons]
    omega
  | crates ks state holder deposit identity =>
    have len : 1 ≤ ks.length ∧ ks.length ≤ 16 := by simpa [Image.wellFormed] using h
    have id : (identity.map identityWord).toList.length ≤ 1 := by cases identity <;> simp
    simp only [Image.body, List.length_cons, List.length_append, natWords_length]
    omega
  | account n f => simp [Image.body]
  | bay n r => simp [Image.body, BayRecord.words]
  | engine d h n y => simp [Image.body]

theorem bayOfWords_words (r : BayRecord) : bayOfWords r.words = r := by
  have state : field r.headWord 0 3 = r.state := by
    rw [field, BayRecord.headWord, field_low _ _ (by decide), BitVec.extractLsb'_eq_self]
  have unsure : r.headWord.getLsbD 8 = r.unsure := by
    rw [BayRecord.headWord, BitVec.getLsbD_append, if_neg (by decide), BitVec.getLsbD_append,
      if_neg (by decide), BitVec.getLsbD_append, if_pos (by decide)]
    simp [flagBit]
  cases r
  simp_all [bayOfWords, BayRecord.words]

/-- An account image is spelled back by its words (R38). -/
theorem readImage_account (n : BitVec 8) (f : AccountImage) :
    readImage (Image.account n f).header (Image.account n f).body = some (.account n f) := by
  have type : (field (Image.account n f).header 0 8).toNat = 1 := by rw [Image.header_type]; rfl
  have number : field (Image.account n f).header 16 8 = n := by
    rw [Image.header_info _ 0, Image.info, field_low _ _ (by decide), BitVec.extractLsb'_eq_self]
  have kind : field (Image.account n f).header 24 3 = f.kind := by
    rw [Image.header_info _ 8, Image.info, field_high _ _ (by decide), field_low _ _ (by decide),
      BitVec.extractLsb'_eq_self]
  have state : field (Image.account n f).header 28 2 = f.state := by
    rw [Image.header_info _ 12, Image.info, field_high _ _ (by decide), field_high _ _ (by decide),
      field_high _ _ (by decide), field_low _ _ (by decide), BitVec.extractLsb'_eq_self]
  have crates : field (0#4 ++ f.floor ++ 0#3 ++ f.crates) 0 13 = f.crates := by
    rw [field, field_low _ _ (by decide), BitVec.extractLsb'_eq_self]
  have floor : field (0#4 ++ f.floor ++ 0#3 ++ f.crates) 16 12 = f.floor := by
    rw [field, field_high _ _ (by decide), field_high _ _ (by decide), field_low _ _ (by decide),
      BitVec.extractLsb'_eq_self]
  simp only [readImage, type, number, kind, state, Image.body, List.getD_cons_zero, List.getD_cons_succ,
    crates, floor]

/-- A lot image is spelled back by its words (R39). -/
theorem readImage_lot (slot : BitVec 11) (mask : BitVec 16) (ws : List Word) :
    readImage (Image.lot slot mask ws).header (Image.lot slot mask ws).body = some (.lot slot mask ws) := by
  have type : (field (Image.lot slot mask ws).header 0 8).toNat = 2 := by rw [Image.header_type]; rfl
  have number : field (Image.lot slot mask ws).header 16 11 = slot := by
    rw [Image.header_info _ 0, Image.info, field_low _ _ (by decide), BitVec.extractLsb'_eq_self]
  have words : field (0#16 ++ mask) 0 16 = mask := by
    rw [field, field_low _ _ (by decide), BitVec.extractLsb'_eq_self]
  simp only [readImage, type, number, Image.body, List.getD_cons_zero, words, List.tail_cons]

/-- A crate group is spelled back by its words (R39). -/
theorem readImage_crates {ks : List (BitVec 12)} (few : ks.length ≤ 16) (state : BitVec 3)
    (holder : BitVec 8) (deposit : Option (BitVec 16)) (identity : Option (BitVec 24)) :
    readImage (Image.crates ks state holder deposit identity).header
      (Image.crates ks state holder deposit identity).body =
      some (.crates ks state holder deposit identity) := by
  generalize image : Image.crates ks state holder deposit identity = i
  have type : (field i.header 0 8).toNat = 3 := by rw [Image.header_type, ← image]; rfl
  have count : (field i.header 16 5).toNat = ks.length := by
    rw [Image.header_info _ 0, ← image, Image.info, field_low _ _ (by decide), BitVec.extractLsb'_eq_self,
      BitVec.toNat_ofNat]
    omega
  have stateField : field i.header 24 3 = state := by
    rw [Image.header_info _ 8, ← image, Image.info, field_high _ _ (by decide), field_high _ _ (by decide),
      field_low _ _ (by decide), BitVec.extractLsb'_eq_self]
  have keeps : i.header.getLsbD 28 = deposit.isNone := by
    rw [Image.header_bit _ 12, ← image, Image.info]
    simp only [BitVec.getLsbD_append]
    simp [flagBit]
  have identified : i.header.getLsbD 29 = identity.isSome := by
    rw [Image.header_bit _ 13, ← image, Image.info]
    simp only [BitVec.getLsbD_append]
    simp [flagBit]
  have holderField : field (holder ++ 0#8 ++ deposit.getD 0) 24 8 = holder := by
    rw [field, field_high _ _ (by decide), field_high _ _ (by decide), BitVec.extractLsb'_eq_self]
  have depositField : field (holder ++ 0#8 ++ deposit.getD 0) 0 16 = deposit.getD 0 := by
    rw [field, field_low _ _ (by decide), BitVec.extractLsb'_eq_self]
  have identityField (id : BitVec 24) : field (identityWord id) 0 24 = id := by
    rw [field, identityWord, field_low _ _ (by decide), BitVec.extractLsb'_eq_self]
  have numbers := unpackCrates_natWords ks
  have body : i.body = (holder ++ 0#8 ++ deposit.getD 0) :: ((identity.map identityWord).toList ++
      natWords ((12 * ks.length + 31) / 32) (packCrates ks)) := by rw [← image]; rfl
  simp only [readImage, type, count, stateField, keeps, identified, body, List.getD_cons_zero, holderField,
    depositField]
  cases identity <;> cases deposit <;> simp [numbers, identityField, image]

theorem readImage_bay (n : BitVec 8) (r : BayRecord) :
    readImage (Image.bay n r).header (Image.bay n r).body = some (.bay n r) := by
  have type : (field (Image.bay n r).header 0 8).toNat = 4 := by rw [Image.header_type]; rfl
  have number : field (Image.bay n r).header 16 8 = n := by
    rw [Image.header_info _ 0, Image.info, field_low _ _ (by decide), BitVec.extractLsb'_eq_self]
  simp only [readImage, type, number, Image.body, bayOfWords_words]

theorem readImage_engine (dayState : Byte) (head nextLot day : Word) :
    readImage (Image.engine dayState head nextLot day).header
      (Image.engine dayState head nextLot day).body = some (.engine dayState head nextLot day) := by
  have type : (field (Image.engine dayState head nextLot day).header 0 8).toNat = 5 := by
    rw [Image.header_type]; rfl
  have state : field (Image.engine dayState head nextLot day).header 16 8 = dayState := by
    rw [Image.header_info _ 0, Image.info, field_low _ _ (by decide), BitVec.extractLsb'_eq_self]
  simp only [readImage, type, state, Image.body, List.getD_cons_zero, List.getD_cons_succ]

/-- A well-formed image is spelled back by its header and its body. -/
theorem readImage_header {i : Image} (h : i.wellFormed = true) : readImage i.header i.body = some i := by
  cases i with
  | account n f => exact readImage_account n f
  | lot slot mask ws => exact readImage_lot slot mask ws
  | crates ks state holder deposit identity =>
    have few : 1 ≤ ks.length ∧ ks.length ≤ 16 := by simpa [Image.wellFormed] using h
    exact readImage_crates few.2 state holder deposit identity
  | bay n r => exact readImage_bay n r
  | engine dayState head nextLot day => exact readImage_engine dayState head nextLot day

/-! ## Lists of images -/

/-- The header's count tells where the next image begins. -/
theorem readImages_imageWords (is : List Image) (rest : List Word) (h : ∀ i ∈ is, i.wellFormed = true) :
    readImages is.length (imageWords is ++ rest) = is := by
  induction is with
  | nil => rfl
  | cons i is ih =>
    have wf := h i (by simp)
    have length : (field i.header 8 8).toNat - 1 = i.body.length := by
      have short := Image.body_length_lt wf
      rw [Image.header_length, BitVec.toNat_ofNat]
      omega
    rw [imageWords, Image.words_eq, List.length_cons, List.cons_append, List.cons_append, readImages]
    simp only [length, List.append_assoc, List.take_left, List.drop_left, readImage_header wf]
    rw [ih fun j hj => h j (by simp [hj])]

theorem EngineRecord.stateWord_check (r : EngineRecord) :
    field r.stateWord 16 16 = field r.stateWord 0 16 ^^^ 0xA55A#16 := by
  rw [field, field, EngineRecord.stateWord, field_high _ _ (by decide), field_low _ _ (by decide),
    BitVec.extractLsb'_eq_self, BitVec.extractLsb'_eq_self, engineCheck]

/-- Settles O9: image by image, by the header's type, count and fields. -/
theorem imageWordsReadBack : Obligations.ImageWordsReadBack := by
  unfold Obligations.ImageWordsReadBack
  exact ⟨readImages_imageWords,
    fun r => ⟨r.stateWord_dayState, r.stateWord_formatState, r.stateWord_check⟩⟩

end Sys2Proof.Machine
end

section
/-! Start-up redo (R49, R50): the entry at the head that redo reads, and what it leaves of the store, the
engine's copy and the bays' copies. -/

namespace Sys2Proof.Machine

variable {s : State}

/-! ## The four ways redo goes -/

/-- The images of the entry at the head. -/
def State.headImages (s : State) : List Image :=
  entryImages s.store (s.entryAddr (entrySlot s.engine.copy.head))

/-- The state byte of the entry at the head. -/
def State.headState (s : State) : Byte :=
  field (s.store.word (s.entryAddr (entrySlot s.engine.copy.head))) 0 8

/-- Redo of a PENDING entry, up to its engine record image (R49). -/
def State.redoRecords (s : State) : State :=
  (((s.granted (.inner .engine)).writeImages s.engine.copy.head s.headImages).copyBayImages
    s.headImages).closeEntry s.engine.copy.head

/-- What redo comes to, by the parity, the sequence number and the state of the entry at the head. -/
theorem State.redo_eq (s : State) :
    s.redo =
      if s.store.failing (s.entryAddr (entrySlot s.engine.copy.head)) 256 = true then none
      else if s.store.word (s.entryAddr (entrySlot s.engine.copy.head) + 4) ≠ s.engine.copy.head then
        some (s.granted (.inner .engine))
      else if s.headState = 1 then some (s.redoRecords.redoEngineImage s.headImages)
      else if s.headState = 2 then some ((s.granted (.inner .engine)).redoEngineImage s.headImages)
      else some (s.granted (.inner .engine)) := by
  unfold State.redo
  simp only [bne_iff_ne, beq_iff_eq]
  rfl

/-! ## The engine record image -/

/-- A search that passes over all but the last member finds what the last one gives. -/
theorem findSome?_last {α β : Type} {f : α → Option β} {xs : List α} {x : α}
    (none : ∀ y ∈ xs, f y = Option.none) : (xs ++ [x]).findSome? f = f x := by
  rw [List.findSome?_append, List.findSome?_eq_none_iff.mpr none, Option.none_or]
  simp

/-- The engine record image that ends an image list is the one that redo writes (R49). -/
theorem State.redoEngineImage_last (u : State) {images : List Image} (d : Byte) (h n y : Word)
    (records : ∀ i ∈ images, RecordId.engine ∉ i.targets) :
    u.redoEngineImage (images ++ [.engine d h n y]) =
      (u.setEngineRecord (u.engine.copy.withImage d h n y)).raiseIf (h != u.engine.copy.head) .journal := by
  unfold State.redoEngineImage
  rw [findSome?_last]
  intro i mem
  cases i with
  | engine d' h' n' y' => exact absurd (List.mem_singleton.mpr rfl) (records _ mem)
  | _ => rfl

/-! ## The bays' copies -/

theorem State.copyBayImage_bayFitted (u : State) (n : BitVec 8) (r : BayRecord) (b : Fin 6) :
    (u.copyBayImage n r).bayFitted b = u.bayFitted b := by
  unfold State.copyBayImage
  split
  · split
    · next m _ =>
      have same : ((u.setBayCopy ⟨n.toNat, m⟩ r).bay b).outOfService = (u.bay b).outOfService := by
        rw [State.setBayCopy_bay]
        split
        · next e => rw [e]
        · rfl
      simp only [State.bayFitted, same, (u.setBayCopy_shell _ _).profile]
    · rfl
  · rfl

/-- A bay image goes to the copy of its own bay, when that is fitted (R49, R148, log 42). -/
theorem State.copyBayImage_bay (u : State) (n : BitVec 8) (r : BayRecord) (b : Fin 6) :
    (u.copyBayImage n r).bay b =
      if n.toNat = b.val ∧ u.bayFitted b = true then { u.bay b with copy := r } else u.bay b := by
  unfold State.copyBayImage
  split
  · next m =>
    by_cases e : b = ⟨n.toNat, m⟩
    · subst e
      split <;> simp_all
    · have ne : n.toNat ≠ b.val := fun h => e (Fin.ext h.symm)
      split
      · rw [State.setBayCopy_bay, if_neg e, if_neg (fun h => ne h.1)]
      · rw [if_neg (fun h => ne h.1)]
  · next far =>
    have ne : n.toNat ≠ b.val := by have := b.isLt; omega
    rw [if_neg (fun h => ne h.1)]

/-- Images of other records leave a bay's copy (R49). -/
theorem State.copyBayImages_other (u : State) {is : List Image} {b : Fin 6}
    (others : ∀ i ∈ is, RecordId.bay b.val ∉ i.targets) : (u.copyBayImages is).bay b = u.bay b := by
  induction is generalizing u with
  | nil => rfl
  | cons i is ih =>
    have rest : ∀ j ∈ is, RecordId.bay b.val ∉ j.targets := fun j hj => others j (by simp [hj])
    cases i with
    | bay n r =>
      have ne : n.toNat ≠ b.val := fun e => others (.bay n r) (by simp) (by simp [Image.targets, e])
      rw [State.copyBayImages, ih _ rest, State.copyBayImage_bay, if_neg (fun h => ne h.1)]
    | _ => exact ih u rest

/-- The one bay image of a fitted bay stands in its copy (R49). -/
theorem State.copyBayImages_copy (u : State) {is : List Image}
    (apart : is.Pairwise fun i j => ∀ x ∈ i.targets, x ∉ j.targets) {b : Fin 6} {c : BayRecord}
    (fitted : u.bayFitted b = true) (mem : Image.bay (BitVec.ofNat 8 b.val) c ∈ is) :
    ((u.copyBayImages is).bay b).copy = c := by
  have number : (BitVec.ofNat 8 b.val).toNat = b.val := by
    rw [BitVec.toNat_ofNat]
    have := b.isLt
    omega
  induction is generalizing u with
  | nil => cases mem
  | cons i is ih =>
    obtain ⟨first, rest⟩ := List.pairwise_cons.mp apart
    rcases List.mem_cons.mp mem with rfl | later
    · have others : ∀ j ∈ is, RecordId.bay b.val ∉ j.targets := fun j hj =>
        first j hj _ (by rw [Image.targets, number]; exact List.mem_singleton.mpr rfl)
      rw [State.copyBayImages, State.copyBayImages_other _ others, State.copyBayImage_bay,
        if_pos ⟨number, fitted⟩]
    · cases i with
      | bay n r =>
        exact ih _ rest (by rw [State.copyBayImage_bayFitted]; exact fitted) later
      | _ => exact ih u rest fitted later

theorem State.copyBayImages_store (u : State) (is : List Image) :
    (u.copyBayImages is).store = u.store := by
  induction is generalizing u with
  | nil => rfl
  | cons i is ih =>
    cases i with
    | bay n r =>
      rw [State.copyBayImages, ih]
      unfold State.copyBayImage
      split
      · split
        · exact u.setBayCopy_store _ _
        · rfl
      · rfl
    | _ => exact ih u

theorem State.writeImages_ice (u : State) (seq : Word) (is : List Image) :
    (u.writeImages seq is).ice = u.ice := (u.writeImages_stations seq is).ice

/-! ## The store that redo leaves -/

/-- The words of a PENDING entry's images and of its state DONE (R47, R49). -/
def State.redoWrites (s : State) (is : List Image) : List (Nat × Word) :=
  is.flatMap (Image.writes s s.engine.copy.head) ++
    [(s.entryAddr (entrySlot s.engine.copy.head), entryDone)]

/-- The engine record image writes no record of its own. -/
theorem State.redoWrites_last (s : State) (images : List Image) (d : Byte) (h n y : Word) :
    s.redoWrites (images ++ [.engine d h n y]) = s.redoWrites images := by
  simp [State.redoWrites, Image.writes]

theorem State.redoRecords_store (s : State) :
    s.redoRecords.store = s.store.putAll (s.redoWrites s.headImages) := by
  have shell := ((s.granted_shell (.inner .engine)).trans
    (State.writeImages_shell _ s.engine.copy.head s.headImages)).trans
    (State.copyBayImages_shell _ s.headImages)
  rw [State.redoRecords, State.closeEntry, State.write_store, State.copyBayImages_store,
    State.writeImages_store (s.granted_shell (.inner .engine)), State.entryAddr_shell shell,
    State.redoWrites, Memory.putAll_append]
  rfl

theorem State.redoRecords_engine (s : State) : s.redoRecords.engine = s.engine := by
  simp [State.redoRecords]

theorem State.redoRecords_shell (s : State) : SameShell s s.redoRecords :=
  (((s.granted_shell _).trans (State.writeImages_shell _ _ _)).trans
    (State.copyBayImages_shell _ _)).trans (State.closeEntry_shell _ _)

/-- The bay images of a PENDING entry stand in the copies of the fitted bays (R49). -/
theorem State.redoRecords_bay (s : State)
    (apart : s.headImages.Pairwise fun i j => ∀ x ∈ i.targets, x ∉ j.targets) {b : Fin 6} {c : BayRecord}
    (fitted : s.bayFitted b = true) (mem : Image.bay (BitVec.ofNat 8 b.val) c ∈ s.headImages) :
    (s.redoRecords.bay b).copy = c := by
  refine State.copyBayImages_copy ((s.granted (.inner .engine)).writeImages s.engine.copy.head s.headImages)
    apart ?_ mem
  have profile : ((s.granted (.inner .engine)).writeImages s.engine.copy.head s.headImages).profile =
    s.profile := (State.writeImages_shell _ _ _).profile
  simp only [State.bayFitted, State.bay, State.writeImages_ice, profile]
  exact fitted

section Stands
variable {r : Profile} (profile : s.profile = some r) (valid : r.isValid = true)
  (fuse : s.store.fuse = none)
include profile valid fuse

/-- The words of a PENDING entry's images, its state and the engine record after redo (R49). -/
theorem State.redoWrites_stand {images : List Image}
    (records : ∀ i ∈ images, RecordId.engine ∉ i.targets)
    (apart : images.Pairwise fun i j => ∀ x ∈ i.targets, x ∉ j.targets) (new : EngineRecord) :
    let m := (s.store.putAll (s.redoWrites images)).putAll
      (engineWrites s.engineAddr s.engine.copy new)
    (∀ i ∈ images, ∀ w ∈ i.writes s s.engine.copy.head, m.word w.1 = w.2) ∧
      m.word (s.entryAddr (entrySlot s.engine.copy.head)) = entryDone ∧
      (RecordAt s.store s.engineAddr s.engine.copy → RecordAt m s.engineAddr new) := by
  have slot := fun w hw => imageWrites_entry (s := s) profile valid (is := images) (q := s.engine.copy.head)
    (w := w) hw s.engine.copy.head
  have engine := fun w hw => imageWrites_engine (s := s) profile valid records (q := s.engine.copy.head)
    (w := w) hw
  have place := State.engineAddr_entry profile valid s.engine.copy.head
  have fuse' : (s.store.putAll (s.redoWrites images)).fuse = none := Memory.putAll_fuse fuse _
  have done : (s.store.putAll (s.redoWrites images)).word
      (s.entryAddr (entrySlot s.engine.copy.head)) = entryDone := by
    refine Memory.word_putAll fuse (fun w hw => ?_) (.inr (by simp [State.redoWrites]))
    rcases List.mem_append.mp hw with image | last
    · have := slot w image
      exact Agree.of_apart (by dsimp only; omega)
    · rw [List.mem_singleton.mp last]
      exact .refl _
  refine ⟨fun i hi w hw => ?_, ?_, fun held => ?_⟩
  · have mem : w ∈ images.flatMap (Image.writes s s.engine.copy.head) := List.mem_flatMap.mpr ⟨i, hi, hw⟩
    have stands : (s.store.putAll (s.redoWrites images)).word w.1 = w.2 := by
      refine Memory.word_putAll fuse (fun v hv => ?_) (.inr (by simp [State.redoWrites, mem]))
      rcases List.mem_append.mp hv with image | last
      · exact imageWrites_agree profile valid apart mem image
      · rw [List.mem_singleton.mp last]
        have := slot w mem
        exact Agree.of_apart (by dsimp only; omega)
    rw [Memory.word_putAll_apart fuse', stands]
    intro v hv
    have range := engineWrites_range hv
    have := engine w mem
    omega
  · rw [Memory.word_putAll_apart fuse', done]
    intro v hv
    have range := engineWrites_range hv
    omega
  · refine RecordAt.engineWrites fuse' (held.of_words fun k hk => ?_) new
    refine Memory.word_putAll_apart fuse fun w hw => ?_
    rcases List.mem_append.mp hw with image | last
    · have := engine w image
      omega
    · rw [List.mem_singleton.mp last]
      dsimp only
      omega

end Stands

/-! ## The engine's copy and the notices -/

/-- What the engine record image at the end of redo leaves (R40, R41, R49). -/
theorem State.redoEngineImage_fields {u : State} {images : List Image} {d : Byte} {h n y : Word}
    (records : ∀ i ∈ images, RecordId.engine ∉ i.targets) (engine : u.engine = s.engine)
    (shell : SameShell s u) :
    let t := u.redoEngineImage (images ++ [.engine d h n y])
    let new := s.engine.copy.withImage d h n y
    t.engine.copy = new ∧ t.ice = u.ice ∧ t.engineAddr = s.engineAddr ∧
      t.store = u.store.putAll (engineWrites s.engineAddr s.engine.copy new) ∧
      (h ≠ s.engine.copy.head → t.noticed .journal = true) := by
  rw [State.redoEngineImage_last u d h n y records, engine]
  refine ⟨by simp, by simp [State.setEngineRecord], ?_, ?_, fun advances => ?_⟩
  · exact State.engineAddr_shell
      (shell.trans ((State.setEngineRecord_shell _ _).trans (State.raiseIf_shell _ _ _)))
  · rw [State.raiseIf_store, State.setEngineRecord_store shell engine]
  · rw [show (h != s.engine.copy.head) = true by simpa using advances]
    exact State.raise_noticed _ _

/-- Settles O41: redo by the parity, the sequence number and the state of the entry at the head; the words
of a PENDING entry stand since no two of its writes cut each other. -/
theorem startUpRedo : Obligations.StartUpRedo := by
  unfold Obligations.StartUpRedo
  intro s r profile valid fuse formatted
  dsimp only
  have slot : ∀ h : Word, s.entryAddr (h.toNat % 256) = s.entryAddr (entrySlot h) := fun _ => rfl
  rw [slot]
  have redo := s.redo_eq
  refine ⟨fun struck => ?_, fun whole other => ?_, ?_⟩
  · rw [if_pos struck] at redo
    have halted : s.startRedo = s.haltAtRedo := by rw [State.startRedo, if_pos formatted, redo]
    rw [halted]
    exact ⟨rfl, rfl, rfl, State.raise_noticed _ _⟩
  · have left : s.redo = some (s.granted (.inner .engine)) := by
      rw [redo, if_neg (by simp [whole])]
      rcases other with seq | ⟨notPending, notDone⟩
      · rw [if_pos seq]
      · rw [if_neg (c := s.headState = 1) notPending, if_neg (c := s.headState = 2) notDone, ite_self]
    rw [State.startRedo, if_pos formatted, left]
  · intro images d h' n y whole seq list records apart state
    have images_eq : s.headImages = images ++ [.engine d h' n y] := list
    rw [if_neg (by simp [whole]), if_neg (by simp [seq])] at redo
    have stands := State.redoWrites_stand profile valid fuse records apart
      (s.engine.copy.withImage d h' n y)
    rcases state with pending | done
    · rw [if_pos (show s.headState = 1 from pending)] at redo
      have started : s.startRedo = s.redoRecords.redoEngineImage (images ++ [.engine d h' n y]) := by
        rw [State.startRedo, if_pos formatted, redo, images_eq]
      obtain ⟨copy, ice, addr, store, journal⟩ := State.redoEngineImage_fields (d := d) (h := h') (n := n)
        (y := y) records s.redoRecords_engine s.redoRecords_shell
      rw [State.redoRecords_store, images_eq, State.redoWrites_last] at store
      rw [← started] at copy ice addr store journal
      rw [← store] at stands
      obtain ⟨words, doneWord, record⟩ := stands
      refine ⟨copy, fun held => ?_, journal, ?_, fun _ => ⟨words, fun b c fitted mem => ?_⟩, fun two => ?_⟩
      · rw [copy, ← State.recordAt_iff, addr]
        exact record ((State.recordAt_iff s _).mpr held)
      · rw [doneWord]
        rfl
      · rw [State.bay, ice]
        refine s.redoRecords_bay ?_ fitted (by rw [images_eq]; exact List.mem_append_left _ mem)
        rw [images_eq]
        refine List.pairwise_append.mpr ⟨apart, List.pairwise_singleton _ _, fun i hi j hj x hx => ?_⟩
        rw [List.mem_singleton.mp hj, Image.targets, List.mem_singleton]
        exact fun e => records i hi (e ▸ hx)
      · rw [pending] at two
        cases two
    · rw [if_neg (by rw [show s.headState = 2 from done]; decide), if_pos (show s.headState = 2 from done)]
        at redo
      have started : s.startRedo =
          (s.granted (.inner .engine)).redoEngineImage (images ++ [.engine d h' n y]) := by
        rw [State.startRedo, if_pos formatted, redo, images_eq]
      obtain ⟨copy, ice, addr, store, journal⟩ := State.redoEngineImage_fields (d := d) (h := h') (n := n)
        (y := y) (s := s) (u := s.granted (.inner .engine)) records rfl (s.granted_shell _)
      rw [← started] at copy ice addr store journal
      have place := State.engineAddr_entry profile valid s.engine.copy.head
      have kept : s.startRedo.store.word (s.entryAddr (entrySlot s.engine.copy.head)) =
          s.store.word (s.entryAddr (entrySlot s.engine.copy.head)) := by
        rw [store]
        refine Memory.word_putAll_apart fuse fun w hw => ?_
        have range := engineWrites_range hw
        omega
      refine ⟨copy, fun held => ?_, journal, ?_, fun one => ?_, fun _ => ⟨ice, fun x outside => ?_⟩⟩
      · rw [copy, ← State.recordAt_iff, addr, store]
        exact ((State.recordAt_iff s _).mpr held).engineWrites fuse _
      · rw [kept]
        exact done
      · rw [done] at one
        cases one
      · rw [store]
        refine Memory.byte_putAll_outside fuse fun w hw => ?_
        have range := engineWrites_range hw
        have : ¬ (s.engineAddr ≤ x ∧ x < s.engineAddr + 16) := outside
        omega

end Sys2Proof.Machine
end

section
/-! Configuration normalisation (R43, R54, R203, R204): what each step writes of book 0, and the copies that
are loaded from the words as they then stand. -/

namespace Sys2Proof.Machine

/-! ## Steps that write some bytes of the CONTROL book -/

/-- A run of steps of the Profile Loader that changes at most the bytes of book 0 at some offsets, and the
parity of no other byte. -/
structure WritesOffsets (P : Nat → Prop) (s t : State) : Prop where
  profile : t.profile = s.profile
  fuse : s.store.fuse = none → t.store.fuse = none
  kept : s.store.fuse = none → ∀ x : Nat, (∀ off, P off → x ≠ s.controlAddr off) →
    t.store.byte x = s.store.byte x ∧ (x ∈ t.store.bad ↔ x ∈ s.store.bad)

namespace WritesOffsets

variable {P Q : Nat → Prop} {s t u : State}

theorem controlAddr (h : WritesOffsets P s t) (off : Nat) : t.controlAddr off = s.controlAddr off := by
  simp only [State.controlAddr, State.base, h.profile]

theorem of_store (profile : t.profile = s.profile) (store : t.store = s.store) : WritesOffsets P s t :=
  ⟨profile, fun f => by rw [store]; exact f, fun _ x _ => by rw [store]; exact ⟨rfl, Iff.rfl⟩⟩

theorem mono (h : WritesOffsets P s t) (sub : ∀ off, P off → Q off) : WritesOffsets Q s t :=
  ⟨h.profile, h.fuse, fun f x hx => h.kept f x fun off hp => hx off (sub off hp)⟩

theorem trans (h : WritesOffsets P s t) (k : WritesOffsets Q t u) :
    WritesOffsets (fun off => P off ∨ Q off) s u := by
  refine ⟨k.profile.trans h.profile, fun f => k.fuse (h.fuse f), fun f x hx => ?_⟩
  obtain ⟨byte, bad⟩ := h.kept f x fun off hp => hx off (.inl hp)
  obtain ⟨byte', bad'⟩ := k.kept (h.fuse f) x fun off hq => by
    rw [h.controlAddr]
    exact hx off (.inr hq)
  exact ⟨byte'.trans byte, bad'.trans bad⟩

/-- Steps one after another write what each of them writes. -/
theorem foldl {α : Type} {f : State → α → State} {P : α → Nat → Prop} (l : List α)
    (step : ∀ c ∈ l, ∀ u, WritesOffsets (P c) u (f u c)) (s : State) :
    WritesOffsets (fun off => ∃ c ∈ l, P c off) s (l.foldl f s) := by
  induction l generalizing s with
  | nil => exact of_store rfl rfl
  | cons c cs ih =>
    refine ((step c (by simp) s).trans (ih (fun d hd => step d (by simp [hd])) (f s c))).mono ?_
    rintro off (here | ⟨d, hd, later⟩)
    · exact ⟨c, by simp, here⟩
    · exact ⟨d, by simp [hd], later⟩

/-- A byte of book 0 that the steps do not write. -/
theorem byte_kept (h : WritesOffsets P s t) (fuse : s.store.fuse = none) {off : Nat} (apart : ¬ P off) :
    t.store.byte (s.controlAddr off) = s.store.byte (s.controlAddr off) ∧
      (s.controlAddr off ∈ t.store.bad ↔ s.controlAddr off ∈ s.store.bad) := by
  refine h.kept fuse _ fun off' hp e => ?_
  simp only [State.controlAddr] at e
  exact apart ((Nat.add_left_cancel e) ▸ hp)

theorem word_kept (h : WritesOffsets P s t) (fuse : s.store.fuse = none) {off : Nat}
    (apart : ∀ k, k < 4 → ¬ P (off + k)) :
    t.store.word (s.controlAddr off) = s.store.word (s.controlAddr off) := by
  have byte (k : Nat) (hk : k < 4) := (h.byte_kept fuse (apart k hk)).1
  have zero := byte 0 (by decide)
  simp only [Memory.word]
  rw [show s.controlAddr off = s.controlAddr (off + 0) from rfl, zero,
    show s.controlAddr (off + 0) + 1 = s.controlAddr (off + 1) from rfl, byte 1 (by decide),
    show s.controlAddr (off + 0) + 2 = s.controlAddr (off + 2) from rfl, byte 2 (by decide),
    show s.controlAddr (off + 0) + 3 = s.controlAddr (off + 3) from rfl, byte 3 (by decide)]

theorem failing_kept (h : WritesOffsets P s t) (fuse : s.store.fuse = none) {off n : Nat}
    (apart : ∀ k, k < n → ¬ P (off + k)) :
    t.store.failing (s.controlAddr off) n = s.store.failing (s.controlAddr off) n := by
  have mem (x : Nat) (low : s.controlAddr off ≤ x) (high : x < s.controlAddr off + n) :
      x ∈ t.store.bad ↔ x ∈ s.store.bad := by
    have := (h.byte_kept fuse (apart (x - s.controlAddr off) (by omega))).2
    have e : s.controlAddr (off + (x - s.controlAddr off)) = x := by
      simp only [State.controlAddr] at low ⊢
      omega
    rwa [e] at this
  rw [Bool.eq_iff_iff]
  simp only [Memory.failing, List.any_eq_true, Bool.and_eq_true, decide_eq_true_eq]
  constructor
  · rintro ⟨x, bad, low, high⟩
    exact ⟨x, (mem x low high).mp bad, low, high⟩
  · rintro ⟨x, bad, low, high⟩
    exact ⟨x, (mem x low high).mpr bad, low, high⟩

/-- The engine record, and its check, where its bytes are not among those written. -/
theorem engineRecord_kept (h : WritesOffsets P s t) (fuse : s.store.fuse = none)
    (apart : ∀ k, k < 16 → ¬ P (0x80 + k)) :
    t.engineRecord = s.engineRecord ∧ t.engineRecordGood = s.engineRecordGood := by
  have place : t.engineAddr = s.engineAddr := h.controlAddr 0x80
  have head : t.store.word s.engineAddr = s.store.word s.engineAddr :=
    h.word_kept (off := 0x80) fuse fun k hk => apart k (by omega)
  have lot : t.store.word (s.engineAddr + 4) = s.store.word (s.engineAddr + 4) :=
    h.word_kept (off := 0x84) fuse fun k hk => Nat.add_assoc 0x80 4 k ▸ apart (4 + k) (by omega)
  have day : t.store.word (s.engineAddr + 8) = s.store.word (s.engineAddr + 8) :=
    h.word_kept (off := 0x88) fuse fun k hk => Nat.add_assoc 0x80 8 k ▸ apart (8 + k) (by omega)
  have state : t.store.word (s.engineAddr + 12) = s.store.word (s.engineAddr + 12) :=
    h.word_kept (off := 0x8C) fuse fun k hk => Nat.add_assoc 0x80 12 k ▸ apart (12 + k) (by omega)
  have parity : t.store.failing s.engineAddr 16 = s.store.failing s.engineAddr 16 :=
    h.failing_kept (off := 0x80) fuse apart
  have record : t.engineRecord = s.engineRecord := by
    simp only [State.engineRecord, place, head, lot, day, state]
  refine ⟨record, ?_⟩
  simp only [State.engineRecordGood, place, record, state, parity]

end WritesOffsets

/-- The bytes of the word at an offset. -/
def WordAt (off x : Nat) : Prop := off ≤ x ∧ x < off + 4

theorem Memory.mem_bad_putWord {m : Memory} (fuse : m.fuse = none) (a : Nat) (w : Word) (x : Nat) :
    x ∈ (m.putWord a w).bad ↔ x ∈ m.bad ∧ (x < a ∨ a + 4 ≤ x) := by
  simp [Memory.putWord, Memory.putBytes, Memory.splice, fuse, Memory.replace]
  rw [wordBytes_length]
  exact fun _ => Iff.rfl

/-- One word of book 0 that the Profile Loader writes. -/
theorem State.load_offsets (s : State) (off : Nat) (v : Word) :
    WritesOffsets (WordAt off) s (s.load [(s.controlAddr off, v)]) := by
  refine ⟨rfl, fun fuse => Memory.putWord_fuse fuse _ _, fun fuse x hx => ?_⟩
  have out : x < s.controlAddr off ∨ s.controlAddr off + 4 ≤ x := by
    by_contra inside
    refine hx (off + (x - s.controlAddr off)) ⟨by omega, by omega⟩ ?_
    simp only [State.controlAddr] at inside ⊢
    omega
  refine ⟨Memory.byte_putWord_outside fuse v out, ?_⟩
  rw [show (s.load [(s.controlAddr off, v)]).store = s.store.putWord (s.controlAddr off) v from rfl,
    Memory.mem_bad_putWord fuse]
  exact ⟨And.left, fun h => ⟨h, out⟩⟩

theorem State.load_word {s : State} (fuse : s.store.fuse = none) (a : Nat) (v : Word) :
    (s.load [(a, v)]).store.word a = v := Memory.word_putWord_same fuse a v

/-! ## Configuration words -/

theorem ConfigWord.offset_injective {c d : ConfigWord} (e : c.offset = d.offset) : c = d := by
  have word := c.specialWordAt_offset
  rw [e, d.specialWordAt_offset] at word
  exact (SpecialWord.config.inj word).symm

/-- The words of two configuration words share no byte. -/
theorem ConfigWord.apart {c d : ConfigWord} (ne : c ≠ d) {k : Nat} (hk : k < 4) :
    ¬ WordAt c.offset (d.offset + k) := by
  have different : c.offset ≠ d.offset := fun e => ne (ConfigWord.offset_injective e)
  have := c.offset_aligned
  have := d.offset_aligned
  unfold WordAt
  omega

/-- The configuration words lie off the engine record, TAIL and the book table. -/
theorem ConfigWord.offset_place (c : ConfigWord) :
    c.offset + 4 ≤ 0x80 ∨ (0xA4 ≤ c.offset ∧ c.offset + 4 ≤ 0x200) := by
  cases c <;> simp only [ConfigWord.offset] <;> omega

theorem ConfigWord.everyValue_eq (c : ConfigWord) :
    c.everyValue = decide (c = .noticeEnable ∨ c = .substitute) := by
  cases c <;> rfl

/-- Of the configuration words the break count alone is judged by the window (R82). -/
theorem ConfigWord.takes_window {c : ConfigWord} (h : c ≠ .settleBreak) (w w' : Nat) (v : Word) :
    c.takes w 0 v = c.takes w' 0 v := by
  cases c <;> first
    | rfl
    | exact absurd rfl h

/-- What normalisation makes of one word, with the window it finds (R203). -/
def State.normalWord (s : State) (window : Nat) (c : ConfigWord) : Word :=
  if c = .noticeEnable ∨ c = .substitute then s.configWord c
  else if s.store.failing (s.controlAddr c.offset) 4 = true ∨ c.takes window 0 (s.configWord c) = false then
    c.default
  else s.configWord c

theorem State.normaliseWord_offsets (s : State) (c : ConfigWord) :
    WritesOffsets (WordAt c.offset) s (s.normaliseWord c) := by
  unfold State.normaliseWord
  dsimp only
  split
  · have grant : WritesOffsets (fun _ => False) s (s.granted (.inner .loader)) := .of_store rfl rfl
    refine (grant.trans (State.load_offsets _ c.offset c.default)).mono ?_
    rintro off (none | here)
    · exact none.elim
    · exact here
  · exact .of_store rfl rfl

theorem State.normaliseWord_word {s : State} (fuse : s.store.fuse = none) (c : ConfigWord) :
    (s.normaliseWord c).store.word (s.controlAddr c.offset) =
      s.normalWord (s.configWord .settleWindow).toNat c := by
  have decides : (s.granted (.inner .loader)).replaces c = true ↔
      ¬ (c = .noticeEnable ∨ c = .substitute) ∧
        (s.store.failing (s.controlAddr c.offset) 4 = true ∨
          c.takes (s.configWord .settleWindow).toNat 0 (s.configWord c) = false) := by
    simp only [State.replaces, ConfigWord.everyValue_eq, Bool.and_eq_true, Bool.or_eq_true,
      Bool.not_eq_true', decide_eq_false_iff_not]
    rfl
  unfold State.normaliseWord State.normalWord
  dsimp only
  split
  · next h =>
    obtain ⟨every, bad⟩ := decides.mp h
    rw [if_neg every, if_pos bad]
    exact State.load_word fuse _ _
  · next h =>
    split
    · rfl
    · next every =>
      rw [if_neg fun bad => h (decides.mpr ⟨every, bad⟩)]
      rfl

/-- The words after the first stage of normalisation. -/
def State.normaliseWords (s : State) (l : List ConfigWord) : State := l.foldl (fun t c => t.normaliseWord c) s

theorem State.normaliseWords_offsets (s : State) (l : List ConfigWord) :
    WritesOffsets (fun off => ∃ c ∈ l, WordAt c.offset off) s (s.normaliseWords l) :=
  .foldl l (fun c _ u => u.normaliseWord_offsets c) s

/-- A configuration word whose turn is not among these keeps its bytes. -/
theorem State.normaliseWords_other {s : State} {l : List ConfigWord} (fuse : s.store.fuse = none)
    {c : ConfigWord} (other : c ∉ l) :
    (s.normaliseWords l).configWord c = s.configWord c ∧
      (s.normaliseWords l).store.failing (s.controlAddr c.offset) 4 =
        s.store.failing (s.controlAddr c.offset) 4 := by
  have writes := s.normaliseWords_offsets l
  have apart : ∀ k, k < 4 → ¬ ∃ d ∈ l, WordAt d.offset (c.offset + k) := by
    rintro k hk ⟨d, mem, inside⟩
    exact ConfigWord.apart (fun e => other (by rw [← e]; exact mem)) hk inside
  refine ⟨?_, writes.failing_kept fuse apart⟩
  rw [State.configWord, writes.controlAddr]
  exact writes.word_kept fuse apart

/-- A word that has its turn once stands normal in the end, by the window as it then stands. -/
theorem State.normaliseWords_word {s : State} (fuse : s.store.fuse = none) {before after : List ConfigWord}
    {c : ConfigWord} (fresh : c ∉ before) (last : c ∉ after)
    (window : c = .settleBreak → ConfigWord.settleWindow ∉ c :: after) :
    (s.normaliseWords (before ++ c :: after)).configWord c =
      s.normalWord ((s.normaliseWords (before ++ c :: after)).configWord .settleWindow).toNat c := by
  have split : s.normaliseWords (before ++ c :: after) =
      ((s.normaliseWords before).normaliseWord c).normaliseWords after := by
    simp [State.normaliseWords]
  have first := s.normaliseWords_offsets before
  have turn := (s.normaliseWords before).normaliseWord_offsets c
  have fuse1 := first.fuse fuse
  have fuse2 := turn.fuse fuse1
  have stands : ((s.normaliseWords before).normaliseWord c).configWord c =
      (s.normaliseWords before).normalWord
        ((s.normaliseWords before).configWord .settleWindow).toNat c := by
    rw [State.configWord, turn.controlAddr]
    exact State.normaliseWord_word fuse1 c
  obtain ⟨word, parity⟩ := State.normaliseWords_other fuse fresh
  rw [split, (State.normaliseWords_other fuse2 last).1, stands]
  simp only [State.normalWord, word, first.controlAddr, parity]
  by_cases break_ : c = .settleBreak
  · have notIn := window break_
    rw [(State.normaliseWords_other fuse2 fun mem => notIn (List.mem_cons_of_mem _ mem)).1]
    have same : ((s.normaliseWords before).normaliseWord c).configWord .settleWindow =
        (s.normaliseWords before).configWord .settleWindow := by
      rw [State.configWord, turn.controlAddr]
      refine turn.word_kept fuse1 fun k hk => ConfigWord.apart (fun e => notIn ?_) hk
      rw [e]
      exact List.mem_cons_self
    rw [same]
  · rw [ConfigWord.takes_window break_]

theorem configWords_nodup : configWords.Nodup := by decide

theorem mem_configWords (c : ConfigWord) : c ∈ configWords := by
  cases c <;> simp [configWords]

/-- Every configuration word has one turn, and the window has its turn before the break count. -/
theorem configWords_turn (c : ConfigWord) : ∃ before after, configWords = before ++ c :: after ∧
    c ∉ before ∧ c ∉ after ∧ (c = .settleBreak → ConfigWord.settleWindow ∉ c :: after) := by
  by_cases h : c = .settleBreak
  · subst h
    exact ⟨configWords.take 12, configWords.drop 13, by decide, by decide, by decide, fun _ => by decide⟩
  · obtain ⟨before, after, split⟩ := List.append_of_mem (mem_configWords c)
    have nodup := configWords_nodup
    rw [split, List.nodup_middle, List.nodup_cons, List.mem_append, not_or] at nodup
    exact ⟨before, after, split, nodup.1.1, nodup.1.2, fun e => absurd e h⟩

/-! ## Descriptors and TAIL -/

/-- The bits of a descriptor's word 0 that no field uses (R204). -/
theorem unassigned_bits (w : Word) :
    w &&& 0x43FFC000#32 = 0 ↔ field w 14 12 = 0 ∧ w.getLsbD 30 = false := by
  have mask : ∀ k < 32, (0x43FFC000#32).getLsbD k = decide ((14 ≤ k ∧ k < 26) ∨ k = 30) := by decide
  constructor
  · intro zero
    have bit (k : Nat) (hk : k < 32) : (w.getLsbD k && (0x43FFC000#32).getLsbD k) = false := by
      rw [← BitVec.getLsbD_and, zero, show (0 : Word) = 0#32 from rfl, BitVec.getLsbD_zero]
    refine ⟨BitVec.eq_of_getLsbD_eq fun i hi => ?_, ?_⟩
    · have := bit (14 + i) (by omega)
      rw [mask _ (by omega), decide_eq_true (by omega), Bool.and_true] at this
      simp [field, hi, this]
    · have := bit 30 (by omega)
      rwa [mask _ (by omega), decide_eq_true (by omega), Bool.and_true] at this
  · rintro ⟨zero, top⟩
    refine BitVec.eq_of_getLsbD_eq fun k hk => ?_
    rw [BitVec.getLsbD_and, mask k hk, show (0 : Word) = 0#32 from rfl, BitVec.getLsbD_zero]
    by_cases inside : 14 ≤ k ∧ k < 26
    · have bit : (field w 14 12).getLsbD (k - 14) = false := by
        rw [zero, show (0 : BitVec 12) = 0#12 from rfl, BitVec.getLsbD_zero]
      simp only [field, BitVec.getLsbD_extractLsb', show 14 + (k - 14) = k by omega,
        decide_eq_true (show k - 14 < 12 by omega), Bool.true_and] at bit
      rw [bit, Bool.false_and]
    · by_cases last : k = 30
      · rw [last, top, Bool.false_and]
      · rw [decide_eq_false (by omega), Bool.and_false]

theorem descriptorReplaced_iff (w w1 : Word) : descriptorReplaced w w1 = true ↔
    field w 28 2 = 3 ∨ field w 14 12 ≠ 0 ∨ w.getLsbD 30 = true ∨ w1.toNat = 0 ∨ 262144 < w1.toNat := by
  have unassigned : (w &&& 0x43FFC000#32 != 0) = true ↔ field w 14 12 ≠ 0 ∨ w.getLsbD 30 = true := by
    rw [bne_iff_ne, Ne, unassigned_bits, not_and_or, Bool.not_eq_false]
  simp only [descriptorReplaced, descriptorInRange, Bool.or_eq_true, unassigned, Bool.not_eq_true',
    Bool.and_eq_false_iff, bne_eq_false_iff_eq, decide_eq_false_iff_not, Nat.not_le]
  constructor
  · rintro (((h | h) | h) | h | h)
    · exact .inl h
    · exact .inr (.inr (.inr (.inl (by omega))))
    · exact .inr (.inr (.inr (.inr h)))
    · exact .inr (.inl h)
    · exact .inr (.inr (.inl h))
  · rintro (h | h | h | h | h)
    · exact .inl (.inl (.inl h))
    · exact .inr (.inl h)
    · exact .inr (.inr h)
    · exact .inl (.inl (.inr (by omega)))
    · exact .inl (.inr h)

/-- What normalisation makes of a descriptor's word 0 (R54, R203). -/
def State.normalDescriptor (s : State) (slot : Fin 57) : Word :=
  let a := s.tableAddr slot
  let w := s.store.word a
  if s.store.failing a 8 = true ∨ descriptorReplaced w (s.store.word (a + 4)) = true then
    w &&& 0x3C003FFF#32
  else w

theorem State.normaliseDescriptor_offsets (s : State) (slot : Fin 57) :
    WritesOffsets (WordAt (0x200 + 8 * slot.val)) s (s.normaliseDescriptor slot) := by
  unfold State.normaliseDescriptor
  dsimp only
  split
  · exact State.load_offsets s _ _
  · exact .of_store rfl rfl

theorem State.normaliseDescriptor_word {s : State} (fuse : s.store.fuse = none) (slot : Fin 57) :
    (s.normaliseDescriptor slot).store.word (s.tableAddr slot) = s.normalDescriptor slot := by
  unfold State.normaliseDescriptor State.normalDescriptor
  simp only [Bool.or_eq_true]
  split
  · exact State.load_word fuse _ _
  · rfl

/-- The descriptors after the second stage of normalisation. -/
def State.normaliseDescriptors (s : State) (l : List (Fin 57)) : State :=
  l.foldl (fun t slot => t.normaliseDescriptor slot) s

theorem State.normaliseDescriptors_offsets (s : State) (l : List (Fin 57)) :
    WritesOffsets (fun off => ∃ slot ∈ l, WordAt (0x200 + 8 * slot.val) off) s (s.normaliseDescriptors l) :=
  .foldl l (fun slot _ u => u.normaliseDescriptor_offsets slot) s

/-- A descriptor whose turn is not among these keeps its two words. -/
theorem State.normaliseDescriptors_other {s : State} {l : List (Fin 57)} (fuse : s.store.fuse = none)
    {slot : Fin 57} (other : slot ∉ l) :
    (s.normaliseDescriptors l).store.word (s.tableAddr slot) = s.store.word (s.tableAddr slot) ∧
      (s.normaliseDescriptors l).normalDescriptor slot = s.normalDescriptor slot := by
  have writes := s.normaliseDescriptors_offsets l
  have apart : ∀ k, k < 8 → ¬ ∃ d ∈ l, WordAt (0x200 + 8 * d.val) (0x200 + 8 * slot.val + k) := by
    rintro k hk ⟨d, mem, low, high⟩
    exact other ((Fin.ext (by omega) : d = slot) ▸ mem)
  have first : (s.normaliseDescriptors l).store.word (s.tableAddr slot) = s.store.word (s.tableAddr slot) :=
    writes.word_kept fuse fun k hk => apart k (by omega)
  have second : (s.normaliseDescriptors l).store.word (s.tableAddr slot + 4) =
      s.store.word (s.tableAddr slot + 4) :=
    writes.word_kept (off := 0x200 + 8 * slot.val + 4) fuse fun k hk => by
      rw [Nat.add_assoc]
      exact apart (4 + k) (by omega)
  have place : (s.normaliseDescriptors l).tableAddr slot = s.tableAddr slot := writes.controlAddr _
  refine ⟨first, ?_⟩
  simp only [State.normalDescriptor, place, first, second]
  rw [show (s.normaliseDescriptors l).store.failing (s.tableAddr slot) 8 =
    s.store.failing (s.tableAddr slot) 8 from writes.failing_kept fuse apart]

theorem State.normaliseDescriptors_word {s : State} (fuse : s.store.fuse = none) {l : List (Fin 57)}
    (nodup : l.Nodup) {slot : Fin 57} (mem : slot ∈ l) :
    (s.normaliseDescriptors l).store.word (s.tableAddr slot) = s.normalDescriptor slot := by
  obtain ⟨before, after, rfl⟩ := List.append_of_mem mem
  rw [List.nodup_middle, List.nodup_cons, List.mem_append, not_or] at nodup
  obtain ⟨⟨fresh, last⟩, -⟩ := nodup
  have split : s.normaliseDescriptors (before ++ slot :: after) =
      ((s.normaliseDescriptors before).normaliseDescriptor slot).normaliseDescriptors after := by
    simp [State.normaliseDescriptors]
  have first := s.normaliseDescriptors_offsets before
  have turn := (s.normaliseDescriptors before).normaliseDescriptor_offsets slot
  have place : (s.normaliseDescriptors before).tableAddr slot = s.tableAddr slot := first.controlAddr _
  have place' : ((s.normaliseDescriptors before).normaliseDescriptor slot).tableAddr slot =
      s.tableAddr slot := (turn.controlAddr _).trans place
  have stands := State.normaliseDescriptor_word (first.fuse fuse) slot
  have rest := (State.normaliseDescriptors_other (turn.fuse (first.fuse fuse)) last).1
  rw [place'] at rest
  rw [place] at stands
  rw [split, rest, stands, (State.normaliseDescriptors_other fuse fresh).2]

/-- Where TAIL is struck or too far behind a good engine record's head (R43, R203). -/
def State.TailLost (s : State) : Prop :=
  s.engineRecordGood = true ∧ s.engineRecord.formatState ≠ unformatted ∧
    (s.store.failing (s.controlAddr 0xA0) 4 = true ∨
      256 < (s.engineRecord.head - s.store.word (s.controlAddr 0xA0)).toNat)

theorem State.normaliseTail_of_lost {s : State} (h : s.TailLost) :
    s.normaliseTail = s.load [(s.controlAddr 0xA0, s.engineRecord.head)] := by
  obtain ⟨good, formatState, far⟩ := h
  rw [State.normaliseTail, if_pos]
  simp only [Bool.and_eq_true, bne_iff_ne, Bool.or_eq_true, decide_eq_true_eq]
  exact ⟨⟨good, formatState⟩, far⟩

theorem State.normaliseTail_of_kept {s : State} (h : ¬ s.TailLost) : s.normaliseTail = s := by
  rw [State.normaliseTail, if_neg]
  simp only [Bool.and_eq_true, bne_iff_ne, Bool.or_eq_true, decide_eq_true_eq]
  rintro ⟨⟨good, formatState⟩, far⟩
  exact h ⟨good, formatState, far⟩

theorem State.normaliseTail_offsets (s : State) : WritesOffsets (WordAt 0xA0) s s.normaliseTail := by
  by_cases h : s.TailLost
  · rw [State.normaliseTail_of_lost h]
    exact State.load_offsets s _ _
  · rw [State.normaliseTail_of_kept h]
    exact .of_store rfl rfl

/-! ## The copies -/

/-- A copy stands at a value of its word, and a schedule entry has no match before it. -/
def CopyStands (u : State) (v : Word) : ConfigWord → Prop
  | .noticeEnable => u.notices.enable = field v 0 10
  | .quaysideOwner => u.copies.quaysideOwner = ownerOf v
  | .deskOwner => u.copies.deskOwner = ownerOf v
  | .substitute => u.copies.substitute = v
  | .stepMode => u.engine.stepMode = (v != 0)
  | .feeRate => u.engine.feeRate = v
  | .tariffA => u.ice.tariffA = v
  | .tariffB => u.ice.tariffB = v
  | .dispenseLimit => u.ice.limit = v
  | .settleBand => u.weigh.settle.band = v
  | .settleCount => u.weigh.settle.count = v
  | .settleWindow => u.weigh.settle.window = v
  | .settleBreak => u.weigh.settle.brk = v
  | .emptyThreshold => u.weigh.settle.empty = v
  | .declareMode => u.tags.mode = declareModeOf v
  | .clearCount => u.tags.clearCount = v
  | .gateDirection => u.tags.direction = field v 0 4
  | .crateType k => u.engine.crateTypes.get k = v
  | .schedule k => u.clock.schedule.get k = v ∧ u.clock.previous.get k = false

/-- Step mode may end the pause, which changes the engine's work alone. -/
theorem State.setStepMode_eq (s : State) (on : Bool) : ∃ st w q, s.setStepMode on =
    { s with engine := { s.engine with stepMode := on, state := st, work := w, queue := q } } := by
  unfold State.setStepMode State.takeNext
  dsimp only
  split
  · split
    · exact ⟨_, _, _, rfl⟩
    · exact ⟨_, _, _, rfl⟩
  · exact ⟨_, _, _, rfl⟩

theorem State.setDeclareMode_eq (s : State) (m : DeclareMode) : ∃ rs, s.setDeclareMode m =
    { s with tags := { s.tags with mode := m, readers := rs } } := by
  unfold State.setDeclareMode
  split
  · next h => exact ⟨s.tags.readers, by rw [← h]⟩
  · exact ⟨_, rfl⟩

theorem State.setCopy_stands (s : State) (c : ConfigWord) (v : Word) : CopyStands (s.setCopy c v) v c := by
  cases c with
  | stepMode =>
    obtain ⟨st, w, q, e⟩ := s.setStepMode_eq (v != 0)
    rw [State.setCopy, e]
    rfl
  | declareMode =>
    obtain ⟨rs, e⟩ := s.setDeclareMode_eq (declareModeOf v)
    rw [State.setCopy, e]
    rfl
  | crateType k | schedule k => simp [CopyStands, State.setCopy, State.scheduleWrite, bank_get_set]
  | _ => rfl

/-- A copy that is loaded leaves the other copies as they stand. -/
theorem CopyStands.setCopy_ne {s : State} {c d : ConfigWord} {w : Word} (h : CopyStands s w d) (ne : d ≠ c)
    (v : Word) : CopyStands (s.setCopy c v) w d := by
  cases c with
  | stepMode =>
    obtain ⟨st, x, q, e⟩ := s.setStepMode_eq (v != 0)
    rw [State.setCopy, e]
    cases d <;> first
      | exact h
      | exact absurd rfl ne
  | declareMode =>
    obtain ⟨rs, e⟩ := s.setDeclareMode_eq (declareModeOf v)
    rw [State.setCopy, e]
    cases d <;> first
      | exact h
      | exact absurd rfl ne
  | crateType k =>
    cases d with
    | crateType j =>
      have other : j ≠ k := fun e => ne (by rw [e])
      simpa [CopyStands, State.setCopy, bank_get_set, other] using h
    | _ => exact h
  | schedule k =>
    cases d with
    | schedule j =>
      have other : j ≠ k := fun e => ne (by rw [e])
      simpa [CopyStands, State.setCopy, State.scheduleWrite, bank_get_set, other] using h
    | _ => exact h
  | _ =>
    cases d <;> first
      | exact h
      | exact absurd rfl ne

/-- The copies of some words, loaded one after another. -/
def State.setCopies (s : State) (value : ConfigWord → Word) (l : List ConfigWord) : State :=
  l.foldl (fun t c => t.setCopy c (value c)) s

/-- The tail copy, loaded from its word. -/
def State.loadTail (s : State) : State :=
  { s with engine := { s.engine with tail := s.store.word (s.controlAddr 0xA0) } }

theorem State.loadCopies_eq (s : State) : s.loadCopies = (s.setCopies s.configWord configWords).loadTail := rfl

theorem State.setCopies_stand (value : ConfigWord → Word) (l : List ConfigWord) (s : State) (d : ConfigWord)
    (h : d ∈ l ∨ CopyStands s (value d) d) : CopyStands (s.setCopies value l) (value d) d := by
  induction l generalizing s with
  | nil => exact h.resolve_left (by simp)
  | cons c cs ih =>
    refine ih _ ?_
    by_cases e : d = c
    · subst e
      exact .inr (s.setCopy_stands d _)
    · rcases h with mem | stands
      · exact .inl (List.mem_of_ne_of_mem e mem)
      · exact .inr (stands.setCopy_ne e _)

/-- No other copy lies with the tail. -/
theorem CopyStands.loadTail {u : State} {v : Word} {c : ConfigWord} (h : CopyStands u v c) :
    CopyStands u.loadTail v c := by
  cases c <;> exact h

theorem State.loadCopies_stands (s : State) (c : ConfigWord) : CopyStands s.loadCopies (s.configWord c) c :=
  s.loadCopies_eq ▸ (State.setCopies_stand s.configWord configWords s c (.inl (mem_configWords c))).loadTail

theorem State.setCopies_keep (value : ConfigWord → Word) (l : List ConfigWord) (s : State) :
    (s.setCopies value l).store = s.store ∧ (s.setCopies value l).profile = s.profile := by
  induction l generalizing s with
  | nil => exact ⟨rfl, rfl⟩
  | cons c cs ih =>
    obtain ⟨store, profile⟩ := ih (s.setCopy c (value c))
    exact ⟨store.trans ((State.setCopy_apart c _).store s), profile.trans (s.setCopy_profile c _)⟩

theorem State.loadTail_store (s : State) : s.loadTail.store = s.store := rfl

theorem State.loadCopies_store (s : State) : s.loadCopies.store = s.store := by
  rw [s.loadCopies_eq, State.loadTail_store, (State.setCopies_keep s.configWord configWords s).1]

theorem State.loadTail_tail (s : State) : s.loadTail.engine.tail = s.store.word (s.controlAddr 0xA0) := rfl

theorem State.loadCopies_tail (s : State) : s.loadCopies.engine.tail = s.store.word (s.controlAddr 0xA0) := by
  obtain ⟨store, profile⟩ := State.setCopies_keep s.configWord configWords s
  have place : (s.setCopies s.configWord configWords).controlAddr 0xA0 = s.controlAddr 0xA0 := by
    simp only [State.controlAddr, State.base, profile]
  rw [s.loadCopies_eq, State.loadTail_tail, store, place]

/-! ## The whole of step 2 -/

/-- The words of book 0 after the three stages of normalisation, from which the copies are loaded. -/
def State.normaliseStore (s : State) : State :=
  ((s.normaliseWords configWords).normaliseDescriptors (List.finRange 57)).normaliseTail

theorem State.normalise_eq (s : State) : s.normalise = s.normaliseStore.loadCopies := rfl

/-- The first stage leaves the engine record, TAIL and the book table. -/
theorem configWords_off {off n : Nat} (place : 0x80 ≤ off ∧ off + n ≤ 0xA4 ∨ 0x200 ≤ off) :
    ∀ k, k < n → ¬ ∃ c ∈ configWords, WordAt c.offset (off + k) := by
  rintro k hk ⟨c, -, low, high⟩
  have := c.offset_place
  omega

/-- The second stage leaves everything below the book table. -/
theorem bookTable_off {off n : Nat} (place : off + n ≤ 0x200) (l : List (Fin 57)) :
    ∀ k, k < n → ¬ ∃ slot ∈ l, WordAt (0x200 + 8 * slot.val) (off + k) := by
  rintro k hk ⟨slot, -, low, high⟩
  omega

/-- The third stage writes TAIL alone. -/
theorem tail_off {off n : Nat} (place : off + n ≤ 0xA0 ∨ 0xA4 ≤ off) :
    ∀ k, k < n → ¬ WordAt 0xA0 (off + k) := by
  rintro k hk ⟨low, high⟩
  omega

/-- What the three stages write lies in book 0. -/
theorem State.normaliseStore_offsets (s : State) : WritesOffsets (· < 4096) s s.normaliseStore := by
  refine (((s.normaliseWords_offsets _).trans (State.normaliseDescriptors_offsets _ _)).trans
    (State.normaliseTail_offsets _)).mono ?_
  rintro off ((⟨c, -, low, high⟩ | ⟨slot, -, low, high⟩) | ⟨low, high⟩)
  · have := c.offset_place
    omega
  · omega
  · omega

section
variable {s : State} (fuse : s.store.fuse = none)
include fuse

/-- Every configuration word stands normal after step 2. -/
theorem State.normaliseStore_word (c : ConfigWord) :
    s.normaliseStore.configWord c = s.normalWord (s.normaliseStore.configWord .settleWindow).toNat c := by
  have kept (d : ConfigWord) : s.normaliseStore.configWord d = (s.normaliseWords configWords).configWord d := by
    have words := s.normaliseWords_offsets configWords
    have later := (State.normaliseDescriptors_offsets (s.normaliseWords configWords) (List.finRange 57)).trans
      (State.normaliseTail_offsets _)
    have place := d.offset_place
    have e := later.word_kept (words.fuse fuse) (off := d.offset) fun k hk => not_or.mpr
      ⟨bookTable_off (n := 4) (by omega) _ k hk, tail_off (n := 4) (by omega) k hk⟩
    rw [State.configWord, State.configWord, State.normaliseStore, later.controlAddr, e]
  obtain ⟨before, after, split, fresh, last, window⟩ := configWords_turn c
  rw [kept, kept, split]
  exact State.normaliseWords_word fuse fresh last window

/-- Every descriptor stands normal after step 2, and its limit stays. -/
theorem State.normaliseStore_descriptor (slot : Fin 57) :
    s.normaliseStore.store.word (s.tableAddr slot) = s.normalDescriptor slot ∧
      s.normaliseStore.store.word (s.tableAddr slot + 4) = s.store.word (s.tableAddr slot + 4) := by
  have words := s.normaliseWords_offsets configWords
  have table := State.normaliseDescriptors_offsets (s.normaliseWords configWords) (List.finRange 57)
  have tail := State.normaliseTail_offsets
    ((s.normaliseWords configWords).normaliseDescriptors (List.finRange 57))
  have fuse1 := words.fuse fuse
  have place1 : (s.normaliseWords configWords).tableAddr slot = s.tableAddr slot := words.controlAddr _
  have place2 : ((s.normaliseWords configWords).normaliseDescriptors (List.finRange 57)).tableAddr slot =
    s.tableAddr slot := (table.controlAddr _).trans place1
  have first : (s.normaliseWords configWords).store.word (s.tableAddr slot) = s.store.word (s.tableAddr slot) :=
    words.word_kept fuse (configWords_off (.inr (by omega)))
  have limit : (s.normaliseWords configWords).store.word (s.tableAddr slot + 4) =
      s.store.word (s.tableAddr slot + 4) :=
    words.word_kept (off := 0x200 + 8 * slot.val + 4) fuse (configWords_off (.inr (by omega)))
  have parity : (s.normaliseWords configWords).store.failing (s.tableAddr slot) 8 =
      s.store.failing (s.tableAddr slot) 8 := words.failing_kept fuse (configWords_off (.inr (by omega)))
  have stands := State.normaliseDescriptors_word fuse1 (List.nodup_finRange 57) (List.mem_finRange slot)
  have normal : (s.normaliseWords configWords).normalDescriptor slot = s.normalDescriptor slot := by
    simp only [State.normalDescriptor, place1, first, limit, parity]
  rw [place1, normal] at stands
  have last := tail.word_kept (table.fuse fuse1) (off := 0x200 + 8 * slot.val) (tail_off (n := 4) (.inr (by omega)))
  have last' := (table.trans tail).word_kept fuse1 (off := 0x200 + 8 * slot.val + 4) fun k hk => not_or.mpr
    ⟨by rintro ⟨d, -, low, high⟩; omega, tail_off (n := 4) (.inr (by omega)) k hk⟩
  rw [← State.tableAddr, place2] at last
  rw [show (s.normaliseWords configWords).controlAddr (0x200 + 8 * slot.val + 4) = s.tableAddr slot + 4 from
    words.controlAddr _] at last'
  exact ⟨last.trans stands, last'.trans limit⟩

/-- TAIL stands normal after step 2. -/
theorem State.normaliseStore_tail :
    (s.TailLost → s.normaliseStore.store.word (s.controlAddr 0xA0) = s.engineRecord.head) ∧
      (¬ s.TailLost → s.normaliseStore.store.word (s.controlAddr 0xA0) = s.store.word (s.controlAddr 0xA0)) := by
  have early := (s.normaliseWords_offsets configWords).trans
    (State.normaliseDescriptors_offsets (s.normaliseWords configWords) (List.finRange 57))
  have off {off n : Nat} (place : 0x80 ≤ off ∧ off + n ≤ 0xA4) : ∀ k, k < n → ¬ ((∃ c ∈ configWords,
      WordAt c.offset (off + k)) ∨ ∃ slot ∈ List.finRange 57, WordAt (0x200 + 8 * slot.val) (off + k)) :=
    fun k hk => not_or.mpr ⟨configWords_off (.inl place) k hk, bookTable_off (by omega) _ k hk⟩
  have tail := early.word_kept fuse (off := 0xA0) (off (n := 4) (by omega))
  have struck := early.failing_kept fuse (off := 0xA0) (n := 4) (off (by omega))
  obtain ⟨record, good⟩ := early.engineRecord_kept fuse fun k hk => off (n := 16) (by omega) k hk
  have same : ((s.normaliseWords configWords).normaliseDescriptors (List.finRange 57)).TailLost ↔ s.TailLost := by
    simp only [State.TailLost, early.controlAddr, tail, struck, record, good]
  constructor
  · intro lost
    rw [State.normaliseStore, State.normaliseTail_of_lost (same.mpr lost), record, early.controlAddr]
    exact State.load_word (early.fuse fuse) _ _
  · intro kept
    rw [State.normaliseStore, State.normaliseTail_of_kept (mt same.mp kept), tail]

end

/-- Settles O40, stage by stage: each stage writes some words of book 0 and leaves what the others read, and
the copies are loaded from what then stands. -/
theorem startUpNormalises : Obligations.StartUpNormalises := by
  unfold Obligations.StartUpNormalises
  intro s fuse
  have writes := s.normaliseStore_offsets
  have store : s.normalise.store = s.normaliseStore.store := State.loadCopies_store _
  have word (c : ConfigWord) : s.normalise.store.word (s.controlAddr c.offset) = s.normaliseStore.configWord c := by
    rw [store, State.configWord, writes.controlAddr]
  have stands (c : ConfigWord) :
      CopyStands s.normalise (s.normalise.store.word (s.controlAddr c.offset)) c := by
    rw [word]
    exact s.normaliseStore.loadCopies_stands c
  dsimp only
  refine ⟨fun c => ?_, fun slot => ?_, ⟨?_, ?_⟩, stands .noticeEnable, ?_, stands .stepMode, stands .feeRate,
    fun k => stands (.crateType k), stands .tariffA, stands .tariffB, stands .dispenseLimit, ?_,
    stands .declareMode, stands .clearCount, stands .gateDirection, fun k => stands (.schedule k), ?_⟩
  · rw [word c, State.normaliseStore_word fuse c, ← word .settleWindow]
    rfl
  · obtain ⟨first, second⟩ := State.normaliseStore_descriptor fuse slot
    rw [store]
    refine ⟨second, first.trans ?_⟩
    simp only [State.normalDescriptor, descriptorReplaced_iff]
  · obtain ⟨lost, kept⟩ := State.normaliseStore_tail fuse
    rw [store]
    split
    · next h => exact lost h
    · next h => exact kept h
  · rw [store, ← writes.controlAddr]
    exact State.loadCopies_tail _
  · have quayside : s.normalise.copies.quaysideOwner = _ := stands .quaysideOwner
    have desk : s.normalise.copies.deskOwner = _ := stands .deskOwner
    have substitute : s.normalise.copies.substitute = _ := stands .substitute
    rw [← quayside, ← desk, ← substitute]
  · have band : s.normalise.weigh.settle.band = _ := stands .settleBand
    have count : s.normalise.weigh.settle.count = _ := stands .settleCount
    have window : s.normalise.weigh.settle.window = _ := stands .settleWindow
    have brk : s.normalise.weigh.settle.brk = _ := stands .settleBreak
    have empty : s.normalise.weigh.settle.empty = _ := stands .emptyThreshold
    rw [← band, ← count, ← window, ← brk, ← empty]
  · intro x outside
    rw [store]
    refine (writes.kept fuse x fun off inside e => ?_).1
    simp only [State.controlAddr] at outside e
    omega

end Sys2Proof.Machine
end

section
/-! Frames: what the Posting Engine, the fix-ups of start-up and a close leave alone, whatever it is. A frame is a
relation that holds across the few updates that their work is made of; it then holds across the whole of it. -/

namespace Sys2Proof.Machine

/-- Reports keep a relation. -/
def Reports (R : State → State → Prop) : Prop :=
  ∀ (s : State) (p : Posting) (r : Option Reason) (q v : Option Word) (is : List Image), R s (s.report p r q v is)

/-- A relation between a state and a later one that no piece of the engine's own work breaks: its registers
but for the hall mode, a queue that only gets shorter, store words, bays, notices and indications; and reports,
when the work may report. A close that comes into its hands anew is one that does not report, unless the work may. -/
structure Frame (R : State → State → Prop) (may : Prop) : Prop where
  refl : ∀ s, R s s
  trans : ∀ {s t u}, R s t → R t u → R s u
  engine : ∀ (s : State) (e : Engine), e.mode = s.engine.mode → e.queue <:+ s.engine.queue →
    (∀ c d, e.work = .close c d → s.engine.work = .close c d ∨ (c.reports = true → may)) →
    R s { s with engine := e }
  memory : ∀ (s : State) (m : Memory) (a : Arbiter), R s { s with store := m, arbiter := a }
  ice : ∀ (s : State) (i : Ice), R s { s with ice := i }
  raise : ∀ (s : State) (n : Notice), R s (s.raise n)
  indicate : ∀ (s : State) (i : Nat), R s (s.indicate i)
  reports : may → Reports R

/-- What comes between the steps of a run keeps the relation. -/
def Between.Within (between : Between) (R : State → State → Prop) : Prop := ∀ point u, R u (between point u)

/-- The state that phases 1 to 4 of a posting leave keeps the relation. -/
def Applied.Within (R : State → State → Prop) (s : State) : Applied → Prop
  | .bare _ => True
  | .refused t _ => R s t
  | .accepted t _ => R s t
  | .closing t _ => R s t

/-- Steps 2 to 8 of start-up (R202). -/
def State.startSteps (s : State) : State :=
  ((((((s.normalise).checkRecord).repeatFormat).startRedo).resumeClose).fixBays).resetSlots

namespace Frame

variable {R : State → State → Prop} {may : Prop} (F : Frame R may) (s : State)
include F

theorem undisturbed : undisturbed.Within R := fun _ u => F.refl u

omit F in
theorem ite {t u : State} {c : Prop} [Decidable c] (h : R s t) (k : R s u) : R s (if c then t else u) := by
  split <;> assumption

/-- An engine register but for the mode, the queue and the work in hand. -/
theorem register (e : Engine) (mode : e.mode = s.engine.mode) (queue : e.queue = s.engine.queue)
    (work : e.work = s.engine.work) : R s { s with engine := e } :=
  F.engine s e mode (queue ▸ List.suffix_rfl) fun _ _ close => .inl (work ▸ close)

/-- Work in hand that is no close. -/
theorem handed (e : Engine) (mode : e.mode = s.engine.mode) (queue : e.queue = s.engine.queue)
    (work : ∀ c d, e.work ≠ .close c d) : R s { s with engine := e } :=
  F.engine s e mode (queue ▸ List.suffix_rfl) fun c d close => absurd close (work c d)

/-! ## Store, notices and bays -/

theorem granted (g : Grantee) : R s (s.granted g) := F.memory s _ _
theorem write (g : Grantee) (ws : List (Nat × Word)) : R s (s.write g ws) := F.memory s _ _
theorem withGuard (g : List RecordId) : R s (s.withGuard g) := F.register s _ rfl rfl rfl
theorem guardGranted (g : List RecordId) (w : Grantee) : R s ((s.withGuard g).granted w) :=
  F.trans (F.withGuard s g) (F.granted _ w)
theorem raiseIf (c : Bool) (n : Notice) : R s (s.raiseIf c n) := ite s (F.raise s n) (F.refl s)
theorem indicateIf (c : Bool) (i : Nat) : R s (s.indicateIf c i) := ite s (F.indicate s i) (F.refl s)
theorem setBay (b : Fin 6) (c : BayChannel) : R s (s.setBay b c) := F.ice s _
theorem setBayCopy (b : Fin 6) (r : BayRecord) : R s (s.setBayCopy b r) :=
  F.trans (F.setBay s _ _) (F.indicateIf _ _ _)
theorem serve (rs : List Request) : R s (s.serve rs) := by
  obtain ⟨m, a, e⟩ := s.serve_eq rs
  rw [e]
  exact F.memory s m a
theorem writeBack (b : Fin 6) : R s (s.writeBack b) := F.trans (F.write s _ _) (F.setBay _ _ _)
theorem bayChange (b : Fin 6) (r : BayRecord) (ps : List Nat) (rs : List Request := []) :
    R s (s.bayChange b r ps rs) :=
  F.trans (F.trans (F.setBayCopy s b r) (ite _ (F.setBay _ _ _) (F.refl _))) (F.serve _ _)
theorem stall (b : Fin 6) (ps : List Nat) : R s (s.stall b ps) :=
  F.trans (F.bayChange s _ _ _) (F.raise _ _)

/-! ## Journal and queue -/

theorem writeImages (seq : Word) (is : List Image) : R s (s.writeImages seq is) := by
  induction is generalizing s with
  | nil => exact F.refl s
  | cons i is ih => exact F.trans (F.write s _ _) (ih _)

theorem setEngineRecord (r : EngineRecord) : R s (s.setEngineRecord r) :=
  F.trans (F.write s _ _) (F.register _ _ (by rfl) (by rfl) (by rfl))

theorem writeEntry (e : JournalEntry) (r : EngineRecord) : R s (s.writeEntry e r) := by
  refine F.trans (F.trans ?_ (F.setEngineRecord _ r)) (F.raise _ _)
  exact ite s (F.write s _ _) (F.trans (F.trans (F.write s _ _) (F.writeImages _ _ _)) (F.write _ _ _))

theorem copyBayImage (n : BitVec 8) (r : BayRecord) : R s (s.copyBayImage n r) := by
  unfold State.copyBayImage
  split
  · exact ite s (F.setBayCopy s _ _) (F.refl s)
  · exact F.refl s

theorem copyBayImages (is : List Image) : R s (s.copyBayImages is) := by
  induction is generalizing s with
  | nil => exact F.refl s
  | cons i is ih =>
    cases i with
    | bay n r => exact F.trans (F.copyBayImage s _ _) (ih _)
    | _ => exact ih s

theorem redoEngineImage (is : List Image) : R s (s.redoEngineImage is) := by
  unfold State.redoEngineImage
  split
  · exact F.refl s
  · exact F.trans (F.setEngineRecord s _) (F.raiseIf _ _ _)

theorem redo {t : State} (h : s.redo = some t) : R s t := by
  unfold State.redo at h
  simp only at h
  split at h
  · cases h
  · split at h
    · cases h
      exact F.granted s _
    · split at h
      · cases h
        exact F.trans (F.trans (F.trans (F.trans (F.granted s _) (F.writeImages _ _ _)) (F.copyBayImages _ _))
          (F.write _ _ _)) (F.redoEngineImage _ _)
      · split at h
        · cases h
          exact F.trans (F.granted s _) (F.redoEngineImage _ _)
        · cases h
          exact F.granted s _

theorem haltAtRedo : R s s.haltAtRedo := F.trans (F.register s _ (by rfl) (by rfl) (by rfl)) (F.raise _ _)

theorem takeNext : R s s.takeNext := by
  unfold State.takeNext
  split
  · exact F.handed s _ rfl rfl (by rintro _ _ ⟨⟩)
  · next p q queue => exact F.engine s _ rfl (by rw [queue]; exact List.suffix_cons p q) (by rintro _ _ ⟨⟩)

theorem endPosting : R s s.endPosting :=
  ite s (F.trans (F.handed s _ (by rfl) (by rfl) (by rintro _ _ ⟨⟩)) (F.raise _ _)) (F.takeNext s)

theorem setStepMode (on : Bool) : R s (s.setStepMode on) :=
  F.trans (F.register s _ (by rfl) (by rfl) (by rfl)) (ite _ (F.takeNext _) (F.refl _))

theorem haltAt (c : HaltCause) : R s (s.haltAt c) := F.trans (F.handed s _ (by rfl) (by rfl) (by rintro _ _ ⟨⟩)) (F.raise _ _)

theorem waitForJournal (w : Work) (quiet : ∀ c d, w = .close c d → c.reports = true → may) :
    R s (s.waitForJournal w) :=
  F.trans (F.engine s _ (by rfl) (by exact List.suffix_rfl) (by exact fun c d e => .inr (quiet c d e))) (F.raise _ _)

theorem settleDue (rs : List RecordId) : R s (s.settleDue rs) := by
  induction rs generalizing s with
  | nil => exact F.refl s
  | cons r rs ih =>
    cases r with
    | bay b =>
      simp only [State.settleDue]
      refine F.trans ?_ (ih _)
      split
      · exact ite s (F.writeBack s _) (F.refl s)
      · exact F.refl s
    | _ => exact ih s

theorem placeGuard (rs : List RecordId) : R s (s.placeGuard rs) :=
  F.trans (F.settleDue s rs) (F.withGuard _ _)

theorem guardRead (rs : List RecordId) (w : Grantee) : R s ((s.placeGuard rs).granted w) :=
  F.trans (F.placeGuard s rs) (F.granted _ w)

/-! ## FORMAT -/

theorem formatBay (b : Fin 6) : R s (s.formatBay b) := F.trans (F.write s _ _) (F.setBayCopy _ _ _)

theorem formatBays : R s s.formatBays :=
  F.trans (F.trans (F.trans (F.trans (F.trans (F.formatBay s 0) (F.formatBay _ 1)) (F.formatBay _ 2))
    (F.formatBay _ 3)) (F.formatBay _ 4)) (F.formatBay _ 5)

theorem formatEngine : R s s.formatEngine :=
  F.trans (F.trans (F.setEngineRecord s _) (F.write _ _ _)) (F.register _ _ (by rfl) (by rfl) (by rfl))

theorem formatStores : R s s.formatStores := by
  refine F.trans ?_ (F.formatBays _)
  refine F.trans ?_ (F.write _ _ _)
  refine F.trans ?_ (F.memory _ _ _)
  exact F.trans (F.register s _ (by rfl) (by rfl) (by rfl)) (F.setEngineRecord _ _)

theorem formatEnd : R s s.formatEnd := F.trans (F.setEngineRecord s _) (F.withGuard _ _)

theorem formatHall (ps : Params) (st : Stamp) {between : Between} (hb : between.Within R) :
    R s (s.formatHall ps st between) := by
  refine F.trans ?_ (F.formatEnd _)
  refine F.trans ?_ (hb _ _)
  refine F.trans ?_ (F.writeEntry _ _ _)
  refine F.trans ?_ (hb _ _)
  exact F.trans (F.trans (F.formatStores s) (hb _ _)) (F.formatEngine _)

/-! ## Day close -/

theorem stopClose (c : CloseWork) (report : c.reports = true → may) : R s (s.stopClose c) :=
  F.engine s _ rfl List.suffix_rfl fun _ _ e => .inr (by cases e; exact report)

theorem writeStruck (c : CloseWork) : R s (s.writeStruck c) :=
  F.trans (F.writeEntry s _ _) (F.trans (F.withGuard _ _) (F.haltAt _ _))

theorem strikeClose (c : CloseWork) (report : c.reports = true → may) : R s (s.strikeClose c) :=
  ite s (F.stopClose s c report)
    (ite s (F.waitForJournal s _ fun _ _ e => by cases e; exact report) (F.writeStruck s c))

theorem holdClose (c : CloseWork) (d : CloseDue) (report : c.reports = true → may) : R s (s.holdClose c d) :=
  ite s (F.stopClose s c report) (F.waitForJournal s _ fun _ _ e => by cases e; exact report)

theorem writeClosed (c : CloseWork) (report : c.reports = true → may) : R s (s.writeClosed c) := by
  unfold State.writeClosed
  refine F.trans ?_ (F.endPosting _)
  have opened (e : JournalEntry) (r : EngineRecord) : R s (((s.writeEntry e r).withGuard []).raise .dayClosed) :=
    F.trans (F.trans (F.writeEntry s _ _) (F.withGuard _ _)) (F.raise _ _)
  split
  · next h => exact F.trans (opened _ _) (F.reports (report h) _ _ _ _ _ _)
  · exact opened _ _

theorem finishClose (c : CloseWork) (report : c.reports = true → may) : R s (s.finishClose c) :=
  ite s (F.holdClose s _ _ report) (F.writeClosed s c report)

theorem rollAccounts (c : CloseWork) (report : c.reports = true → may) (n : Nat) :
    R s (s.rollAccounts c n) := by
  induction n generalizing s c with
  | zero => exact F.finishClose s c report
  | succ n ih =>
    unfold State.rollAccounts
    dsimp only
    split
    · exact F.trans (F.guardGranted s _ _) (F.strikeClose _ _ report)
    · split
      · exact F.trans (F.trans (F.trans (F.guardGranted s _ _) (F.write _ _ _)) (F.withGuard _ _)) (ih _ _ report)
      · exact F.trans (F.trans (F.guardGranted s _ _) (F.withGuard _ _)) (ih _ _ report)

theorem withdrawOne (c : CloseWork) (e : JournalEntry) {between : Between} (hb : between.Within R) :
    R s (s.withdrawOne c e between) :=
  F.trans (F.trans (F.writeEntry s _ _) (F.withGuard _ _)) (hb _ _)

theorem withdrawLots (c : CloseWork) (report : c.reports = true → may) {between : Between}
    (hb : between.Within R) (n : Nat) : R s (s.withdrawLots c between n) := by
  induction n generalizing s c with
  | zero => exact F.rollAccounts s c report 256
  | succ n ih =>
    unfold State.withdrawLots
    dsimp only
    split
    · exact F.trans (F.guardGranted s _ _) (F.strikeClose _ _ report)
    · split
      · split
        · exact F.trans (F.trans (F.guardGranted s _ _) (F.placeGuard _ _)) (F.strikeClose _ _ report)
        · split
          · exact F.trans (F.trans (F.guardGranted s _ _) (F.placeGuard _ _)) (F.holdClose _ _ _ report)
          · exact F.trans (F.trans (F.trans (F.guardGranted s _ _) (F.placeGuard _ _))
              (F.withdrawOne _ _ _ hb)) (ih _ _ report)
      · exact F.trans (F.trans (F.guardGranted s _ _) (F.withGuard _ _)) (ih _ _ report)

theorem runClose (c : CloseWork) (report : c.reports = true → may) {between : Between}
    (hb : between.Within R) : R s (s.runClose c between) :=
  F.trans (F.trans (F.handed s _ (by rfl) (by rfl) (by rintro _ _ ⟨⟩)) (hb _ _)) (F.withdrawLots _ c report hb 2048)

/-! ## Postings and commands, which report -/

section
variable (report : may)
include report

theorem beginClose (c : CloseWork) {between : Between} (hb : between.Within R) : R s (s.beginClose c between) :=
  F.trans (F.setEngineRecord s _) (F.runClose _ c (fun _ => report) hb)

theorem writeDueEntry (d : Due) : R s (s.writeDueEntry d) :=
  F.trans (F.trans (F.trans (F.writeEntry s _ _) (F.withGuard _ _)) (F.reports report _ _ _ _ _ _))
    (ite _ (F.haltAt _ _) (F.endPosting _))

theorem entryDue (d : Due) : R s (s.entryDue d) :=
  ite s (F.waitForJournal s _ (by rintro _ _ ⟨⟩)) (F.writeDueEntry s report d)

theorem refuse (p : Posting) (r : Reason) : R s (s.refuse p r) := F.entryDue s report _

theorem refuseBare (p : Posting) (r : Reason) : R s (s.refuseBare p r) :=
  F.trans (F.reports report s _ _ _ _ _) (F.endPosting _)

theorem applyFormat (p : Posting) {between : Between} (hb : between.Within R) : R s (s.applyFormat p between) := by
  unfold State.applyFormat
  split
  · exact ite s (F.trans (F.placeGuard s _) (F.refuse _ report _ _)) (F.refuseBare s report _ _)
  · exact F.trans (F.trans (F.formatHall s _ _ hb) (F.reports report _ _ _ _ _ _)) (F.endPosting _)

theorem forceFormat {between : Between} (hb : between.Within R) : R s (s.forceFormat between) := by
  have formatted : R s { s.formatHall Params.zero s.stamp between with
      engine := { (s.formatHall Params.zero s.stamp between).engine with halt := none, work := .none } } :=
    F.trans (F.formatHall s _ _ hb) (F.handed _ _ (by rfl) (by rfl) (by rintro _ _ ⟨⟩))
  unfold State.forceFormat
  refine F.trans ?_ (F.endPosting _)
  dsimp only
  split
  · exact ite s (F.trans formatted (F.reports report _ _ _ _ _ _)) formatted
  · exact formatted

theorem releaseWork {between : Between} (hb : between.Within R) : R s (s.releaseWork between) := by
  have idle : R s { s with engine := { s.engine with work := .none } } := F.handed s _ rfl rfl (by rintro _ _ ⟨⟩)
  unfold State.releaseWork
  split
  · exact F.trans idle (F.writeDueEntry _ report _)
  · dsimp only
    split
    · exact F.trans (F.trans idle (F.withdrawOne _ _ _ hb)) (F.withdrawLots _ _ (fun _ => report) hb _)
    · exact F.trans idle (F.writeClosed _ _ fun _ => report)
    · exact F.trans idle (F.writeStruck _ _)
  · exact F.refl s

theorem journalRelease {between : Between} (hb : between.Within R) : R s (s.journalRelease between) := by
  unfold State.journalRelease
  refine ite s (F.refl s) ?_
  split
  · exact F.releaseWork s report hb
  · exact F.releaseWork s report hb
  · exact F.refl s

omit report in
theorem examine (p : Posting) (k : PostKind) (plan : Plan) : (s.examine p k plan).Within R s := by
  have read (rs : List RecordId) : R s ((s.placeGuard rs).granted (.inner .engine)) := F.guardRead s rs _
  unfold State.examine
  split
  · trivial
  · dsimp only
    split
    · exact read _
    · split
      · exact F.trans (read _) (F.placeGuard _ _)
      · unfold State.judge
        split
        · exact F.trans (read _) (F.placeGuard _ _)
        · split <;> exact F.trans (read _) (F.placeGuard _ _)

theorem applyPlan (p : Posting) (k : PostKind) (plan : Plan) : R s (s.applyPlan p k plan) := by
  have examined := F.examine s p k plan
  unfold State.applyPlan
  cases e : s.examine p k plan with
  | bare r => exact F.refuseBare s report p r
  | refused t r => rw [e] at examined; exact F.trans examined (F.refuse t report p r)
  | accepted t d => rw [e] at examined; exact F.trans examined (F.entryDue t report d)
  | closing t c => rw [e] at examined; exact F.trans examined (F.beginClose t report c F.undisturbed)

theorem applyUnknown (p : Posting) : R s (s.applyUnknown p) :=
  ite s (F.trans (F.guardRead s _ _) (F.refuse _ report _ _)) (F.refuseBare s report _ _)

theorem applyTaken (p : Posting) : R s (s.applyTaken p) := by
  unfold State.applyTaken
  split
  · exact F.applyUnknown s report p
  · split <;> first
      | exact F.applyPlan s report _ _ _
      | exact F.applyFormat s report _ F.undisturbed
      | exact F.refl s

theorem closeWithin (p : Posting) {between : Between} (hb : between.Within R) : R s (s.closeWithin p between) := by
  have examined := F.examine s p .dayClose (dayClosePlan p)
  unfold State.closeWithin
  split
  · next e =>
    rw [e] at examined
    exact F.trans examined (F.beginClose _ report _ hb)
  · exact F.refl s

theorem postingWithin {between : Between} (hb : between.Within R) : R s (s.postingWithin between) := by
  unfold State.postingWithin
  split
  · exact ite s (F.applyFormat s report _ hb) (F.refl s)
  · exact F.closeWithin s report _ hb
  · exact F.refl s

theorem repeatRedo {between : Between} (hb : between.Within R) : R s (s.repeatRedo between) := by
  unfold State.repeatRedo
  split
  · exact F.haltAtRedo s
  · next t e =>
    exact F.trans (F.redo s e) (ite t (F.runClose t _ (fun _ => report) hb) (F.takeNext t))

theorem resumeCommand {between : Between} (hb : between.Within R) : R s (s.resumeCommand between) := by
  have resumed : R s { s with engine := { s.engine with halt := none } } := F.register s _ rfl rfl rfl
  unfold State.resumeCommand
  split
  · dsimp only
    split
    · exact F.trans resumed (F.repeatRedo _ report hb)
    · exact F.trans resumed (F.runClose _ _ (fun _ => report) hb)
    · exact F.trans resumed (F.takeNext _)
  · exact F.refl s

theorem formatCommand {between : Between} (hb : between.Within R) : R s (s.formatCommand between) :=
  ite s (F.forceFormat s report hb) (F.refl s)

end

/-! ## Start-up -/

section
variable (copies : ∀ (s : State) (c : ConfigWord) (v : Word), R s (s.setCopy c v))

theorem foldl {α : Type} (f : State → α → State) (step : ∀ u a, R u (f u a)) (as : List α) :
    R s (as.foldl f s) := by
  induction as generalizing s with
  | nil => exact F.refl s
  | cons a as ih => exact F.trans (step s a) (ih _)

theorem normaliseWord (c : ConfigWord) : R s (s.normaliseWord c) :=
  ite s (F.trans (F.granted s _) (F.write _ _ _)) (F.granted s _)

theorem normaliseDescriptor (slot : Fin 57) : R s (s.normaliseDescriptor slot) :=
  ite s (F.write s _ _) (F.refl s)

theorem normaliseTail : R s s.normaliseTail := ite s (F.write s _ _) (F.refl s)

theorem repeatFormat : R s s.repeatFormat :=
  ite s (F.trans (F.formatHall s _ _ F.undisturbed) (F.endPosting _)) (F.refl s)

theorem startRedo : R s s.startRedo := by
  unfold State.startRedo
  split
  · split
    · next e => exact F.redo s e
    · exact F.haltAtRedo s
  · exact F.refl s

theorem resumeClose : R s s.resumeClose :=
  ite s (F.runClose s _ (fun h => by cases h) F.undisturbed) (F.refl s)

theorem fixRecord (b : Fin 6) : R s (s.fixRecord b) := by
  unfold State.fixRecord
  dsimp only
  refine F.trans (F.setBay s b { s.bay b with copy := s.bayRecord b.val }) ?_
  split
  · exact F.bayChange _ _ _ _
  · split
    · exact F.stall _ _ _
    · exact ite _ (F.setBay _ _ _) (F.refl _)

theorem fixBay (b : Fin 6) : R s (s.fixBay b) := by
  unfold State.fixBay
  split
  · exact F.trans (F.write s _ _) (F.setBay _ _ _)
  · split
    · dsimp only
      split
      · exact F.trans (F.granted s _) (F.trans (F.setBay _ _ _) (F.raise _ _))
      · exact F.trans (F.granted s _) (F.fixRecord _ b)
    · exact F.refl s

theorem fixBays : R s s.fixBays :=
  F.trans (F.trans (F.trans (F.trans (F.trans (F.fixBay s 0) (F.fixBay _ 1)) (F.fixBay _ 2)) (F.fixBay _ 3))
    (F.fixBay _ 4)) (F.fixBay _ 5)

/-- A close that stopped during start-up runs again (R192). -/
theorem rerunClose {between : Between} (hb : between.Within R)
    (report : ∀ c d, s.engine.work = .close c d → c.reports = true → may) : R s (s.rerunClose between) := by
  unfold State.rerunClose
  split
  · next work => exact F.runClose s _ (report _ _ work) hb
  · exact F.refl s

include copies

theorem loadCopies : R s s.loadCopies :=
  F.trans (F.foldl s _ (fun u c => copies u c _) configWords) (F.register _ _ (by rfl) (by rfl) (by rfl))

theorem normalise : R s s.normalise :=
  F.trans (F.trans (F.trans (F.foldl s _ (fun u c => F.normaliseWord u c) configWords)
    (F.foldl _ _ (fun u slot => F.normaliseDescriptor u slot) (List.finRange 57))) (F.normaliseTail _))
    (F.loadCopies _ copies)

theorem checkRecord : R s s.checkRecord := by
  unfold State.checkRecord
  dsimp only
  split
  · exact F.register s _ rfl rfl rfl
  · refine F.trans ?_ (F.register _ _ (by rfl) (by rfl) (by rfl))
    exact F.trans (F.trans (F.trans (F.write s _ _) (F.write _ _ _))
      (F.foldl _ _ (fun u slot => F.write u _ _) (List.finRange 57))) (F.loadCopies _ copies)

/-- Steps 2 to 8 of start-up (R202), which end with the slots reset. -/
theorem startSteps (slots : ∀ u : State, R u { u with
    shadows := Shadows.reset, notices := { u.notices with quayEnable := 0 } }) : R s s.startSteps := by
  refine F.trans ?_ (F.trans (F.write _ _ _) (slots _))
  refine F.trans ?_ (F.fixBays _)
  refine F.trans ?_ (F.resumeClose _)
  refine F.trans ?_ (F.startRedo _)
  refine F.trans ?_ (F.repeatFormat _)
  exact F.trans (F.normalise s copies) (F.checkRecord _ copies)

end

end Frame

end Sys2Proof.Machine
end

section
/-! What every run of the engine keeps, tail writes between its steps included: the profile ROM, the commands to
come and the hall time; and what the undisturbed start-up keeps of a part fresh from reset (R174, R202). -/

namespace Sys2Proof.Machine

/-! ## Hall time, ROM and commands to come -/

/-- The fields of the clock that a reset keeps: hall time, its marks and its supply (R168, R172). -/
def HallClock.hall (c : HallClock) : Date × TimeOfDay × Bool × Nat × Bool × Bool × Bool :=
  (c.date, c.time, c.hold, c.prescaler, c.fail, c.crystal, c.backupLost)

/-- Two states with one profile ROM, one queue of commands and one hall time. -/
structure SameSupply (s t : State) : Prop where
  rom : t.rom = s.rom
  pending : t.pending = s.pending
  hall : t.clock.hall = s.clock.hall

theorem SameSupply.trans {s t u : State} (h : SameSupply s t) (k : SameSupply t u) : SameSupply s u :=
  ⟨k.rom.trans h.rom, k.pending.trans h.pending, k.hall.trans h.hall⟩

/-- What a run of the engine keeps besides, with tail writes between its steps: the part state, and a path
without an access while the part is RUNNING. -/
structure RunKept (s t : State) : Prop where
  supply : SameSupply s t
  part : t.part = s.part
  idle : s.part = .running → ∀ p, (s.path p).wait = .free → (t.path p).wait = .free

namespace RunKept

theorem refl (s : State) : RunKept s s := ⟨⟨rfl, rfl, rfl⟩, rfl, fun _ _ h => h⟩

theorem trans {s t u : State} (h : RunKept s t) (k : RunKept t u) : RunKept s u :=
  ⟨h.supply.trans k.supply, k.part.trans h.part, fun run p free => k.idle (h.part.trans run) p (h.idle run p free)⟩

theorem of_eq {s t : State} (shell : SameShell s t) (hall : t.clock.hall = s.clock.hall) : RunKept s t :=
  ⟨⟨shell.rom, shell.pending, hall⟩, shell.part, fun _ p free => by
    cases p with
    | first => exact (congrArg Path.wait shell.first).trans free
    | second => exact (congrArg Path.wait shell.second).trans free⟩

theorem frame : Frame RunKept True where
  refl := refl
  trans := trans
  engine s e _ _ _ := of_eq (s.engine_shell e) rfl
  memory s m a := of_eq ⟨rfl, rfl, rfl, rfl, rfl, rfl, rfl, rfl, rfl, rfl⟩ rfl
  ice s i := of_eq (s.ice_shell i) rfl
  raise s n := of_eq (s.raise_shell n) rfl
  indicate s i := of_eq (s.indicate_shell i) rfl
  reports _ s p r q v is := of_eq (s.report_shell p r q v is) (by rw [(s.report_fixtures p r q v is).clock]; rfl)

/-- A copy of a configuration word (R194). -/
theorem setCopy (s : State) (c : ConfigWord) (v : Word) : RunKept s (s.setCopy c v) := by
  cases c with
  | stepMode =>
    obtain ⟨st, w, q, e⟩ := s.setStepMode_eq (v != 0)
    rw [State.setCopy, e]
    exact of_eq (s.engine_shell _) rfl
  | declareMode =>
    obtain ⟨rs, e⟩ := s.setDeclareMode_eq (declareModeOf v)
    rw [State.setCopy, e]
    exact of_eq (s.tags_shell _) rfl
  | _ => exact ⟨⟨rfl, rfl, rfl⟩, rfl, fun _ p free => by cases p <;> exact free⟩

/-- An access answered leaves its path free (R58). -/
theorem answer (s : State) (p : PortId) (r : Answer) : RunKept s (s.answer p r) :=
  ⟨⟨by simp, by simp, by simp⟩, by simp, fun _ q free => by
    cases p <;> cases q <;> first
      | rfl
      | exact free⟩

theorem faultAccess (s : State) (p : PortId) (a : Access) (r : FaultReason) : RunKept s (s.faultAccess p a r) := by
  have latched : RunKept s (s.latchFault p a r) := by
    unfold State.latchFault
    split
    · exact ⟨⟨rfl, rfl, rfl⟩, rfl, fun _ q free => by cases q <;> exact free⟩
    · exact ⟨⟨rfl, rfl, rfl⟩, rfl, fun _ q free => by cases q <;> exact free⟩
  exact latched.trans (answer _ p _)

theorem dropSnapshot (s : State) (p : PortId) : RunKept s (s.dropSnapshot p) :=
  ⟨⟨by simp, by simp, by simp⟩, by simp, fun _ q free => by cases p <;> cases q <;> exact free⟩

theorem setTail (s : State) (w : Word) : RunKept s (s.setTail w) := by
  rw [State.setTail_eq]
  exact of_eq (s.engine_shell _) rfl

/-- A tail write that arrives at a port, whatever becomes of it (R42). -/
theorem arriveTail (s : State) (w : PortId × Word) : RunKept s (s.arriveTail w) := by
  obtain ⟨p, w⟩ := w
  by_cases taken : s.idlePort p
  · have special : s.arriveTail (p, w) = s.checkSpecial p 0 ⟨portAddr 0 0xA0, .word, some w⟩ :=
      State.arrive_special taken 0 0xA0 .word (some w)
    have word : specialWordAt 0 (⟨portAddr 0 0xA0, .word, some w⟩ : Access).offset = .tail := by
      rw [tailAccess_offset]
      rfl
    have effect (rs : List Request) : RunKept s ((s.dropSnapshot p).effect p .tail w rs) := by
      rw [State.effect_block rfl]
      exact ((dropSnapshot s p).trans (setTail _ w)).trans (frame.serve _ rs)
    rw [special, State.checkSpecial]
    split
    · exact faultAccess s p _ _
    · dsimp only
      unfold State.writeSpecial
      rw [word]
      dsimp only
      split
      · exact effect _
      · exact (effect _).trans (answer _ p _)
  · unfold State.arriveTail State.arrive
    split
    · next free =>
      cases part : s.part with
      | running => exact absurd ⟨part, free⟩ taken
      | unpowered => exact refl s
      | noProfile => exact faultAccess s p _ _
      | starting =>
        exact ⟨⟨by simp, by simp, by simp⟩, by simp, fun run => by rw [part] at run; cases run⟩
    · exact refl s

theorem tailsBetween (tails : List (RunPoint × PortId × Word)) :
    (Machine.tailsBetween tails).Within RunKept := by
  intro point u
  unfold Machine.tailsBetween
  generalize tails.filter _ = ts
  induction ts generalizing u with
  | nil => exact refl u
  | cons t ts ih => exact (arriveTail u t.2).trans (ih _)

end RunKept

/-! ## The undisturbed start-up -/

/-- A close in hand is one that does not report (R191). -/
def QuietWork (s : State) : Prop := ∀ c d, s.engine.work = .close c d → c.reports = false

/-- What the steps of an undisturbed start-up keep of a part fresh from reset. -/
structure StartKept (s t : State) : Prop where
  part : t.part = s.part
  profile : t.profile = s.profile
  first : t.first = s.first
  second : t.second = s.second
  fault : t.fault = s.fault
  mode : t.engine.mode = s.engine.mode
  queue : s.engine.queue = [] → t.engine.queue = []
  quiet : QuietWork s → QuietWork t
  scale : ∀ n, s.scale n = ScaleChannel.reset → t.scale n = ScaleChannel.reset
  reader : ∀ r, s.reader r = ReaderChannel.reset → t.reader r = ReaderChannel.reset
  noticed : ∀ n : Notice, s.noticed n = true → t.noticed n = true

namespace StartKept

theorem path {s t : State} (h : StartKept s t) (p : PortId) : t.path p = s.path p := by
  cases p with
  | first => exact h.first
  | second => exact h.second

theorem refl (s : State) : StartKept s s :=
  ⟨rfl, rfl, rfl, rfl, rfl, rfl, id, id, fun _ => id, fun _ => id, fun _ => id⟩

theorem trans {s t u : State} (h : StartKept s t) (k : StartKept t u) : StartKept s u :=
  ⟨k.part.trans h.part, k.profile.trans h.profile, k.first.trans h.first, k.second.trans h.second,
    k.fault.trans h.fault, k.mode.trans h.mode, k.queue ∘ h.queue, k.quiet ∘ h.quiet,
    fun n => k.scale n ∘ h.scale n, fun r => k.reader r ∘ h.reader r, fun n => k.noticed n ∘ h.noticed n⟩

theorem frame : Frame StartKept False where
  refl := refl
  trans := trans
  engine s e mode queue work :=
    ⟨rfl, rfl, rfl, rfl, rfl, mode, fun nil => List.suffix_nil.mp (nil ▸ queue),
      fun quiet c d close => (work c d close).elim (quiet c d) fun h => by
        cases e : c.reports with
        | false => rfl
        | true => exact (h e).elim,
      fun _ => id, fun _ => id, fun _ => id⟩
  memory s m a := ⟨rfl, rfl, rfl, rfl, rfl, rfl, id, id, fun _ => id, fun _ => id, fun _ => id⟩
  ice s i := ⟨rfl, rfl, rfl, rfl, rfl, rfl, id, id, fun _ => id, fun _ => id, fun _ => id⟩
  raise s n := ⟨rfl, rfl, rfl, rfl, rfl, rfl, id, id, fun _ => id, fun _ => id, (s.raise_stations n).noticed⟩
  indicate s i := ⟨rfl, rfl, rfl, rfl, rfl, rfl, id, id, fun _ => id, fun _ => id, fun _ => id⟩
  reports := False.elim

theorem setCopy (s : State) (c : ConfigWord) (v : Word) : StartKept s (s.setCopy c v) := by
  have plain : ∀ {t : State}, t.part = s.part → t.profile = s.profile → t.first = s.first →
      t.second = s.second → t.fault = s.fault → t.engine.mode = s.engine.mode →
      t.engine.queue = s.engine.queue → t.engine.work = s.engine.work → t.weigh.scales = s.weigh.scales →
      t.tags.readers = s.tags.readers → t.notices.flags = s.notices.flags → StartKept s t := by
    intro t part profile first second fault mode queue work scales readers flags
    exact ⟨part, profile, first, second, fault, mode, fun h => queue.trans h,
      fun h c d e => h c d (work ▸ e), fun n h => by rwa [State.scale, scales],
      fun r h => by rwa [State.reader, readers], fun n h => by rwa [State.noticed, flags]⟩
  cases c with
  | stepMode => exact frame.setStepMode s _
  | declareMode =>
    rw [State.setCopy, State.setDeclareMode]
    refine Frame.ite s (refl s) ?_
    refine ⟨rfl, rfl, rfl, rfl, rfl, rfl, id, id, fun _ => id, fun r h => ?_, fun _ => id⟩
    rw [State.reader, mapBank_get, ← State.reader, h]
    rfl
  | _ => exact plain rfl rfl rfl rfl rfl rfl rfl rfl rfl rfl rfl

end StartKept

/-! ## Start-up as a whole -/

/-- No path has an access: what reset, and a power-up, leave at the ports. -/
def State.PathsFree (s : State) : Prop := ∀ p, (s.path p).wait = .free

theorem State.PathsFree.of_paths {s t : State} (h : s.PathsFree) (first : t.first = s.first)
    (second : t.second = s.second) : t.PathsFree := fun p => by
  cases p with
  | first => exact (congrArg Path.wait first).trans (h .first)
  | second => exact (congrArg Path.wait second).trans (h .second)

/-- A part as reset leaves it, and as its undisturbed start-up keeps it (R48, R202). -/
structure State.Fresh (s : State) : Prop where
  free : s.PathsFree
  mode : s.engine.mode = .setup
  quiet : QuietWork s
  queue : s.engine.queue = []
  fault : s.fault = ⟨none, false⟩
  scale : ∀ n, s.scale n = ScaleChannel.reset
  reader : ∀ r, s.reader r = ReaderChannel.reset

theorem State.dropVolatile_fresh (s : State) (part : PartState) : (s.dropVolatile part).Fresh where
  free p := by cases p <;> rfl
  mode := rfl
  quiet _ _ close := by cases close
  queue := rfl
  fault := rfl
  scale n := by simp [State.dropVolatile, State.scale, State.reset, Weigh.reset, Vector.get_eq_getElem]
  reader r := by simp [State.dropVolatile, State.reader, State.reset, Tags.reset, Vector.get_eq_getElem]

theorem StartKept.fresh {s t : State} (k : StartKept s t) (h : s.Fresh) : t.Fresh where
  free p := by rw [k.path]; exact h.free p
  mode := k.mode.trans h.mode
  quiet := k.quiet h.quiet
  queue := k.queue h.queue
  fault := k.fault.trans h.fault
  scale n := k.scale n (h.scale n)
  reader r := k.reader r (h.reader r)

/-- The profile as start-up holds it, with the victim pointer (R62, R202). -/
def State.holdProfile (s : State) (p : Profile) : State :=
  { s with profile := some p, cache := { s.cache with victim := firstEntry p.sets } }

theorem State.Fresh.holdProfile {s : State} (h : s.Fresh) (p : Profile) : (s.holdProfile p).Fresh :=
  ⟨h.free.of_paths rfl rfl, h.mode, h.quiet, h.queue, h.fault, h.scale, h.reader⟩

/-- The entry to RUNNING in SETUP (R202 step 9). -/
def State.setRunning (s : State) : State := { s with part := .running, engine := { s.engine with mode := .setup } }

theorem State.Fresh.setRunning {s : State} (h : s.Fresh) : s.setRunning.Fresh :=
  ⟨h.free.of_paths rfl rfl, rfl, h.quiet, h.queue, h.fault, h.scale, h.reader⟩

/-- RUNNING, with the clock's loss raised and a stopped close run again (R174, R192). -/
def State.rerun (s : State) (between : Between) : State :=
  (s.setRunning.raiseIf s.clock.fail .clockFail).rerunClose between

theorem State.enterRunning_eq (s : State) (between : Between) :
    s.enterRunning between = (s.rerun between).bothPorts State.checkWaiting := rfl

theorem State.startWith_eq (s : State) (p : Profile) (between : Between) :
    s.startWith p between = (s.holdProfile p).startSteps.enterRunning between := rfl

/-- A path without an access has none to check at the entry to RUNNING. -/
theorem State.checkWaiting_free {s : State} {p : PortId} (free : (s.path p).wait = .free) :
    s.checkWaiting p = s := by
  simp only [State.checkWaiting, free]

theorem State.faultWaiting_free {s : State} {p : PortId} (free : (s.path p).wait = .free) :
    s.faultWaiting p = s := by
  simp only [State.faultWaiting, free]

theorem State.bothPorts_same {s : State} {f : State → PortId → State} (same : ∀ p, f s p = s) :
    s.bothPorts f = s := by
  simp only [State.bothPorts, same]

/-- What the reset of the slots changes besides the store (R75, R200). -/
theorem startSlots_kept (u : State) : StartKept u { u with
    shadows := Shadows.reset, notices := { u.notices with quayEnable := 0 } } :=
  ⟨rfl, rfl, rfl, rfl, rfl, rfl, id, id, fun _ => id, fun _ => id, fun _ => id⟩

theorem startSlots_run (u : State) : RunKept u { u with
    shadows := Shadows.reset, notices := { u.notices with quayEnable := 0 } } :=
  ⟨⟨rfl, rfl, rfl⟩, rfl, fun _ p free => by cases p <;> exact free⟩

theorem State.startSteps_kept (s : State) : StartKept s s.startSteps :=
  StartKept.frame.startSteps s StartKept.setCopy startSlots_kept

theorem State.startSteps_run (s : State) : RunKept s s.startSteps :=
  RunKept.frame.startSteps s RunKept.setCopy startSlots_run

/-- The run from the entry to RUNNING on, with tail writes between the entries of a close that runs again. -/
theorem State.rerun_run (s : State) {between : Between} (hb : between.Within RunKept) :
    RunKept s.setRunning (s.rerun between) :=
  (RunKept.frame.raiseIf _ _ _).trans (RunKept.frame.rerunClose _ hb fun _ _ _ _ => trivial)

theorem State.rerun_kept {s : State} (quiet : QuietWork s) : StartKept s.setRunning (s.rerun undisturbed) := by
  have raised := StartKept.frame.raiseIf s.setRunning s.clock.fail .clockFail
  refine raised.trans (StartKept.frame.rerunClose _ StartKept.frame.undisturbed fun c d close reports => ?_)
  rw [raised.quiet quiet c d close] at reports
  cases reports

theorem State.rerun_noticed {s : State} (quiet : QuietWork s) {n : Notice} (h : s.noticed n = true) :
    (s.rerun undisturbed).noticed n = true := (State.rerun_kept quiet).noticed n h

theorem State.rerun_running {s : State} (quiet : QuietWork s) :
    (s.rerun undisturbed).part = .running ∧ (s.rerun undisturbed).profile = s.profile :=
  ⟨(State.rerun_kept quiet).part, (State.rerun_kept quiet).profile⟩

/-- The entry to RUNNING from free paths checks no access. -/
theorem State.enterRunning_free {s : State} (free : s.PathsFree) {between : Between}
    (hb : between.Within RunKept) : s.enterRunning between = s.rerun between := by
  rw [State.enterRunning_eq]
  refine State.bothPorts_same fun q => State.checkWaiting_free ?_
  exact (s.rerun_run hb).idle rfl q (free q ▸ by cases q <;> rfl)

theorem State.enterRunning_supply {s : State} (free : s.PathsFree) {between : Between}
    (hb : between.Within RunKept) : SameSupply s (s.enterRunning between) := by
  rw [State.enterRunning_free free hb]
  have set : SameSupply s s.setRunning := ⟨rfl, rfl, rfl⟩
  exact set.trans (s.rerun_run hb).supply

/-- Start-up without a valid profile ends in NO_PROFILE at once (R201). -/
theorem State.startWithin_noProfile {s : State} (free : s.PathsFree) (lost : s.loadedProfile = none)
    (between : Between) : s.startWithin between = { s with part := .noProfile, profile := none } := by
  rw [State.startWithin, lost]
  exact State.bothPorts_same fun q => State.faultWaiting_free (free q ▸ by cases q <;> rfl)

theorem State.startSteps_free {s : State} (free : s.PathsFree) (p : Profile) :
    (s.holdProfile p).startSteps.PathsFree := fun q => by
  rw [(s.holdProfile p).startSteps_kept.path]
  exact free q ▸ by cases q <;> rfl

/-- Start-up from free paths keeps the ROM, the commands to come and hall time (R174, R202). -/
theorem State.startWithin_supply {s : State} (free : s.PathsFree) {between : Between}
    (hb : between.Within RunKept) : SameSupply s (s.startWithin between) := by
  cases e : s.loadedProfile with
  | none =>
    rw [State.startWithin_noProfile free e]
    exact ⟨rfl, rfl, rfl⟩
  | some p =>
    have held : SameSupply s (s.holdProfile p) := ⟨rfl, rfl, rfl⟩
    rw [State.startWithin, e]
    dsimp only
    rw [State.startWith_eq]
    exact (held.trans (s.holdProfile p).startSteps_run.supply).trans
      (State.enterRunning_supply (State.startSteps_free free p) hb)

/-- What the undisturbed start-up of a fresh part ends with. -/
theorem State.Fresh.startUp {s : State} (h : s.Fresh) : s.startUp.Fresh ∧
    (∀ n : Notice, s.noticed n = true → s.startUp.noticed n = true) := by
  cases e : s.loadedProfile with
  | none =>
    rw [State.startUp, State.startWithin_noProfile h.free e]
    exact ⟨⟨h.free.of_paths rfl rfl, h.mode, h.quiet, h.queue, h.fault, h.scale, h.reader⟩,
      fun _ => id⟩
  | some p =>
    have steps := (s.holdProfile p).startSteps_kept
    have fresh := steps.fresh (h.holdProfile p)
    have rerun := State.rerun_kept fresh.quiet
    rw [State.startUp, State.startWithin, e]
    dsimp only
    rw [State.startWith_eq, State.enterRunning_free fresh.free RunKept.frame.undisturbed]
    exact ⟨rerun.fresh fresh.setRunning, fun n hn =>
      State.rerun_noticed fresh.quiet (steps.noticed n hn)⟩

theorem State.Fresh.startUp_running {s : State} (h : s.Fresh) {p : Profile} (valid : s.loadedProfile = some p) :
    s.startUp.part = .running ∧ s.startUp.profile = some p := by
  have steps := (s.holdProfile p).startSteps_kept
  have fresh := steps.fresh (h.holdProfile p)
  obtain ⟨part, profile⟩ := State.rerun_running fresh.quiet
  rw [State.startUp, State.startWithin, valid]
  dsimp only
  rw [State.startWith_eq, State.enterRunning_free fresh.free RunKept.frame.undisturbed]
  exact ⟨part, profile.trans steps.profile⟩

end Sys2Proof.Machine
end

section
/-! Power, reset and cuts (R48, R168, R174, R202): what a cut keeps whatever it falls within, and what power-up,
the reset line and the end of main power leave. -/

namespace Sys2Proof.Machine

/-! ## The ROM and the commands to come -/

/-- Two states with one profile ROM and one queue of commands. -/
structure SamePower (s t : State) : Prop where
  rom : t.rom = s.rom
  pending : t.pending = s.pending

namespace SamePower

variable (s : State)

theorem refl : SamePower s s := ⟨rfl, rfl⟩

theorem trans {s t u : State} (h : SamePower s t) (k : SamePower t u) : SamePower s u :=
  ⟨k.rom.trans h.rom, k.pending.trans h.pending⟩

theorem ite {s t u : State} {c : Prop} [Decidable c] (h : SamePower s t) (k : SamePower s u) :
    SamePower s (if c then t else u) := by split <;> assumption

theorem of_shell {s t : State} (h : SameShell s t) : SamePower s t := ⟨h.rom, h.pending⟩

theorem of_supply {s t : State} (h : SameSupply s t) : SamePower s t := ⟨h.rom, h.pending⟩

theorem of_run {s t : State} (h : RunKept s t) : SamePower s t := of_supply h.supply

/-! ### Accesses -/

theorem setPath (p : PortId) (x : Path) : SamePower s (s.setPath p x) := ⟨by simp, by simp⟩
theorem answer (p : PortId) (r : Answer) : SamePower s (s.answer p r) := of_run (.answer s p r)
theorem faultAccess (p : PortId) (a : Access) (r : FaultReason) : SamePower s (s.faultAccess p a r) :=
  of_run (.faultAccess s p a r)
theorem granted (g : Grantee) : SamePower s (s.granted g) := ⟨rfl, rfl⟩

theorem storeRead (p : PortId) (a : Access) (base : Nat) : SamePower s (s.storeRead p a base) :=
  (granted s _).trans (.ite (faultAccess _ _ _ _) (answer _ _ _))

theorem latchRecord (p : PortId) (book : Fin 7) (a : Access) : SamePower s (s.latchRecord p book a) :=
  (granted s _).trans (.ite ((setPath _ _ _).trans (faultAccess _ _ _ _)) ((setPath _ _ _).trans (answer _ _ _)))

theorem guardedRead (p : PortId) (book : Fin 7) (a : Access) : SamePower s (s.guardedRead p book a) :=
  .ite (setPath s _ _) (.ite (latchRecord s _ _ _) (storeRead s _ _ _))

theorem readSpecial (p : PortId) (book : Fin 7) (a : Access) : SamePower s (s.readSpecial p book a) := by
  unfold State.readSpecial
  split
  · exact (setPath s _ _).trans (answer _ _ _)
  · exact (setPath s _ _).trans (answer _ _ _)
  · split
    · exact answer s _ _
    · split
      · exact (setPath s _ _).trans (guardedRead _ _ _ _)
      · split
        · exact answer s _ _
        · exact guardedRead s _ _ _

theorem takeCommand (v : Word) : SamePower s (s.takeCommand v) := by
  unfold State.takeCommand
  split
  · exact ⟨rfl, rfl⟩
  · exact of_shell s.stepCommand_shell
  · exact of_shell s.resumeCommand_shell
  · exact of_shell s.formatCommand_shell
  · exact refl s

theorem takeTrigger (slot : Fin 3) (v : Word) : SamePower s (s.takeTrigger slot v) := by
  unfold State.takeTrigger
  split
  · exact of_shell (s.setDesk_shell _ _)
  · exact .ite (of_shell ((s.setDesk_shell _ _).trans (State.enqueue_shell _ _))) (of_shell (s.setDesk_shell _ _))

theorem blockEffect (w : SpecialWord) (v : Word) : SamePower s (s.blockEffect w v) := by
  cases w with
  | command => exact takeCommand s v
  | clockControl => exact of_shell (s.clockControlWrite_shell v)
  | tail => exact of_shell (s.setTail_shell v)
  | config c => exact of_run (.setCopy s c v)
  | commit n => exact of_shell (s.takeCommit_shell n)
  | sample n => exact of_shell (s.takeSample_shell n _)
  | test n => exact of_shell (s.takeTest_shell n)
  | raw r => exact of_shell (s.takeRaw_shell r v)
  | trigger slot => exact takeTrigger s slot v
  | _ => exact ⟨rfl, rfl⟩

theorem deliverBay (port : PortId) (b : Fin 6) (isDone : Bool) (v : Word) (rs : List Request) :
    SamePower s (s.deliverBay port b isDone v rs) :=
  .ite ((of_shell (s.setBay_shell _ _)).trans (setPath _ _ _)) (of_shell (s.takeBayTrigger_shell _ _ _ _))

theorem effect (port : PortId) (w : SpecialWord) (v : Word) (rs : List Request) :
    SamePower s (s.effect port w v rs) := by
  cases w with
  | quayRestart => exact of_shell (s.quayRestart_shell rs)
  | request b => exact deliverBay s port b false v rs
  | done b => exact deliverBay s port b true v rs
  | _ => exact (blockEffect s _ v).trans (of_shell (State.serve_shell _ rs))

theorem writeSpecial (p : PortId) (book : Fin 7) (a : Access) (v : Word) :
    SamePower s (s.writeSpecial p book a v) := by
  have taken := (setPath s p { s.path p with snapshot := none }).trans
    (effect _ p (specialWordAt book a.offset) v (s.wordRequest p book a v))
  exact .ite taken (taken.trans (answer _ _ _))

theorem checkSpecial (p : PortId) (book : Fin 7) (a : Access) : SamePower s (s.checkSpecial p book a) := by
  unfold State.checkSpecial
  split
  · exact faultAccess s _ _ _
  · split
    · exact readSpecial s _ _ _
    · exact writeSpecial s _ _ _ _

theorem writePlain (p : PortId) (base : Nat) (a : Access) (v : Word) : SamePower s (s.writePlain p base a v) :=
  ⟨by simp [State.writePlain], by simp [State.writePlain]⟩

theorem plainAccess (p : PortId) (book : BitVec 6) (a : Access) : SamePower s (s.plainAccess p book a) := by
  unfold State.plainAccess
  split
  · unfold State.checkPlain
    split
    · exact faultAccess s _ _ _
    · split
      · exact storeRead s _ _ _
      · exact writePlain s _ _ _ _
  · exact setPath s _ _
  · exact ⟨by simp, by simp⟩

theorem checkAccess (p : PortId) (a : Access) : SamePower s (s.checkAccess p a) := by
  unfold State.checkAccess
  dsimp only
  refine (setPath s p { s.path p with wait := .free }).trans ?_
  split
  · exact checkSpecial _ _ _ _
  · exact plainAccess _ _ _ _

theorem arrive (p : PortId) (a : Access) : SamePower s (s.arrive p a) := by
  unfold State.arrive
  split
  · split
    · exact refl s
    · exact setPath s _ _
    · exact faultAccess s _ _ _
    · exact checkAccess s _ _
  · exact refl s

theorem takeHeld (b : Fin 6) : SamePower s (s.takeHeld b) := by
  unfold State.takeHeld
  dsimp only
  split
  · exact refl s
  · refine .ite (refl s) ?_
    exact ((of_shell (s.setBay_shell _ _)).trans (of_shell (State.takeBayTrigger_shell _ _ _ _ _))).trans
      (answer _ _ _)

/-! ### Start-up, whatever waits at the ports -/

theorem checkWaiting (p : PortId) : SamePower s (s.checkWaiting p) := by
  unfold State.checkWaiting
  split
  · split
    · unfold State.checkWaitedRequest
      refine (setPath s p { s.path p with wait := .free }).trans ?_
      split
      · exact faultAccess _ _ _ _
      · exact writeSpecial _ _ _ _ _
    · exact checkAccess s _ _
  · exact refl s

theorem faultWaiting (p : PortId) : SamePower s (s.faultWaiting p) := by
  unfold State.faultWaiting
  split
  · exact faultAccess s _ _ _
  · exact refl s

theorem bothPorts {f : State → PortId → State} (step : ∀ u p, SamePower u (f u p)) :
    SamePower s (s.bothPorts f) := (step _ _).trans (step _ _)

theorem startWithin {between : Between} (hb : between.Within RunKept) :
    SamePower s (s.startWithin between) := by
  unfold State.startWithin
  split
  · exact SamePower.trans (t := { s with part := .noProfile, profile := none }) ⟨rfl, rfl⟩
      (bothPorts _ faultWaiting)
  · next p _ =>
    have held : SamePower s (s.holdProfile p) := ⟨rfl, rfl⟩
    have set (u : State) : SamePower u u.setRunning := ⟨rfl, rfl⟩
    rw [State.startWith_eq, State.enterRunning_eq]
    exact ((held.trans (of_run (s.holdProfile p).startSteps_run)).trans
      ((set _).trans (of_run (State.rerun_run _ hb)))).trans (bothPorts _ checkWaiting)

theorem powerOn : SamePower s s.powerOn := by
  unfold State.powerOn
  refine .ite ?_ (refl s)
  unfold State.backupCheck
  exact .ite ⟨rfl, rfl⟩ ⟨rfl, rfl⟩

theorem powerUp : SamePower s s.powerUp :=
  .ite ((powerOn s).trans (startWithin _ RunKept.frame.undisturbed)) (refl s)

/-! ### Cuts -/

theorem commandWithin (p : PortId) {command : State → State} (step : ∀ u, RunKept u (command u)) :
    SamePower s (s.commandWithin p command) :=
  .ite (((setPath s _ _).trans (answer _ _ _)).trans (of_run (step _))) (refl s)

theorem runWithin (work : RunWork) {between : Between} (hb : between.Within RunKept) :
    SamePower s (s.runWithin work between) := by
  unfold State.runWithin
  split
  · exact of_run (RunKept.frame.postingWithin s trivial hb)
  · exact commandWithin s _ fun u => RunKept.frame.formatCommand u trivial hb
  · exact commandWithin s _ fun u => RunKept.frame.resumeCommand u trivial hb
  · split
    · exact of_run (RunKept.frame.journalRelease s trivial hb)
    · exact refl s
  · exact .ite ((powerOn s).trans (startWithin _ hb)) (refl s)

theorem runWork : SamePower s s.runWork := by
  unfold State.runWork
  split
  · exact SamePower.trans (t := s.dropAccesses) ⟨rfl, rfl⟩ (startWithin _ RunKept.frame.undisturbed)
  · split
    · exact refl s
    · exact of_shell (s.applyTaken_shell _)
    · exact refl s
    · exact of_shell s.releaseWork_shell
  · exact refl s

theorem runCut (work : CutWork) : SamePower s (s.runCut work) := by
  cases work with
  | inHand => exact runWork s
  | powerUp => exact powerUp s
  | write p addr v => exact arrive s _ _
  | tailWithin p v run => exact runWithin s _ (RunKept.tailsBetween _)
  | tick => exact of_shell s.tick_shell
  | heldTrigger b => exact takeHeld s b
  | writeBack b => exact of_shell (s.writeBackStep_shell b)

theorem afterCut (cut : Cut) : SamePower s (s.afterCut cut) := by
  obtain ⟨rom, pending⟩ := runCut { s with store := { s.store with fuse := some cut.writes } } cut.work
  exact ⟨rom, pending⟩

end SamePower

/-! ## Hall time -/

/-- The part as a power-up finds it starting: fresh from reset, its supply checked (R172, R174). -/
theorem State.powerOn_of_unpowered {s : State} (off : s.part = .unpowered) :
    s.powerOn = (s.dropVolatile .starting).backupCheck := by rw [State.powerOn, if_pos off]

theorem State.powerOn_kept {s : State} (off : s.part = .unpowered) (supplied : s.clock.backupLost = false) :
    s.powerOn = s.dropVolatile .starting := by
  rw [State.powerOn_of_unpowered off, State.backupCheck, if_neg]
  rw [show (s.dropVolatile .starting).clock.backupLost = s.clock.backupLost from rfl, supplied]
  decide

theorem State.powerOn_lost {s : State} (off : s.part = .unpowered) (lost : s.clock.backupLost = true) :
    s.powerOn = ({ s.dropVolatile .starting with
      clock := (s.dropVolatile .starting).clock.afterLoss } : State).raise .clockFail := by
  rw [State.powerOn_of_unpowered off]
  exact if_pos lost

theorem State.powerOn_fresh {s : State} (off : s.part = .unpowered) : s.powerOn.Fresh := by
  have fresh := s.dropVolatile_fresh .starting
  cases lost : s.clock.backupLost with
  | false =>
    rw [State.powerOn_kept off lost]
    exact fresh
  | true =>
    rw [State.powerOn_lost off lost]
    exact ⟨fresh.free.of_paths rfl rfl, fresh.mode, fresh.quiet, fresh.queue, fresh.fault, fresh.scale,
      fresh.reader⟩

theorem State.powerOn_starting {s : State} (off : s.part = .unpowered) : s.powerOn.part = .starting := by
  cases lost : s.clock.backupLost with
  | false => rw [State.powerOn_kept off lost]; rfl
  | true => rw [State.powerOn_lost off lost]; rfl

/-- Hall time as the loss of the backup supply leaves it (R174). -/
def lostHall : Date × TimeOfDay × Bool × Nat × Bool × Bool × Bool :=
  (⟨2000, 1, 1⟩, ⟨0, 0, 0⟩, false, 16384, true, true, false)

theorem State.powerOn_hall {s : State} (off : s.part = .unpowered) :
    (s.clock.backupLost = false → s.powerOn.clock.hall = s.clock.hall) ∧
      (s.clock.backupLost = true → s.powerOn.clock.hall = lostHall) := by
  constructor
  · intro supplied
    rw [State.powerOn_kept off supplied]
    rfl
  · intro lost
    rw [State.powerOn_lost off lost]
    rfl

/-- Work in hand that runs on keeps hall time (R48). -/
theorem State.runWork_supply (s : State) : SameSupply s s.runWork := by
  have same : SameSupply s s := ⟨rfl, rfl, rfl⟩
  unfold State.runWork
  split
  · have dropped : SameSupply s s.dropAccesses := ⟨rfl, rfl, rfl⟩
    have free : s.dropAccesses.PathsFree := fun p => by cases p <;> rfl
    exact dropped.trans (State.startWithin_supply free RunKept.frame.undisturbed)
  · split
    · exact same
    · exact (RunKept.frame.applyTaken s trivial _).supply
    · exact same
    · exact (RunKept.frame.releaseWork s trivial RunKept.frame.undisturbed).supply
  · exact same

/-- A part without power whose cut begins with a power-up starts up within it (R174, log 8). -/
theorem State.runCut_powers {s : State} (off : s.part = .unpowered) {work : CutWork}
    (powers : beginsWithPowerUp work = true) : SameSupply s.powerOn (s.runCut work) := by
  have free := (State.powerOn_fresh off).free
  cases work with
  | powerUp =>
    rw [State.runCut, State.powerUp, if_pos off]
    exact State.startWithin_supply free RunKept.frame.undisturbed
  | tailWithin p v run =>
    have work : run.work = .startUp := by simpa [beginsWithPowerUp] using powers
    simp only [State.runCut, State.writeTail, work, State.runWithin]
    rw [if_pos (State.powerOn_starting off)]
    exact State.startWithin_supply free (RunKept.tailsBetween _)
  | _ => cases powers

/-- The five fields that a reading of hall time compares. -/
theorem HallClock.hall_fields {c d : HallClock} (h : c.hall = d.hall) : c.date = d.date ∧ c.time = d.time ∧
    c.hold = d.hold ∧ c.prescaler = d.prescaler ∧ c.fail = d.fail := by
  simp only [HallClock.hall, Prod.mk.injEq] at h
  obtain ⟨date, time, hold, prescaler, fail, -⟩ := h
  exact ⟨date, time, hold, prescaler, fail⟩

theorem HallClock.hall_backupLost {c d : HallClock} (h : c.hall = d.hall) : c.backupLost = d.backupLost :=
  congrArg (fun x => x.2.2.2.2.2.2) h

theorem HallClock.hall_lost {c : HallClock} (h : c.hall = lostHall) : c.date = ⟨2000, 1, 1⟩ ∧
    c.time = ⟨0, 0, 0⟩ ∧ c.hold = false ∧ c.prescaler = 16384 ∧ c.fail = true ∧ c.crystal = true := by
  simp only [HallClock.hall, lostHall, Prod.mk.injEq] at h
  obtain ⟨date, time, hold, prescaler, fail, crystal, -⟩ := h
  exact ⟨date, time, hold, prescaler, fail, crystal⟩

/-! ## Cuts -/

theorem beginsWithPowerUp_iff (work : CutWork) : beginsWithPowerUp work = true ↔
    work = .powerUp ∨ ∃ p v point later, work = .tailWithin p v ⟨.startUp, point, later⟩ := by
  cases work with
  | tailWithin p v run =>
    obtain ⟨work, point, later⟩ := run
    simp [beginsWithPowerUp]
  | powerUp => simp [beginsWithPowerUp]
  | _ => simp [beginsWithPowerUp]

theorem State.cutTaken_iff (s : State) (cut : Cut) : s.cutTaken cut = true ↔
    s.part ≠ .unpowered ∨ beginsWithPowerUp cut.work = true := by
  simp [State.cutTaken]

theorem State.afterCut_inHand (s : State) (n : Nat) : SameSupply s (s.afterCut ⟨.inHand, n⟩) := by
  obtain ⟨rom, pending, hall⟩ :=
    State.runWork_supply { s with store := { s.store with fuse := some n } }
  exact ⟨rom, pending, hall⟩

/-- Between postings, and in JOURNAL_WAIT, there is nothing in hand to run on. -/
theorem State.runWork_idle {s : State} (running : s.part = .running)
    (idle : s.engine.work = .none ∨ s.engine.state = .journalWait) : s.runWork = s := by
  unfold State.runWork
  rw [running]
  dsimp only
  rcases idle with work | state
  · rw [work]
    cases s.engine.state <;> rfl
  · rw [state]

theorem State.afterCut_store_idle {s : State} (running : s.part = .running)
    (idle : s.engine.work = .none ∨ s.engine.state = .journalWait) (fuse : s.store.fuse = none) (n : Nat) :
    (s.afterCut ⟨.inHand, n⟩).store = s.store := by
  have same := State.runWork_idle (s := { s with store := { s.store with fuse := some n } }) running idle
  rw [State.afterCut, State.runCut, same]
  show ({ s.store with fuse := none } : Memory) = s.store
  rw [← fuse]

/-- What a cut that begins with a power-up leaves of hall time (R172, R174). -/
theorem State.afterCut_powers {s : State} (off : s.part = .unpowered) {cut : Cut}
    (powers : beginsWithPowerUp cut.work = true) :
    (s.clock.backupLost = false → (s.afterCut cut).clock.hall = s.clock.hall) ∧
      (s.clock.backupLost = true → (s.afterCut cut).clock.hall = lostHall) := by
  have supply := State.runCut_powers (s := { s with store := { s.store with fuse := some cut.writes } })
    off powers
  obtain ⟨kept, lost⟩ := State.powerOn_hall (s := { s with store := { s.store with fuse := some cut.writes } })
    off
  exact ⟨fun h => supply.hall.trans (kept h), fun h => supply.hall.trans (lost h)⟩

theorem State.resetLine_taken {s : State} {cut : Cut} (taken : s.cutTaken cut = true) (ends : Bool) :
    s.resetLine ⟨cut, ends⟩ = ((s.afterCut cut).dropVolatile .starting).startIf ends := if_pos taken

theorem State.powerOff_taken {s : State} {cut : Cut} (taken : s.cutTaken cut = true) :
    s.powerOff cut = (s.afterCut cut).dropVolatile .unpowered := if_pos taken

theorem step_idle {s : State} (nil : s.pending = []) :
    step s = .next (if s.part = .starting then s.startUp else s) := by
  rw [step, nil]
  dsimp only
  rw [idleStep]
  cases s.part <;> rfl

/-- A clock without power has no monitor (R172, log 44). -/
theorem State.crystal_unpowered {s : State} (off : s.part = .unpowered) (lost : s.clock.backupLost = true) :
    s.startCrystal = s ∧ ∀ n, s.stopCrystal n = s := by
  have dead : s.clockPowered = false := by simp [State.clockPowered, State.powered, off, lost]
  exact ⟨by simp [State.startCrystal, dead], fun n => by simp [State.stopCrystal, dead]⟩

/-! ## Start-up after power-up and reset -/

/-- What a start-up after power-up or reset leaves of a part with a ROM (R174, R201, R202). -/
structure StartsUp (rom : Option Profile) (t : State) : Prop where
  profile : ∀ r, rom = some r → r.isValid = true → t.part = .running ∧ t.profile = some r
  noProfile : (rom = none ∨ ∃ r, rom = some r ∧ r.isValid = false) → t.part = .noProfile ∧ t.profile = none
  fresh : t.Fresh

theorem State.Fresh.startsUp {v : State} (h : v.Fresh) : StartsUp v.rom v.startUp := by
  refine ⟨fun r rom valid => ?_, fun lost => ?_, h.startUp.1⟩
  · exact h.startUp_running (by simp [State.loadedProfile, rom, valid])
  · have none : v.loadedProfile = none := by
      rcases lost with rom | ⟨r, rom, invalid⟩
      · simp [State.loadedProfile, rom]
      · simp [State.loadedProfile, rom, invalid]
    rw [State.startUp, State.startWithin_noProfile h.free none]
    exact ⟨rfl, rfl⟩

/-- A power-up starts up a fresh part with the hall time its supply check leaves, and raises the loss (R174). -/
theorem State.powerUp_startsUp {s : State} (off : s.part = .unpowered) :
    StartsUp s.rom s.powerUp ∧
      (s.clock.backupLost = false → s.powerUp.clock.hall = s.clock.hall) ∧
      (s.clock.backupLost = true → s.powerUp.clock.hall = lostHall ∧ s.powerUp.noticed .clockFail = true) := by
  have fresh := State.powerOn_fresh off
  have starts := fresh.startsUp
  rw [(SamePower.powerOn s).rom] at starts
  have hall : s.powerOn.startUp.clock.hall = s.powerOn.clock.hall :=
    (State.startWithin_supply fresh.free RunKept.frame.undisturbed).hall
  obtain ⟨kept, lost⟩ := State.powerOn_hall off
  rw [State.powerUp, if_pos off]
  refine ⟨starts, fun h => hall.trans (kept h), fun h => ⟨hall.trans (lost h), fresh.startUp.2 _ ?_⟩⟩
  rw [State.powerOn_lost off h]
  exact State.raise_noticed _ _

/-- Settles O39: a cut keeps the ROM and the commands to come whatever it falls within, reset leaves a fresh
part, and the undisturbed start-up keeps it fresh. -/
theorem powerAndReset : Obligations.PowerAndReset := by
  unfold Obligations.PowerAndReset
  intro s
  have takes {cut : Cut} (taken : s.part ≠ .unpowered ∨ cut.work = .powerUp ∨
      ∃ p v point later, cut.work = .tailWithin p v ⟨.startUp, point, later⟩) : s.cutTaken cut = true :=
    (s.cutTaken_iff cut).mpr (taken.imp_right (beginsWithPowerUp_iff _).mpr)
  dsimp only
  refine ⟨step_idle, ?_, fun cut taken => ?_, fun cut taken => ?_, fun n => ?_, fun cut powers off => ?_,
    fun off => ?_, fun off lost => ?_, fun off cut not => ?_, fun on => ?_⟩
  · rintro i u (⟨rfl, off, rfl⟩ | ⟨cut, rfl, taken, rfl⟩)
    · obtain ⟨starts, kept, lost⟩ := State.powerUp_startsUp off
      have fresh := starts.fresh
      refine ⟨_, rfl, (SamePower.powerUp u).pending, (SamePower.powerUp u).rom, starts.profile, starts.noProfile,
        fresh.mode, fresh.queue, fresh.fault, fresh.scale, fresh.reader, fun supplied => ?_, fun _ h => ?_⟩
      · exact HallClock.hall_fields (kept (supplied.resolve_left fun ne => ne rfl))
      · exact ⟨HallClock.hall_lost (lost h).1, (lost h).2⟩
    · have dropped := (s.afterCut cut).dropVolatile_fresh .starting
      have starts := dropped.startsUp
      have fresh := starts.fresh
      have supply := State.startWithin_supply dropped.free RunKept.frame.undisturbed
      have power := SamePower.afterCut s cut
      have rom : ((s.afterCut cut).dropVolatile .starting).rom = s.rom := power.rom
      rw [rom] at starts
      exact ⟨_, congrArg Host.Outcome.next (State.resetLine_taken (takes taken) true),
        supply.pending.trans power.pending, supply.rom.trans power.rom, starts.profile, starts.noProfile,
        fresh.mode, fresh.queue, fresh.fault, fresh.scale, fresh.reader,
        fun _ => HallClock.hall_fields supply.hall, fun up => by cases up⟩
  · exact ⟨_, congrArg Host.Outcome.next (State.resetLine_taken (takes taken) false),
      (SamePower.afterCut s cut).pending, rfl, rfl, rfl, rfl, rfl, rfl, rfl, rfl, rfl⟩
  · exact ⟨_, congrArg Host.Outcome.next (State.powerOff_taken (takes taken)),
      (SamePower.afterCut s cut).pending, rfl, rfl, rfl, rfl, rfl, rfl, rfl, rfl⟩
  · refine ⟨HallClock.hall_fields (s.afterCut_inHand n).hall, fun running idle fuse => ?_⟩
    exact State.afterCut_store_idle running idle fuse n
  · obtain ⟨kept, lost⟩ := State.afterCut_powers off ((beginsWithPowerUp_iff _).mpr powers)
    refine ⟨fun h => HallClock.hall_fields (kept h), fun h => HallClock.hall_lost (lost h), ?_⟩
    cases h : s.clock.backupLost with
    | false => exact (HallClock.hall_backupLost (kept h)).trans h
    | true => exact congrArg (fun x => x.2.2.2.2.2.2) (lost h)
  · exact congrArg Host.Outcome.next (if_pos off)
  · obtain ⟨starts, stops⟩ := State.crystal_unpowered off lost
    exact ⟨congrArg Host.Outcome.next starts, fun count => congrArg Host.Outcome.next (stops _)⟩
  · have untaken : ¬ s.cutTaken cut = true := fun h =>
      ((s.cutTaken_iff cut).mp h).elim (fun on => on off) fun h => not ((beginsWithPowerUp_iff _).mp h)
    exact ⟨fun ends => congrArg Host.Outcome.next (if_neg untaken), congrArg Host.Outcome.next (if_neg untaken)⟩
  · exact congrArg Host.Outcome.next (if_neg on)

end Sys2Proof.Machine
end

section
/-! A posting whose entry falls due in a full journal waits (R44, R45): what phases 1 to 4 come to does not depend
on the journal tail, so the entry that waits is the one that a free slot would have had written. -/

namespace Sys2Proof.Machine

variable {s : State} {p : Posting} {k : PostKind}

/-! ## What phases 1 to 4 come to -/

theorem mem_distinct {x : RecordId} {rs : List RecordId} : x ∈ distinct rs ↔ x ∈ rs := List.mem_eraseDups

/-- The judgement of a posting whose reads are good: the hall mode, then its plan's checks (R15 phase 4). -/
def State.modeJudged (s : State) (k : PostKind) (plan : Plan) : Verdict :=
  match modeRefusal s.engine.mode k with
  | some r => .refuse r
  | none => plan.verdict s

/-- The judgement of a posting by its plan: its reads, the hall mode, its checks (R15 phases 2 to 4). -/
def State.judged (s : State) (k : PostKind) (plan : Plan) : Verdict :=
  if s.anyFails (.engine :: plan.first) then .refuse .storeError
  else if s.anyFails (plan.more s) then .refuse .storeError
  else s.modeJudged k plan

/-- The guard that phases 2 and 3 leave (R16). -/
def State.judgedGuard (s : State) (plan : Plan) : List RecordId :=
  let first := distinct (s.engine.guard ++ .engine :: plan.first)
  if s.anyFails (.engine :: plan.first) then first else distinct (first ++ plan.more s)

theorem State.engine_mem_judgedGuard (s : State) (plan : Plan) : RecordId.engine ∈ s.judgedGuard plan := by
  have first : RecordId.engine ∈ distinct (s.engine.guard ++ .engine :: plan.first) :=
    mem_distinct.mpr (by simp)
  unfold State.judgedGuard
  dsimp only
  split
  · exact first
  · exact mem_distinct.mpr (List.mem_append_left _ first)

/-- A judgement carried to the state that it leaves. -/
def Verdict.applied (v : Verdict) (t : State) (p : Posting) : Applied :=
  match v with
  | .refuse r => .refused t r
  | .accept images nextLot value => .accepted t (p.due images nextLot value)
  | .close => .closing t (t.newClose p)

theorem State.judge_eq (t : State) (p : Posting) (k : PostKind) (plan : Plan) :
    t.judge p k plan = (t.modeJudged k plan).applied t p := by
  unfold State.judge State.modeJudged
  cases modeRefusal t.engine.mode k with
  | some r => rfl
  | none => cases plan.verdict t <;> rfl

theorem State.under_modeJudged {plan : Plan} (steady : plan.Steady s) (g : List RecordId) (a : Arbiter) :
    (s.under g a).modeJudged k plan = s.modeJudged k plan := by
  rw [State.modeJudged, (steady g a).2]
  rfl

/-- Phases 1 to 4 in a FORMATTED hall without a due bay write: the guard and the arbiter move, and the
judgement is of the state as it stood. -/
theorem State.examine_eq (fmt : s.isFormatted = true) (due : ∀ b : Fin 6, (s.bay b).writeDue = false)
    {plan : Plan} (steady : plan.Steady s) :
    s.examine p k plan = (s.judged k plan).applied (s.under (s.judgedGuard plan) ⟨.office, .cache⟩) p := by
  have due' : ∀ g a b, ((s.under g a).bay b).writeDue = false := fun _ _ b => due b
  have granted (g : List RecordId) : (s.withGuard g).granted (.inner .engine) = s.under g ⟨.office, .cache⟩ := rfl
  have guarded (g a g') : (s.under g a).withGuard g' = s.under g' a := rfl
  simp only [State.examine, fmt, Bool.not_true, Bool.false_eq_true, if_false]
  rw [State.placeGuard_none due, granted, State.under_anyFails, (steady _ _).1, State.placeGuard_none (due' _ _),
    guarded, State.under_anyFails]
  simp only [State.judged, State.judgedGuard]
  split
  · rfl
  · split
    · rfl
    · rw [State.judge_eq, State.under_modeJudged steady]
      rfl

/-! ## An entry due, or a close -/

/-- The entry that a judgement has due; a close has none. -/
def Verdict.due (v : Verdict) (s : State) (p : Posting) : Option Due :=
  match v with
  | .refuse r => some (p.refusal s r)
  | .accept images nextLot value => some (p.due images nextLot value)
  | .close => none

theorem Verdict.due_posting {v : Verdict} {d : Due} (h : v.due s p = some d) : d.posting = p := by
  cases v <;> cases h <;> rfl

/-- A posting applied by a plan that does not begin a close comes to an entry due. -/
theorem State.applyPlan_due (fmt : s.isFormatted = true) (due : ∀ b : Fin 6, (s.bay b).writeDue = false)
    {plan : Plan} (steady : plan.Steady s) {d : Due} (h : (s.judged k plan).due s p = some d) :
    s.applyPlan p k plan = (s.under (s.judgedGuard plan) ⟨.office, .cache⟩).entryDue d := by
  rw [State.applyPlan, State.examine_eq fmt due steady]
  cases e : s.judged k plan with
  | refuse r => rw [e] at h; cases h; rfl
  | accept images nextLot value => rw [e] at h; cases h; rfl
  | close => rw [e] at h; cases h

/-! ## The journal tail -/

/-- The state with another tail copy. -/
def State.tailed (s : State) (w : Word) : State := { s with engine := { s.engine with tail := w } }

theorem State.tailed_journalFull (s : State) (w : Word) :
    (s.tailed w).journalFull = (s.engine.copy.head - w == 256#32) := rfl

/-- A plan that does not look at the journal tail, nor does its family. -/
def TailBlind (plan : State → Posting → Plan) : Prop := ∀ s w p,
  (plan (s.tailed w) p).first = (plan s p).first ∧
    (plan (s.tailed w) p).more (s.tailed w) = (plan s p).more s ∧
    (plan (s.tailed w) p).verdict (s.tailed w) = (plan s p).verdict s

theorem State.tailed_anyFails (s : State) (w : Word) (rs : List RecordId) :
    (s.tailed w).anyFails rs = s.anyFails rs := by
  simp only [State.anyFails]
  congr 1

theorem TailBlind.judged {plan : State → Posting → Plan} (blind : TailBlind plan) (w : Word) :
    (s.tailed w).judged k (plan (s.tailed w) p) = s.judged k (plan s p) := by
  obtain ⟨first, more, verdict⟩ := blind s w p
  simp only [State.judged, State.modeJudged, first, more, verdict, State.tailed_anyFails]
  rfl

theorem TailBlind.judgedGuard {plan : State → Posting → Plan} (blind : TailBlind plan) (w : Word) :
    (s.tailed w).judgedGuard (plan (s.tailed w) p) = s.judgedGuard (plan s p) := by
  obtain ⟨first, more, -⟩ := blind s w p
  simp only [State.judgedGuard, first, more, State.tailed_anyFails]
  rfl

/-- The row of every kind but FORMAT's: its plan is steady under the guard and blind to the tail. -/
theorem row_plan {i : Instr} (row : k.row = some i) (notFormat : k ≠ .format) :
    ∃ plan : State → Posting → Plan, (∀ s, exec i s = .next (s.applyRow k (plan s))) ∧
      (∀ s p, (plan s p).Steady s) ∧ TailBlind plan ∧ (k ≠ .dayClose → ∀ s p, (plan s p).verdict s ≠ .close) := by
  have judges {checks : List (Bool × Reason)} {images : List Image} {nextLot : Word} {value : Option Word} :
      checked checks (.accept images nextLot value) ≠ .close := by
    unfold checked
    split <;> nofun
  cases k with
  | format => exact absurd rfl notFormat
  | dayClosed => cases row
  | land =>
    cases row
    exact ⟨State.landPlan, fun _ => rfl, fun s p g a => ⟨rfl, rfl⟩, fun s w p => ⟨rfl, rfl, rfl⟩,
      fun _ s p => judges⟩
  | dayClose =>
    cases row
    exact ⟨fun _ => dayClosePlan, fun _ => rfl, fun s p g a => ⟨rfl, rfl⟩, fun s w p => ⟨rfl, rfl, rfl⟩,
      fun h => absurd rfl h⟩
  | _ =>
    cases row
    exact ⟨fun _ => _, fun _ => rfl, fun s p g a => ⟨rfl, rfl⟩, fun s w p => ⟨rfl, rfl, rfl⟩,
      fun _ s p => judges⟩

/-! ## The wait -/

/-- The command leaves the engine in JOURNAL_WAIT with the posting's entry as its work, the entry that it would
have had written with another tail (R44, R45). -/
def WaitsWith (i : Instr) (s : State) (p : Posting) : Prop :=
  ∃ (d : Due) (g : List RecordId) (a : Arbiter), d.posting = p ∧ .engine ∈ g ∧
    exec i s = .next (({ s with
      arbiter := a
      engine := { s.engine with state := .journalWait, work := .due d, guard := g } }).raise .journalFull) ∧
    ∀ w : Word, s.engine.copy.head - w ≠ 256#32 →
      exec i (s.tailed w) = .next ((s.tailed w).writeDueEntry d)

/-- An entry due whatever the tail waits in a full journal, and is written in any other. -/
theorem waitsWith_of_due {i : Instr} (full : s.journalFull = true) {d : Due} {g : List RecordId} {a : Arbiter}
    (posting : d.posting = p) (engine : RecordId.engine ∈ g)
    (comes : exec i s = .next ((s.under g a).entryDue d))
    (tailed : ∀ w, exec i (s.tailed w) = .next (((s.tailed w).under g a).entryDue d)) : WaitsWith i s p := by
  refine ⟨d, g, a, posting, engine, comes.trans (congrArg _ (if_pos full)), fun w room => ?_⟩
  have free : ((s.tailed w).under g a).journalFull = false := beq_eq_false_iff_ne.mpr room
  rw [tailed w, State.entryDue, free, if_neg Bool.false_ne_true]
  exact congrArg _ (State.under_writeDueEntry _ g a d)

theorem State.applyRow_hand {plan : Posting → Plan} (hand : s.inHand k = some p) :
    s.applyRow k plan = s.applyPlan p k (plan p) := by
  simp only [State.applyRow, hand]

section
variable (fmt : s.isFormatted = true) (full : s.journalFull = true)
include fmt full

/-- A posting in hand that is not judged a close waits, applied or refused (R44). -/
theorem row_waits (due : ∀ b : Fin 6, (s.bay b).writeDue = false) {i : Instr}
    {plan : State → Posting → Plan} (row : ∀ s, exec i s = .next (s.applyRow k (plan s)))
    (steady : ∀ s p, (plan s p).Steady s) (blind : TailBlind plan) (hand : s.inHand k = some p)
    (notClose : s.judged k (plan s p) ≠ .close) : WaitsWith i s p := by
  obtain ⟨d, h⟩ : ∃ d, (s.judged k (plan s p)).due s p = some d := by
    cases e : s.judged k (plan s p) with
    | refuse r => exact ⟨_, rfl⟩
    | accept images nextLot value => exact ⟨_, rfl⟩
    | close => exact absurd e notClose
  refine waitsWith_of_due full (Verdict.due_posting h) (s.engine_mem_judgedGuard (plan s p))
    (a := ⟨.office, .cache⟩) ?_ fun w => ?_
  · rw [row, State.applyRow_hand hand, State.applyPlan_due fmt due (steady s p) h]
  · have h' : ((s.tailed w).judged k (plan (s.tailed w) p)).due (s.tailed w) p = some d := by
      rw [blind.judged]
      exact h
    rw [row, State.applyRow_hand (s := s.tailed w) hand,
      State.applyPlan_due (s := s.tailed w) fmt due (steady _ p) h', blind.judgedGuard]

/-- FORMAT refused waits (R31). -/
theorem format_waits (hand : s.inHand .format = some p)
    (refused : s.engine.mode = .trading ∨ ∃ b : Fin 6, (s.bay b).copy.state ≠ bayIdle) :
    WaitsWith .format s p := by
  obtain ⟨r, refusal⟩ : ∃ r, s.formatRefusal = some r := by
    cases mode : s.engine.mode with
    | trading => exact ⟨.hallTrading, by simp [State.formatRefusal, mode, modeRefusal, firstFail]⟩
    | setup =>
      have busy : s.baysIdle = false := by
        rw [Bool.eq_false_iff, Ne, State.baysIdle_eq_true]
        exact not_forall.2 (refused.resolve_left (by rw [mode]; nofun))
      exact ⟨.bayBusy, by simp [State.formatRefusal, mode, modeRefusal, PostKind.inSetup, firstFail, busy]⟩
  have applied (u : State) (fmt : u.isFormatted = true) (hand : u.inHand .format = some p)
      (refusal : u.formatRefusal = some r) : exec .format u = .next
        ((u.under (distinct (u.engine.guard ++ [.engine])) u.arbiter).entryDue (p.refusal u r)) := by
    have row : u.formatRow = u.applyFormat p undisturbed := by simp only [State.formatRow, hand]
    refine congrArg Host.Outcome.next (row.trans ?_)
    simp only [State.applyFormat, refusal, fmt, if_true]
    rfl
  exact waitsWith_of_due full (d := p.refusal s r) rfl (mem_distinct.mpr (by simp)) (applied s fmt hand refusal)
    fun w => applied (s.tailed w) fmt hand refusal

/-- A posting of an unknown kind waits with its refusal (R12, R17). -/
theorem unknownKind_waits (applying : s.engine.state = .applying) (taken : s.engine.work = .taken p)
    (unknown : p.kindOf = none) : WaitsWith .unknownKind s p := by
  have applied (u : State) (fmt : u.isFormatted = true) (applying : u.engine.state = .applying)
      (taken : u.engine.work = .taken p) : exec .unknownKind u = .next
        ((u.under (distinct (u.engine.guard ++ [.engine])) ⟨.office, .cache⟩).entryDue
          (p.refusal u (if u.recordFails .engine then .storeError else .unknownKind))) := by
    refine congrArg Host.Outcome.next ((State.unknownRow_applies applying taken unknown).trans ?_)
    simp only [State.applyUnknown, fmt, if_true]
    rfl
  exact waitsWith_of_due full (d := p.refusal s _) rfl (mem_distinct.mpr (by simp)) (applied s fmt applying taken)
    fun w => applied (s.tailed w) fmt applying taken

end

theorem dayClosePlan_verdict (p : Posting) (s : State) : (dayClosePlan p).verdict s =
    checked [(p.params.w0 != 0, .badValue), (p.params.w0 == s.engine.copy.day, .dayMismatch)] .close := rfl

/-- A DAY_CLOSE that SETUP refuses, or whose day is not the engine's, is no close (R183). -/
theorem dayClose_not_close
    (h : s.engine.mode = .setup ∨ p.params.w0 = 0 ∨ p.params.w0 ≠ s.engine.copy.day) :
    s.judged .dayClose (dayClosePlan p) ≠ .close := by
  have judged : s.modeJudged .dayClose (dayClosePlan p) ≠ .close := by
    unfold State.modeJudged
    rcases h with setup | zero | other
    · rw [setup]
      nofun
    · split
      · nofun
      · rw [dayClosePlan_verdict, zero, checked_refuses (r := .badValue) rfl]
        nofun
    · split
      · nofun
      · rw [dayClosePlan_verdict, beq_false_of_ne other]
        cases p.params.w0 != 0 with
        | false => nofun
        | true => nofun
  unfold State.judged
  split
  · nofun
  · split
    · nofun
    · exact judged

end Sys2Proof.Machine
end

section
/-! A close that finds the journal full waits with its first entry (R186, R188, R190, R192): what it has written by
then lies in the engine record, or in the accounts that phase C rolls. -/

namespace Sys2Proof.Machine

/-! ## Writes outside which nothing changes, cut off or not -/

/-- A written word changes no byte and no parity outside it, even where a reset cuts it off (log 8). -/
theorem Memory.putWord_outside (m : Memory) {a x : Nat} (w : Word) (hx : x < a ∨ a + 4 ≤ x) :
    (m.putWord a w).byte x = m.byte x ∧ (x ∈ (m.putWord a w).bad ↔ x ∈ m.bad) := by
  have replaced : (m.replace a 4 (cellsFrom a (wordBytes w))).byte x = m.byte x ∧
      (x ∈ (m.replace a 4 (cellsFrom a (wordBytes w))).bad ↔ x ∈ m.bad) := by
    refine ⟨Memory.byte_replace_outside m (fun c hc => cellsFrom_mem hc) hx, ?_⟩
    simp only [Memory.replace, List.mem_filter, Bool.or_eq_true, decide_eq_true_eq]
    exact ⟨And.left, fun h => ⟨h, hx⟩⟩
  simp only [Memory.putWord, Memory.putBytes, Memory.splice, wordBytes_length]
  split
  · exact replaced
  · exact ⟨rfl, Iff.rfl⟩
  · exact replaced

theorem Memory.putAll_outside (m : Memory) {ws : List (Nat × Word)} {x : Nat}
    (hx : ∀ w ∈ ws, x < w.1 ∨ w.1 + 4 ≤ x) :
    (m.putAll ws).byte x = m.byte x ∧ (x ∈ (m.putAll ws).bad ↔ x ∈ m.bad) := by
  induction ws generalizing m with
  | nil => exact ⟨rfl, Iff.rfl⟩
  | cons w ws ih =>
    obtain ⟨byte, bad⟩ := ih (m.putWord w.1 w.2) fun v hv => hx v (by simp [hv])
    obtain ⟨byte', bad'⟩ := m.putWord_outside w.2 (hx w (by simp))
    exact ⟨byte.trans byte', bad.trans bad'⟩

/-- A write of a store without a bad byte leaves none (R21). -/
theorem Memory.putAll_clean {m : Memory} (clean : m.bad = []) (ws : List (Nat × Word)) : (m.putAll ws).bad = [] := by
  induction ws generalizing m with
  | nil => exact clean
  | cons w ws ih =>
    refine ih ?_
    simp only [Memory.putWord, Memory.putBytes, Memory.splice]
    split
    · simp [Memory.replace, clean]
    · exact clean
    · simp [Memory.replace, clean]

/-- Steps that change no byte and no parity outside the engine record. -/
structure OffEngine (s t : State) : Prop where
  profile : t.profile = s.profile
  kept : ∀ x : Nat, ¬ s.engineRange x → t.store.byte x = s.store.byte x ∧ (x ∈ t.store.bad ↔ x ∈ s.store.bad)

namespace OffEngine

variable {s t : State} (h : OffEngine s t)
include h

theorem base (b : Fin 7) : t.base b = s.base b := by simp only [State.base, h.profile]

theorem word {a : Nat} (apart : a + 4 ≤ s.engineAddr ∨ s.engineAddr + 16 ≤ a) :
    t.store.word a = s.store.word a := by
  have byte (k : Nat) (hk : k < 4) := (h.kept (a + k) (by unfold State.engineRange; omega)).1
  have zero := byte 0 (by decide)
  simp only [Nat.add_zero] at zero
  simp only [Memory.word, zero, byte 1 (by decide), byte 2 (by decide), byte 3 (by decide)]

theorem words {a n : Nat} (apart : a + 4 * n ≤ s.engineAddr ∨ s.engineAddr + 16 ≤ a) :
    t.store.words a n = s.store.words a n := by
  induction n generalizing a with
  | zero => rfl
  | succ n ih => rw [Memory.words, Memory.words, h.word (by omega), ih (by omega)]

theorem failing {a n : Nat} (apart : a + n ≤ s.engineAddr ∨ s.engineAddr + 16 ≤ a) :
    t.store.failing a n = s.store.failing a n := by
  have bad (x : Nat) (low : a ≤ x) (high : x < a + n) := (h.kept x (by unfold State.engineRange; omega)).2
  rw [Bool.eq_iff_iff]
  simp only [Memory.failing, List.any_eq_true, Bool.and_eq_true, decide_eq_true_eq]
  constructor
  · rintro ⟨x, mem, low, high⟩
    exact ⟨x, (bad x low high).mp mem, low, high⟩
  · rintro ⟨x, mem, low, high⟩
    exact ⟨x, (bad x low high).mpr mem, low, high⟩

variable {r : Profile} (profile : s.profile = some r) (valid : r.isValid = true)
include profile valid

omit h in
/-- A record of another book lies off the engine record (R201). -/
theorem apart_of_book {b : Fin 7} (other : b ≠ 0) {a n : Nat} (low : s.base b ≤ a)
    (high : a + n ≤ s.base b + bookLimit b) : a + n ≤ s.engineAddr ∨ s.engineAddr + 16 ≤ a := by
  have limit : bookLimit 0 = 4096 := rfl
  have := State.books_apart profile valid other
  simp only [State.engineAddr]
  omega

theorem lot {slot : Nat} (hs : slot < 2048) : t.lot slot = s.lot slot := by
  have limit : bookLimit 2 = 131072 := rfl
  have apart := apart_of_book profile valid (b := 2) (by decide) (a := s.lotAddr slot) (n := 64)
    (by simp only [State.lotAddr]; omega) (by simp only [State.lotAddr]; omega)
  have place : t.lotAddr slot = s.lotAddr slot := by simp only [State.lotAddr, h.base]
  rw [State.lot, State.lot, place, h.words apart]

theorem recordFails_lot {slot : Nat} (hs : slot < 2048) : t.recordFails (.lot slot) = s.recordFails (.lot slot) := by
  have limit : bookLimit 2 = 131072 := rfl
  have apart := apart_of_book profile valid (b := 2) (by decide) (a := s.lotAddr slot) (n := 64)
    (by simp only [State.lotAddr]; omega) (by simp only [State.lotAddr]; omega)
  have place : t.lotAddr slot = s.lotAddr slot := by simp only [State.lotAddr, h.base]
  simp only [State.recordFails, State.recordSpan, place, h.failing apart]

theorem recordFails_account {n : Nat} (hn : n < 256) : t.recordFails (.account n) = s.recordFails (.account n) := by
  have limit : bookLimit 1 = 16384 := rfl
  have apart := apart_of_book profile valid (b := 1) (by decide) (a := s.accountAddr n) (n := 64)
    (by simp only [State.accountAddr]; omega) (by simp only [State.accountAddr]; omega)
  have place : t.accountAddr n = s.accountAddr n := by simp only [State.accountAddr, h.base]
  simp only [State.recordFails, State.recordSpan, place, h.failing apart]

theorem recordFails_crate {k : Nat} (hk : k < 4096) : t.recordFails (.crate k) = s.recordFails (.crate k) := by
  have limit : bookLimit 3 = 65536 := rfl
  have apart := apart_of_book profile valid (b := 3) (by decide) (a := s.crateAddr k) (n := 16)
    (by simp only [State.crateAddr]; omega) (by simp only [State.crateAddr]; omega)
  have place : t.crateAddr k = s.crateAddr k := by simp only [State.crateAddr, h.base]
  simp only [State.recordFails, State.recordSpan, place, h.failing apart]

/-- The reads of a lot's boat and crates. -/
theorem anyFails_lot (l : LotRecord) :
    t.anyFails (.account l.boat.toNat :: crateIds l.crates) =
      s.anyFails (.account l.boat.toNat :: crateIds l.crates) := by
  have crates (ks : List (BitVec 12)) : t.anyFails (crateIds ks) = s.anyFails (crateIds ks) := by
    induction ks with
    | nil => rfl
    | cons k ks ih =>
      have split (u : State) : u.anyFails (crateIds (k :: ks)) =
          (u.recordFails (.crate k.toNat) || u.anyFails (crateIds ks)) := rfl
      rw [split, split, ih, h.recordFails_crate profile valid k.isLt]
  have split (u : State) : u.anyFails (.account l.boat.toNat :: crateIds l.crates) =
      (u.recordFails (.account l.boat.toNat) || u.anyFails (crateIds l.crates)) := rfl
  rw [split, split, crates, h.recordFails_account profile valid l.boat.isLt]

end OffEngine

/-! ## Phase B up to its first entry -/

/-- The close that a DAY_CLOSE posting begins is under way from `s`, and has written the engine record alone. -/
structure Walking (s u : State) : Prop where
  part : u.part = s.part
  off : OffEngine s u
  copy : u.engine.copy = { s.engine.copy with dayState := dayClosing }
  tail : u.engine.tail = s.engine.tail
  clean : s.store.bad = [] → u.store.bad = []

/-- The guard of a step of phase B on a lot with its boat and crates (R184, R186). -/
def State.lotGuarded (u : State) (slot : Nat) (l : LotRecord) : State :=
  ((u.withGuard [.engine, .lot slot]).granted (.inner .engine)).withGuard
    (distinct ([.engine, .lot slot] ++ .account l.boat.toNat :: crateIds l.crates))

theorem State.lotGuarded_eq (u : State) (slot : Nat) (l : LotRecord) :
    ((u.withGuard [.engine, .lot slot]).granted (.inner .engine)).placeGuard
      (.account l.boat.toNat :: crateIds l.crates) = u.lotGuarded slot l := by
  show (State.settleDue _ (crateIds l.crates)).withGuard _ = _
  rw [State.settleDue_crates]
  rfl

namespace Walking

variable {s u : State} (h : Walking s u)
include h

/-- A step that moves the guard and the arbiter alone. -/
theorem guarded (g : List RecordId) (who : Grantee) : Walking s ((u.withGuard g).granted who) :=
  ⟨h.part, ⟨h.off.profile, h.off.kept⟩, h.copy, h.tail, h.clean⟩

theorem withGuard (g : List RecordId) : Walking s (u.withGuard g) :=
  ⟨h.part, ⟨h.off.profile, h.off.kept⟩, h.copy, h.tail, h.clean⟩

theorem full (wait : s.journalFull = true) : u.journalFull = true := by
  simpa only [State.journalFull, h.copy, h.tail] using wait

variable {r : Profile} (profile : s.profile = some r) (valid : r.isValid = true)
include profile valid

/-- Phase B passes the lots that read well and do not stand on the floor (R185). -/
theorem withdrawLots_pass (c : CloseWork) {n : Nat} (hn : n ≤ 2048)
    (quiet : ∀ j : Nat, j < n → s.recordFails (.lot j) = false ∧ (s.lot j).state ≠ lotOnFloor)
    (held : u.engine.guard = [.engine]) :
    ∃ v, u.withdrawLots c undisturbed 2048 = v.withdrawLots c undisturbed (2048 - n) ∧ Walking s v ∧
      v.engine.guard = [.engine] := by
  induction n with
  | zero => exact ⟨u, rfl, h, held⟩
  | succ n ih =>
    obtain ⟨v, run, walking, -⟩ := ih (by omega) fun j hj => quiet j (by omega)
    have guarded := walking.guarded [.engine, .lot n] (.inner .engine)
    obtain ⟨reads, state⟩ := quiet n (Nat.lt_succ_self n)
    refine ⟨((v.withGuard [.engine, .lot n]).granted (.inner .engine)).releaseStep, ?_, guarded.withGuard _, rfl⟩
    rw [run, show 2048 - n = (2047 - n) + 1 by omega, State.withdrawLots,
      show 2047 - (2047 - n) = n by omega, show 2048 - (n + 1) = 2047 - n by omega]
    dsimp only
    rw [guarded.off.recordFails_lot profile valid (by omega), reads, if_neg Bool.false_ne_true,
      guarded.off.lot profile valid (by omega), if_neg state]

end Walking

/-- What a close that waits leaves (R44, R186, R188, R190). -/
structure CloseWaiting (s : State) (c : CloseWork) (due : CloseDue) (g : List RecordId) (t : State) : Prop where
  state : t.engine.state = .journalWait
  work : t.engine.work = .close c due
  copy : t.engine.copy = { s.engine.copy with dayState := dayClosing }
  noticed : t.noticed .journalFull = true
  guard : ∀ x ∈ g, x ∈ t.engine.guard

/-- The entry of a running part's close waits in a full journal. -/
theorem Walking.waits {s u : State} (h : Walking s u) {c : CloseWork} (due : CloseDue) {g : List RecordId}
    (guard : ∀ x ∈ g, x ∈ u.engine.guard) : CloseWaiting s c due g (u.waitForJournal (.close c due)) :=
  ⟨rfl, rfl, h.copy, State.raise_noticed _ _, guard⟩

theorem Walking.waits_store {s u : State} (h : Walking s u) (w : Work) {x : Nat} (off : ¬ s.engineRange x) :
    (u.waitForJournal w).store.byte x = s.store.byte x := (h.off.kept x off).1

section
variable {s u : State} (h : Walking s u) (running : s.part = .running) (wait : s.journalFull = true)
include h running wait

theorem Walking.strikeClose (c : CloseWork) : u.strikeClose c = u.waitForJournal (.close c .struck) := by
  rw [State.strikeClose, h.part, running, if_neg (by nofun), h.full wait, if_pos rfl]

omit wait in
theorem Walking.holdClose (c : CloseWork) (due : CloseDue) :
    u.holdClose c due = u.waitForJournal (.close c due) := by
  rw [State.holdClose, h.part, running, if_neg (by nofun)]

variable {r : Profile} (profile : s.profile = some r) (valid : r.isValid = true)
include profile valid

/-- A struck lot, or a struck boat or crate of a lot on the floor, has the refused entry wait (R190). -/
theorem Walking.withdrawLots_struck (c : CloseWork) {slot : Nat} (hs : slot < 2048)
    (struck : s.recordFails (.lot slot) = true ∨ ((s.lot slot).state = lotOnFloor ∧
      s.anyFails (.account (s.lot slot).boat.toNat :: crateIds (s.lot slot).crates) = true)) :
    ∃ t, u.withdrawLots c undisturbed (2048 - slot) = t ∧ CloseWaiting s c .struck [.engine, .lot slot] t ∧
      ∀ x : Nat, ¬ s.engineRange x → t.store.byte x = s.store.byte x := by
  have guarded := h.guarded [.engine, .lot slot] (.inner .engine)
  have fails := guarded.off.recordFails_lot profile valid hs
  have lot := guarded.off.lot profile valid hs
  refine ⟨_, rfl, ?_⟩
  rw [show 2048 - slot = (2047 - slot) + 1 by omega, State.withdrawLots, show 2047 - (2047 - slot) = slot by omega]
  dsimp only
  rw [fails, lot]
  cases read : s.recordFails (.lot slot) with
  | true =>
    rw [if_pos rfl, guarded.strikeClose running wait]
    exact ⟨guarded.waits _ fun x hx => hx, fun x off => guarded.waits_store _ off⟩
  | false =>
    obtain ⟨floor, more⟩ := struck.resolve_left (by rw [read]; exact Bool.false_ne_true)
    have placed : Walking s (u.lotGuarded slot (s.lot slot)) := guarded.withGuard _
    rw [if_neg Bool.false_ne_true, if_pos floor, State.lotGuarded_eq]
    rw [placed.off.anyFails_lot profile valid, more, if_pos rfl, placed.strikeClose running wait]
    exact ⟨placed.waits _ fun x hx => mem_distinct.mpr (List.mem_append_left _ hx),
      fun x off => placed.waits_store _ off⟩

/-- A lot on the floor that reads well has its withdrawal wait (R186). -/
theorem Walking.withdrawLots_floor (c : CloseWork) {slot : Nat} (hs : slot < 2048)
    (read : s.recordFails (.lot slot) = false) (floor : (s.lot slot).state = lotOnFloor)
    (more : s.anyFails (.account (s.lot slot).boat.toNat :: crateIds (s.lot slot).crates) = false) :
    ∃ t e, u.withdrawLots c undisturbed (2048 - slot) = t ∧
      CloseWaiting s c (.withdrawal slot e)
        ([.engine, .lot slot] ++ .account (s.lot slot).boat.toNat :: crateIds (s.lot slot).crates) t ∧
      e.kind = PostKind.withdraw.code ∧ e.params.w0 = (s.lot slot).number ∧
      ∀ x : Nat, ¬ s.engineRange x → t.store.byte x = s.store.byte x := by
  have guarded := h.guarded [.engine, .lot slot] (.inner .engine)
  have fails := guarded.off.recordFails_lot profile valid hs
  have lot := guarded.off.lot profile valid hs
  have placed : Walking s (u.lotGuarded slot (s.lot slot)) := guarded.withGuard _
  have run : u.withdrawLots c undisturbed (2048 - slot) =
      (u.lotGuarded slot (s.lot slot)).waitForJournal (.close c (.withdrawal slot
        (c.withdrawal (s.lot slot).number
          ((u.lotGuarded slot (s.lot slot)).withdrawImages slot withdrawnByClose)))) := by
    rw [show 2048 - slot = (2047 - slot) + 1 by omega, State.withdrawLots,
      show 2047 - (2047 - slot) = slot by omega]
    dsimp only
    rw [fails, lot, read, if_neg Bool.false_ne_true, if_pos floor, State.lotGuarded_eq,
      placed.off.anyFails_lot profile valid, more, if_neg Bool.false_ne_true, placed.full wait, if_pos rfl,
      placed.holdClose running]
  exact ⟨_, _, run, placed.waits _ fun x hx => mem_distinct.mpr hx, rfl, rfl,
    fun x off => placed.waits_store _ off⟩

end

/-! ## Phase C, and the DAY_CLOSED entry -/

/-- A close in phase C, with a good store: only accounts and its counts move. -/
structure Rolling (s u : State) : Prop where
  part : u.part = s.part
  copy : u.engine.copy = { s.engine.copy with dayState := dayClosing }
  tail : u.engine.tail = s.engine.tail
  clean : u.store.bad = []
  guard : u.engine.guard = [.engine]

/-- Phase C of a close whose journal is full: the DAY_CLOSED entry waits, with what the accounts came to. -/
theorem Rolling.rollAccounts {s u : State} (h : Rolling s u) (running : s.part = .running)
    (wait : s.journalFull = true) (n : Nat) (c : CloseWork) :
    ∃ sold, CloseWaiting s { c with sold := sold } .finish [.engine] (u.rollAccounts c n) := by
  induction n generalizing u c with
  | zero =>
    have full : u.journalFull = true := by simpa only [State.journalFull, h.copy, h.tail] using wait
    rw [State.rollAccounts, State.finishClose, full, if_pos rfl, State.holdClose, h.part, running,
      if_neg (by nofun)]
    exact ⟨c.sold, rfl, rfl, h.copy, State.raise_noticed _ _, fun x hx => h.guard ▸ hx⟩
  | succ n ih =>
    have reads : ((u.withGuard [.engine, .account (255 - n)]).granted (.inner .engine)).rollReadFails (255 - n) =
        false := by
      simp [State.rollReadFails, Memory.failing, h.clean]
    have released (ws : List (Nat × Word)) : Rolling s
        ((((u.withGuard [.engine, .account (255 - n)]).granted (.inner .engine)).write (.inner .engine)
          ws).releaseStep) :=
      ⟨h.part, h.copy, h.tail, Memory.putAll_clean h.clean ws, rfl⟩
    have passed : Rolling s
        (((u.withGuard [.engine, .account (255 - n)]).granted (.inner .engine)).releaseStep) :=
      ⟨h.part, h.copy, h.tail, h.clean, rfl⟩
    rw [State.rollAccounts]
    dsimp only
    rw [reads, if_neg Bool.false_ne_true]
    split
    · obtain ⟨sold, waiting⟩ := ih (released _) { c with sold := c.sold + AccountImage.soldBy _ }
      exact ⟨sold, waiting⟩
    · exact ih passed c

/-- A close of a good store without a lot on the floor comes to its DAY_CLOSED entry (R188). -/
theorem Walking.finish {s u : State} (h : Walking s u) (running : s.part = .running)
    (wait : s.journalFull = true) {r : Profile} (profile : s.profile = some r) (valid : r.isValid = true)
    (held : u.engine.guard = [.engine]) (clean : s.store.bad = [])
    (empty : ∀ j : Nat, j < 2048 → (s.lot j).state ≠ lotOnFloor) (c : CloseWork) :
    ∃ sold, CloseWaiting s { c with sold := sold } .finish [.engine] (u.withdrawLots c undisturbed 2048) := by
  obtain ⟨v, run, walking, guard⟩ := h.withdrawLots_pass profile valid c (Nat.le_refl _)
    (fun j hj => ⟨by simp [State.recordFails, Memory.failing, clean], empty j hj⟩) held
  rw [run]
  exact Rolling.rollAccounts ⟨walking.part, walking.copy, walking.tail, walking.clean clean, guard⟩ running wait
    256 c

/-! ## DAY_CLOSE -/

section
variable {s : State} {p : Posting} {r : Profile}

/-- A DAY_CLOSE of the engine's day, in TRADING, with a good engine record, begins its close (R183, R184). -/
theorem exec_dayClose_begins (fmt : s.isFormatted = true) (due : ∀ b : Fin 6, (s.bay b).writeDue = false)
    (hand : s.inHand .dayClose = some p) (trading : s.engine.mode = .trading)
    (day : p.params.w0 = s.engine.copy.day) (given : p.params.w0 ≠ 0) (reads : s.recordFails .engine = false) :
    ∃ u, exec .dayClose s = .next (u.withdrawLots (s.newClose p) undisturbed 2048) ∧ Walking s u ∧
      u.engine.guard = [.engine] := by
  have judged : s.judged .dayClose (dayClosePlan p) = .close := by
    have good : s.anyFails [.engine] = false := by simp [State.anyFails, reads]
    have verdict : (dayClosePlan p).verdict s = .close := by
      rw [dayClosePlan_verdict]
      exact checked_accepts (by simpa [firstFail, ← day] using given) _
    have mode : s.modeJudged .dayClose (dayClosePlan p) = .close := by
      rw [State.modeJudged, trading, verdict]
      rfl
    have first : (dayClosePlan p).first = [] := rfl
    have more : (dayClosePlan p).more s = [] := rfl
    rw [State.judged, first, more, good, mode]
    rfl
  have applied : s.applyRow .dayClose dayClosePlan =
      (s.under (s.judgedGuard (dayClosePlan p)) ⟨.office, .cache⟩).beginClose (s.newClose p) undisturbed := by
    rw [State.applyRow_hand hand, State.applyPlan, State.examine_eq fmt due fun _ _ => ⟨rfl, rfl⟩, judged]
    rfl
  refine ⟨_, congrArg Host.Outcome.next applied, ⟨rfl, ⟨rfl, fun x off => ?_⟩, rfl, rfl, fun clean => ?_⟩, rfl⟩
  · refine Memory.putAll_outside _ fun w hw => ?_
    have range := engineWrites_range hw
    have place : (s.under (s.judgedGuard (dayClosePlan p)) ⟨.office, .cache⟩).engineAddr = s.engineAddr := rfl
    rw [place] at range
    unfold State.engineRange at off
    omega
  · exact Memory.putAll_clean clean _

end

end Sys2Proof.Machine
end

section
/-! The release of JOURNAL_WAIT (R45): the accepted tail write that makes room, and the row that then writes the
entry that waited. -/

namespace Sys2Proof.Machine

variable {s : State}

/-! ## The tail write that makes room -/

/-- An accepted tail write keeps the work and the guard of JOURNAL_WAIT (R45). -/
theorem exec_tailWrite_taken {p : PortId} (own : s.owns p 0) {w : Word}
    (between : (w - s.engine.tail).toNat ≤ (s.engine.copy.head - s.engine.tail).toNat) :
    ∃ t : State, exec (.tailWrite p ⟨w, none⟩) s = .next t ∧
      t.engine = { s.engine with tail := w, state := s.engine.stateAfterTail w } := by
  have accepted : s.tailAccepted w = true := by simpa [State.tailAccepted] using between
  refine ⟨_, exec_tailWrite_alone s p w, ?_⟩
  rw [State.arriveTail_taken own accepted, State.setTail_eq]
  have written : (s.wroteWord p 0 0xA0 w).engine = s.engine := by cases p <;> rfl
  rw [written]

theorem Engine.stateAfterTail_full {e : Engine} {w : Word} (full : e.copy.head - w = 256#32) :
    e.stateAfterTail w = e.state := if_neg fun h => h.2 full

theorem Engine.stateAfterTail_due {e : Engine} {w : Word} (waits : e.state = .journalWait)
    (room : e.copy.head - w ≠ 256#32) {d : Due} (work : e.work = .due d) : e.stateAfterTail w = .applying := by
  rw [Engine.stateAfterTail, if_pos ⟨waits, room⟩, work]

theorem Engine.stateAfterTail_close {e : Engine} {w : Word} (waits : e.state = .journalWait)
    (room : e.copy.head - w ≠ 256#32) {c : CloseWork} {due : CloseDue} (work : e.work = .close c due) :
    e.stateAfterTail w = .closingDay := by
  rw [Engine.stateAfterTail, if_pos ⟨waits, room⟩, work]

/-! ## The row -/

/-- While the engine still waits, or the journal is full, nothing happens (log 1). -/
theorem exec_release_waits (h : s.engine.state = .journalWait ∨ s.journalFull = true) :
    exec .journalWaitRelease s = .next s := congrArg Host.Outcome.next (if_pos h)

/-- The state with no work in hand. -/
def State.unhanded (s : State) : State := { s with engine := { s.engine with work := .none } }

section
variable (out : s.engine.state ≠ .journalWait) (room : s.journalFull = false)
include out room

/-- Out of JOURNAL_WAIT and with a slot free, an entry that waited is written (R45). -/
theorem State.journalRelease_due {d : Due} (work : s.engine.work = .due d) :
    s.journalRelease undisturbed = s.releaseWork undisturbed := by
  simp only [State.journalRelease, out, room, Bool.false_eq_true, or_self, if_false, work]

theorem State.journalRelease_close {c : CloseWork} {due : CloseDue} (work : s.engine.work = .close c due) :
    s.journalRelease undisturbed = s.releaseWork undisturbed := by
  simp only [State.journalRelease, out, room, Bool.false_eq_true, or_self, if_false, work]

theorem exec_release_due {d : Due} (work : s.engine.work = .due d) :
    exec .journalWaitRelease s = .next (s.unhanded.writeDueEntry d) := by
  refine congrArg Host.Outcome.next ?_
  rw [State.journalRelease_due out room work]
  simp only [State.releaseWork, work]
  rfl

theorem exec_release_finish {c : CloseWork} (work : s.engine.work = .close c .finish) :
    exec .journalWaitRelease s = .next (s.unhanded.writeClosed c) := by
  refine congrArg Host.Outcome.next ?_
  rw [State.journalRelease_close out room work]
  simp only [State.releaseWork, work]
  rfl

theorem exec_release_withdrawal {c : CloseWork} {slot : Nat} {e : JournalEntry}
    (work : s.engine.work = .close c (.withdrawal slot e)) :
    exec .journalWaitRelease s = .next ((s.unhanded.writeWithdrawal e).withdrawLots
      { c with lots := c.lots + 1 } undisturbed (2047 - slot)) := by
  refine congrArg Host.Outcome.next ?_
  rw [State.journalRelease_close out room work]
  simp only [State.releaseWork, work]
  rfl

theorem exec_release_struck {c : CloseWork} (work : s.engine.work = .close c .struck) :
    exec .journalWaitRelease s = .next (s.unhanded.writeStruck c) := by
  refine congrArg Host.Outcome.next ?_
  rw [State.journalRelease_close out room work]
  simp only [State.releaseWork, work]
  rfl

end

/-! ## The entries of a close -/

/-- The DAY_CLOSED entry that waited ends its close (R188). -/
theorem State.writeClosed_ends (s : State) (c : CloseWork) :
    (s.writeClosed c).engine.copy = { s.engine.copy with
        head := s.engine.copy.head + 1, day := dayAfter c.day, dayState := dayOpen } ∧
      (s.writeClosed c).engine.guard = [] ∧ (s.writeClosed c).noticed .dayClosed = true ∧
      (c.reports = true → c.source = .desk → (s.writeClosed c).desk.get deskSlot =
        ⟨.applied, none, some s.engine.copy.head, some c.day, false, 0⟩) ∧
      (c.reports = true → c.source = .schedule → (s.writeClosed c).clock.request = .none) := by
  have engine := (s.closedBook c).closeReported_engine c s.engine.copy.head
  have fixtures := (s.closedBook c).closeReported_fixtures c s.engine.copy.head
  have frame := ((s.closedBook c).closeReported c s.engine.copy.head).endPosting_engine_frame
  have stations := State.endPosting_stations ((s.closedBook c).closeReported c s.engine.copy.head)
  rw [engine, State.closedBook_engine] at frame
  rw [State.writeClosed_eq]
  refine ⟨by rw [frame]; rfl, by rw [frame], ?_, fun reports source => ?_, fun reports source => ?_⟩
  · exact stations.noticed _ (fixtures.noticed _ (State.raise_noticed _ _))
  · rw [stations.desk, State.closeReported_desk _ _ _ reports source]
  · rw [stations.clock, State.closeReported_schedule _ _ _ reports source]

/-- The refused entry of a struck step that waited halts its close (R190). -/
theorem State.writeStruck_halts (s : State) (c : CloseWork) :
    (s.writeStruck c).engine.state = .halted ∧
      (s.writeStruck c).engine.halt = some (.close { c with lots := 0, sold := 0, resumed := true }) ∧
      (s.writeStruck c).engine.copy = { s.engine.copy with head := s.engine.copy.head + 1 } ∧
      (s.writeStruck c).engine.guard = [] ∧ (s.writeStruck c).noticed .journal = true ∧
      (s.writeStruck c).noticed .halted = true ∧ (s.writeStruck c).desk = s.desk ∧
      (s.writeStruck c).clock = s.clock := by
  have entry := s.writeEntry_stations (c.closedEntry (some .storeError)) s.engine.copy.step
  have guard := State.withGuard_stations (s.writeEntry (c.closedEntry (some .storeError)) s.engine.copy.step) []
  have halt := State.haltAt_stations
    ((s.writeEntry (c.closedEntry (some .storeError)) s.engine.copy.step).withGuard [])
    (.close { c with lots := 0, sold := 0, resumed := true })
  have stations := (entry.trans guard).trans halt
  refine ⟨rfl, rfl, ?_, rfl, ?_, State.raise_noticed _ _, stations.desk, stations.clock⟩
  · simp only [State.writeStruck, State.haltClose, State.haltAt, State.raise_engine, State.withGuard_engine,
      State.writeEntry_engine, EngineRecord.step]
  · exact halt.noticed _ (guard.noticed _ (State.raise_noticed _ _))

/-! ## The obligation -/

theorem State.judged_not_close {k : PostKind} {plan : Plan} (never : plan.verdict s ≠ .close) :
    s.judged k plan ≠ .close := by
  unfold State.judged State.modeJudged
  split
  · nofun
  · split
    · nofun
    · split
      · nofun
      · exact never

/-- Settles O45: a posting's entry and each of a close's entries waits in a full journal; a tail write ends the
wait, and the row writes what waited. -/
theorem journalWaitAndRelease : Obligations.JournalWaitAndRelease := by
  unfold Obligations.JournalWaitAndRelease
  intro s
  dsimp only
  refine ⟨fun fmt full due => ⟨fun k i p row notFormat hand notClose => ?_, fun p hand refused => ?_,
      fun p applying taken unknown => ?_, fun p r hand trading day given running profile valid reads => ?_⟩,
    fun p w own waits between => ?_, exec_release_waits, fun d applying work room => ?_,
    fun c closing work room => ?_, fun c slot e closing work room => ?_, fun c closing work room => ?_⟩
  · by_cases close : k = .dayClose
    · subst close
      cases row
      exact row_waits (plan := fun _ => dayClosePlan) fmt full due (fun _ => rfl) (fun s p g a => ⟨rfl, rfl⟩)
        (fun s w p => ⟨rfl, rfl, rfl⟩) hand (dayClose_not_close (notClose.resolve_left fun ne => ne rfl))
    · obtain ⟨plan, rows, steady, blind, never⟩ := row_plan row notFormat
      exact row_waits fmt full due rows steady blind hand (State.judged_not_close (never close s p))
  · exact format_waits fmt full hand refused
  · exact unknownKind_waits fmt full applying taken unknown
  · obtain ⟨u, exec, walking, held⟩ := exec_dayClose_begins fmt due hand trading day given reads
    have closes {c : CloseWork} {due : CloseDue} {g : List RecordId} {t : State}
        (run : u.withdrawLots (s.newClose p) undisturbed 2048 = t) (waiting : CloseWaiting s c due g t) :
        Machine.exec .dayClose s = .next t ∧ t.engine.state = .journalWait ∧ t.engine.work = .close c due ∧
          t.engine.copy = { s.engine.copy with dayState := dayClosing } ∧ t.noticed .journalFull = true ∧
          ∀ x ∈ g, x ∈ t.engine.guard :=
      ⟨run ▸ exec, waiting.state, waiting.work, waiting.copy, waiting.noticed, waiting.guard⟩
    refine ⟨fun slot hs quiet => ?_, fun clean empty => ?_⟩
    · obtain ⟨v, passed, reached, -⟩ :=
        walking.withdrawLots_pass profile valid (s.newClose p) (Nat.le_of_lt hs) quiet held
      refine ⟨fun struck => ?_, fun read floor more => ?_⟩
      · obtain ⟨t, run, waiting, store⟩ := reached.withdrawLots_struck running full profile valid _ hs struck
        exact ⟨t, closes (passed.trans run) waiting, store⟩
      · obtain ⟨t, e, run, waiting, kind, number, store⟩ :=
          reached.withdrawLots_floor running full profile valid _ hs read floor more
        exact ⟨t, e, closes (passed.trans run) waiting, kind, number, store⟩
    · obtain ⟨sold, waiting⟩ := walking.finish running full profile valid held clean empty (s.newClose p)
      exact ⟨_, sold, closes rfl waiting⟩
  · obtain ⟨t, exec, engine⟩ := exec_tailWrite_taken own between
    refine ⟨t, exec, by rw [engine], by rw [engine], fun full => ?_, fun room d work => ?_,
      fun room c due work => ?_⟩
    · rw [engine]
      exact (Engine.stateAfterTail_full full).trans waits
    · rw [engine]
      exact Engine.stateAfterTail_due waits room work
    · rw [engine]
      exact Engine.stateAfterTail_close waits room work
  · have out : s.engine.state ≠ .journalWait := by rw [applying]; nofun
    obtain ⟨copy, guard, journal, -⟩ := postingEndFrame s.unhanded d
    obtain ⟨-, -, -, desk, -⟩ := reportsReachStations s.unhanded d
    exact ⟨_, exec_release_due out room work, rfl, copy, guard, journal, fun source => (desk source).1⟩
  · have out : s.engine.state ≠ .journalWait := by rw [closing]; nofun
    exact ⟨_, exec_release_finish out room work, s.unhanded.writeClosed_ends c⟩
  · have out : s.engine.state ≠ .journalWait := by rw [closing]; nofun
    refine ⟨exec_release_withdrawal out room work, ?_, rfl⟩
    simp [State.writeWithdrawal, State.releaseStep, EngineRecord.step]
  · have out : s.engine.state ≠ .journalWait := by rw [closing]; nofun
    exact ⟨_, exec_release_struck out room work, s.unhanded.writeStruck_halts c⟩

end Sys2Proof.Machine
end

section
/-! What an access that arrives at a port comes to (R55, R58, R60): the state of a faulted one, the reads of a
special book, and the checks of a plain book. -/

namespace Sys2Proof.Machine

variable {s : State} {p : PortId}

/-! ## Faulted accesses -/

/-- The state of a faulted access, as the statements spell it (R60). -/
theorem State.faultAccess_eq_faulted (s : State) (p : PortId) (a : Access) (r : FaultReason) :
    s.faultAccess p a r = s.faulted p a r := by
  unfold State.faultAccess State.latchFault State.faulted
  cases latched : s.fault.latched with
  | none => rfl
  | some i => simp only [reduceCtorEq, if_false]

/-! ## Arrival -/

theorem bookLimit_le : ∀ book : Fin 7, bookLimit book ≤ 131072 := by decide

/-- An access to a special book at a free port of a RUNNING part is checked at once. -/
theorem State.arrive_checkSpecial (idle : s.idlePort p) {a : Access} (special : (addrBook a.addr).toNat < 7) :
    s.arrive p a = s.checkSpecial p ⟨(addrBook a.addr).toNat, special⟩ a := by
  obtain ⟨running, free⟩ := idle
  simp only [State.arrive, free, running, if_true, State.checkAccess, State.setWait_free free, dif_pos special]

/-- An access to a plain book at a free port of a RUNNING part goes to the cache at once (R63). -/
theorem State.arrive_plain (idle : s.idlePort p) {a : Access} (plain : 7 ≤ (addrBook a.addr).toNat) :
    s.arrive p a = s.plainAccess p (addrBook a.addr) a := by
  obtain ⟨running, free⟩ := idle
  simp only [State.arrive, free, running, if_true, State.checkAccess, State.setWait_free free,
    dif_neg (Nat.not_lt.2 plain)]

theorem State.checkSpecial_fails {book : Fin 7} {a : Access} {r : FaultReason}
    (fails : firstFail (s.specialChecks (s.side p) book a) = some r) :
    s.checkSpecial p book a = s.faultAccess p a r := by
  simp only [State.checkSpecial, fails]

theorem State.checkSpecial_read {book : Fin 7} {a : Access}
    (passes : firstFail (s.specialChecks (s.side p) book a) = none) (read : a.write = none) :
    s.checkSpecial p book a = s.readSpecial p book a := by
  simp only [State.checkSpecial, passes, read]

/-- A read that lies in its book, aligned, passes its checks, whichever port makes it (R56). -/
theorem State.specialChecks_read {d : Side} {book : Fin 7} {a : Access} (read : a.write = none)
    (limit : a.offset + sizeBytes a.size ≤ bookLimit book) (aligned : a.offset % sizeBytes a.size = 0) :
    firstFail (s.specialChecks d book a) = none := by
  simp [State.specialChecks, firstFail, read, Access.isWrite, Access.aligned, limit, aligned]

/-- A read of a special book, as an operand spells it, is accepted. -/
theorem State.read_arrives {book : Fin 7} {b off : Nat} {size : Size} (hb : book.val = b) (idle : s.idlePort p)
    (limit : off + sizeBytes size ≤ bookLimit book) (aligned : off % sizeBytes size = 0) :
    s.arrive p ⟨portAddr b off, size, none⟩ = s.readSpecial p book ⟨portAddr b off, size, none⟩ := by
  subst hb
  have positive : 0 < sizeBytes size := by cases size <;> decide
  have offset : (⟨portAddr book off, size, none⟩ : Access).offset = off :=
    addrOffset_portAddr _ _ (by have := bookLimit_le book; omega)
  rw [State.arrive_special idle, State.checkSpecial_read _ rfl]
  exact State.specialChecks_read rfl (by rw [offset]; exact limit) (by rw [offset]; exact aligned)

/-! ## Reads of the special books -/

/-- A read of a live word but the clock's is answered at once (R68). -/
theorem State.readSpecial_live {book : Fin 7} {a : Access} {v : Word}
    (live : s.liveWord (specialWordAt book a.offset) = some v)
    (date : specialWordAt book a.offset ≠ .clockDate) (time : specialWordAt book a.offset ≠ .clockTime) :
    s.readSpecial p book a = s.answer p (.data (piece v a.offset a.size)) := by
  simp only [State.readSpecial, live]

/-- A latching read makes the snapshot invalid and goes to the store (R72, log 39). -/
theorem State.readSpecial_latching {book : Fin 7} {a : Access}
    (stored : s.liveWord (specialWordAt book a.offset) = none) (latching : isLatching book a = true) :
    s.readSpecial p book a = (s.dropSnapshot p).guardedRead p book a := by
  unfold State.readSpecial
  split
  · next word => simp [word, State.liveWord] at stored
  · next word => simp [word, State.liveWord] at stored
  · simp only [stored, latching, if_true]

/-- Any other read is answered from a valid snapshot of its record (R72). -/
theorem State.readSpecial_snapshot {book : Fin 7} {a : Access} {v : Word}
    (stored : s.liveWord (specialWordAt book a.offset) = none) (latching : isLatching book a = false)
    (valid : (s.path p).snapshotWord book a = some v) :
    s.readSpecial p book a = s.answer p (.data (piece v a.offset a.size)) := by
  unfold State.readSpecial
  split
  · next word => simp [word, State.liveWord] at stored
  · next word => simp [word, State.liveWord] at stored
  · simp only [stored, latching, valid, Bool.false_eq_true, if_false]

/-- Without a valid snapshot it goes to the store (R58). -/
theorem State.readSpecial_stored {book : Fin 7} {a : Access}
    (stored : s.liveWord (specialWordAt book a.offset) = none) (latching : isLatching book a = false)
    (invalid : (s.path p).snapshotWord book a = none) :
    s.readSpecial p book a = s.guardedRead p book a := by
  unfold State.readSpecial
  split
  · next word => simp [word, State.liveWord] at stored
  · next word => simp [word, State.liveWord] at stored
  · simp only [stored, latching, invalid, Bool.false_eq_true, if_false]

theorem State.guardedRead_waits {book : Fin 7} {a : Access} (guarded : s.readGuarded book a.offset = true) :
    s.guardedRead p book a = s.setWait p (.guard a) := if_pos guarded

/-- A read of bytes, its record not guarded, goes to the store (R71). -/
theorem State.guardedRead_bytes {book : Fin 7} {a : Access} (free : s.readGuarded book a.offset = false)
    (latching : isLatching book a = false) : s.guardedRead p book a = s.storeRead p a (s.base book) := by
  simp only [State.guardedRead, free, State.storedRead, latching, Bool.false_eq_true, if_false]

/-- A latching read, its record not guarded, takes the record (R71, R72). -/
theorem State.guardedRead_record {book : Fin 7} {a : Access} (free : s.readGuarded book a.offset = false)
    (latching : isLatching book a = true) : s.guardedRead p book a = s.latchRecord p book a := by
  simp only [State.guardedRead, free, State.storedRead, latching, Bool.false_eq_true, if_false, if_true]

/-! ## Reads of the store -/

theorem State.storeRead_struck {a : Access} {base : Nat}
    (struck : s.store.failing (base + a.offset) (sizeBytes a.size) = true) :
    s.storeRead p a base = (s.granted (s.grantee p)).faultAccess p a .storeParity := by
  simp only [State.storeRead, State.granted_store, struck, if_true]

theorem State.storeRead_good {a : Access} {base : Nat}
    (good : s.store.failing (base + a.offset) (sizeBytes a.size) = false) :
    s.storeRead p a base = (s.granted (s.grantee p)).answer p
      (.data (piece (s.store.word (base + a.offset / 4 * 4)) a.offset a.size)) := by
  simp only [State.storeRead, State.granted_store, good, Bool.false_eq_true, if_false]

/-! ## Plain books -/

/-- The checks of a plain book's access, as the statements spell them (R55, R56). -/
theorem Descriptor.checks_eq (d : Descriptor) (side : Side) (a : Access) :
    d.checks side a =
      [ (d.valid, .noBook),
        (decide (a.offset + sizeBytes a.size ≤ d.limit.toNat), .limit),
        (decide (side = d.owner ∨ d.other = 2 ∨ (d.other = 1 ∧ a.isWrite = false)), .rights),
        (decide (a.isWrite = false ∨ d.lock = false), .writeLock),
        (decide (a.offset % sizeBytes a.size = 0), .misaligned) ] := by
  have rights : d.allows side a.isWrite =
      decide (side = d.owner ∨ d.other = 2 ∨ (d.other = 1 ∧ a.isWrite = false)) := by
    rw [Bool.eq_iff_iff]
    cases a.isWrite <;> simp [Descriptor.allows, or_comm]
  have lock : (!(a.isWrite && d.lock)) = decide (a.isWrite = false ∨ d.lock = false) := by
    cases a.isWrite <;> cases d.lock <;> rfl
  rw [Descriptor.checks, rights, lock]
  rfl

theorem State.plainAccess_held {book : BitVec 6} {d : Descriptor} {a : Access}
    (held : s.cache.find book = some (.held book d)) : s.plainAccess p book a = s.checkPlain p d a := by
  simp only [State.plainAccess, held]

theorem State.checkPlain_fails {d : Descriptor} {a : Access} {r : FaultReason}
    (fails : firstFail (d.checks (s.side p) a) = some r) : s.checkPlain p d a = s.faultAccess p a r := by
  simp only [State.checkPlain, fails]

theorem State.checkPlain_read {d : Descriptor} {a : Access}
    (passes : firstFail (d.checks (s.side p) a) = none) (read : a.write = none) :
    s.checkPlain p d a = s.storeRead p a (d.base.toNat * 1024) := by
  simp only [State.checkPlain, passes, read]

theorem State.checkPlain_write {d : Descriptor} {a : Access} {v : Word}
    (passes : firstFail (d.checks (s.side p) a) = none) (write : a.write = some v) :
    s.checkPlain p d a = s.writePlain p (d.base.toNat * 1024) a v := by
  simp only [State.checkPlain, passes, write]

/-! ## Faults -/

/-- Settles O11: the fault of each check, and of a parity error. -/
theorem faultedAccessChangesRecordAlone : Obligations.FaultedAccessChangesRecordAlone := by
  unfold Obligations.FaultedAccessChangesRecordAlone
  intro s p a free
  dsimp only
  refine ⟨fun noProfile => ?_, fun running h => ⟨fun r fails => ?_, fun passes read stored latching invalid
    unguarded struck => ?_⟩, fun running plain d held => ⟨fun r fails => ?_, fun passes read struck => ?_⟩⟩
  · simp only [State.arrive, free, noProfile, if_true, State.faultAccess_eq_faulted]
  · rw [State.arrive_checkSpecial ⟨running, free⟩ h, State.checkSpecial_fails fails,
      State.faultAccess_eq_faulted]
  · rw [State.arrive_checkSpecial ⟨running, free⟩ h, State.checkSpecial_read passes read,
      State.readSpecial_stored stored latching invalid, State.guardedRead_bytes unguarded latching,
      State.storeRead_struck struck, State.faultAccess_eq_faulted]
  · rw [← Descriptor.checks_eq] at fails
    rw [State.arrive_plain ⟨running, free⟩ plain, State.plainAccess_held held, State.checkPlain_fails fails,
      State.faultAccess_eq_faulted]
  · rw [← Descriptor.checks_eq] at passes
    rw [State.arrive_plain ⟨running, free⟩ plain, State.plainAccess_held held,
      State.checkPlain_read passes read, State.storeRead_struck struck, State.faultAccess_eq_faulted]

end Sys2Proof.Machine
end

section
/-! Writes of the live words of CONTROL (R61, R152, R195, R196, R198), and what a command and a descriptor write
make of the Descriptor Cache (R65, R66). -/

namespace Sys2Proof.Machine

variable {s : State} {p : PortId}

/-! ## Live words -/

/-- A taken write of a live word, by an effect apart from the paths and the store. -/
theorem State.live_write_apart {book : Fin 7} {b off : Nat} {v : Word} {w : SpecialWord}
    (hb : book.val = b) (own : s.owns p book) (word : specialWordAt book off = w)
    (limit : off + 4 ≤ bookLimit book) (aligned : off % 4 = 0) (live : w.isLive = true) (ice : w.atIce = false)
    (checks : firstFail (s.wordChecks w v) = none) (apart : Apart fun u => u.blockEffect w v) :
    s.writeWord p (portAddr b off) v = (s.blockEffect w v).wrote p := by
  have effect : (s.dropSnapshot p).effect p w v [] = (s.dropSnapshot p).blockEffect w v :=
    State.effect_block ice []
  have small : off < 262144 := by have := bookLimit_le book; omega
  rw [State.writeWord, State.live_write hb own word limit aligned small live checks
    (by rw [effect, apart.path]), effect, State.wrote, apart.dropSnapshot]

/-- The checks of HALL_MODE: its codes, then the two conditions of a change (R195). -/
theorem State.hallMode_checks (s : State) (v : Word) :
    firstFail (s.wordChecks .hallMode v) =
      if inRange v 1 2 then
        if s.quietAllows .hallMode v then
          if s.formatAllows .hallMode v then none else some .notFormatted
        else some .notQuiet
      else some .badValue := by
  simp only [State.wordChecks, firstFail, SpecialWord.writable, State.takesValue, SpecialWord.setupOnly,
    SpecialWord.needsHold, State.wordFitted, State.slotFree]
  cases inRange v 1 2 <;> cases s.quietAllows .hallMode v <;> cases s.formatAllows .hallMode v <;> rfl

theorem State.hallMode_checks_trading (s : State) :
    firstFail (s.wordChecks .hallMode 2) =
      if s.isFormatted = true ∨ s.engine.mode = .trading then none else some .notFormatted := by
  have range : inRange 2 1 2 = true := by decide
  have quiet : s.quietAllows .hallMode 2 = true := by simp [State.quietAllows, hallModeOf]
  have format : s.formatAllows .hallMode 2 = true ↔ s.isFormatted = true ∨ s.engine.mode = .trading := by
    cases mode : s.engine.mode <;> simp [State.formatAllows, hallModeOf, mode]
  simp only [State.hallMode_checks, range, quiet, format, if_true]

theorem State.hallMode_checks_setup (s : State) :
    firstFail (s.wordChecks .hallMode 1) =
      if s.quiet = true ∨ s.engine.mode = .setup then none else some .notQuiet := by
  have range : inRange 1 1 2 = true := by decide
  have format : s.formatAllows .hallMode 1 = true := by simp [State.formatAllows, hallModeOf]
  have quiet : s.quietAllows .hallMode 1 = true ↔ s.quiet = true ∨ s.engine.mode = .setup := by
    cases mode : s.engine.mode <;> simp [State.quietAllows, hallModeOf, mode]
  simp only [State.hallMode_checks, range, quiet, format, if_true]

section HallMode

variable (own : s.owns p 0) {v : Word}
include own

/-- An accepted write of HALL_MODE changes the mode alone (R195). -/
theorem State.hallMode_written (checks : firstFail (s.wordChecks .hallMode v) = none) :
    s.writeWord p (portAddr 0 0x000) v =
      ({ s with engine := { s.engine with mode := hallModeOf v } }).wrote p :=
  State.live_write_apart (w := .hallMode) (book := 0) rfl own rfl (by decide) rfl rfl rfl checks
    fun _ _ _ _ _ => rfl

theorem State.hallMode_faults {r : FaultReason} (checks : firstFail (s.wordChecks .hallMode v) = some r) :
    s.writeWord p (portAddr 0 0x000) v = s.faultAccess p ⟨portAddr 0 0x000, .word, some v⟩ r :=
  State.write_faults (w := .hallMode) (book := 0) rfl own rfl (by decide) rfl (by decide) checks

end HallMode

/-- Of the checks of TARIFF_BAND that of its codes alone can fail (R152, R204). -/
theorem State.tariffBand_checks (s : State) (v : Word) :
    firstFail (s.wordChecks .tariffBand v) = if v.toNat ≤ 1 then none else some .badValue := by
  have range : inRange v 0 1 = decide (v.toNat ≤ 1) := by simp [inRange]
  simp only [State.wordChecks, firstFail, SpecialWord.writable, State.takesValue, SpecialWord.setupOnly,
    SpecialWord.needsHold, State.wordFitted, State.slotFree, State.quietAllows, State.formatAllows, range]
  by_cases h : v.toNat ≤ 1 <;> simp [h]

/-- An accepted write of TARIFF_BAND sets the band (R152). -/
theorem exec_tariffBand_written (own : s.owns p 0) {v : Word} (code : v.toNat ≤ 1) :
    exec (.tariffBandWrite p v) s = .next (({ s with ice := { s.ice with band := bandOf v } }).wrote p) :=
  congrArg Host.Outcome.next <|
    State.live_write_apart (w := .tariffBand) (book := 0) rfl own rfl (by decide) rfl rfl rfl
      (by rw [State.tariffBand_checks, if_pos code]) fun _ _ _ _ _ => rfl

/-- Settles O12: each row is a write of a live word, taken or faulted by its checks. -/
theorem liveControlWrites : Obligations.LiveControlWrites := by
  unfold Obligations.LiveControlWrites
  intro s p data own
  refine ⟨fun opens => ?_, fun ⟨unformatted, setup⟩ => ?_, fun closes => ?_, fun ⟨busy, trading⟩ => ?_,
    ?_, ?_, exec_tariffBand_written own (by decide), exec_tariffBand_written own (by decide), fun beyond => ?_⟩
  · exact congrArg _ (State.hallMode_written own (by rw [State.hallMode_checks_trading, if_pos opens]))
  · refine congrArg _ (State.hallMode_faults own ?_)
    rw [State.hallMode_checks_trading, if_neg (by simp [unformatted, setup])]
  · exact congrArg _ (State.hallMode_written own (by rw [State.hallMode_checks_setup, if_pos closes]))
  · refine congrArg _ (State.hallMode_faults own ?_)
    rw [State.hallMode_checks_setup, if_neg (by simp [busy, trading])]
  · exact congrArg Host.Outcome.next <|
      State.live_write_apart (w := .noticeFlags) (book := 0) rfl own rfl (by decide) rfl rfl rfl rfl
        fun _ _ _ _ _ => rfl
  · exact congrArg Host.Outcome.next <|
      State.live_write_apart (w := .faultWord 0) (book := 0) rfl own rfl (by decide) rfl rfl rfl rfl
        fun _ _ _ _ _ => rfl
  · refine congrArg Host.Outcome.next ?_
    exact State.write_faults (w := .tariffBand) (book := 0) rfl own rfl (by decide) rfl (by decide)
      (by rw [State.tariffBand_checks, if_neg (by omega)])

/-! ## The Descriptor Cache -/

theorem specialWordAt_descriptor : ∀ (slot : Fin 57) (second : Fin 2),
    specialWordAt 0 (0x200 + 8 * slot.val + 4 * second.val) = .descriptor slot second := by decide

/-- An entry under a descriptor write of a book (R65). -/
theorem Cache.dropBook_get (c : Cache) (book : BitVec 6) (e : Fin 16) :
    (c.dropBook book).entries.get e =
      match c.entries.get e with
      | .held b d => if b = book then .free else .held b d
      | .fetching b m => .fetching b (m || b == book)
      | .free => .free := by
  rw [Cache.dropBook, mapBank_get]
  cases c.entries.get e with
  | free => rfl
  | held b d => by_cases h : b = book <;> simp [CacheEntry.names, CacheEntry.drop, h]
  | fetching b m => by_cases h : b = book <;> simp [CacheEntry.names, CacheEntry.drop, h]

/-- A descriptor word written: the entry of its book dropped, and the word in the book table (R65). -/
theorem exec_descriptorWordWrite (own : s.owns p 0) (slot : Fin 57) (second : Fin 2) (v : Word) :
    exec (.descriptorWordWrite p slot second v) s =
      .next (({ s with cache := s.cache.dropBook (tableBook slot) }).wroteWord p 0
        (0x200 + 8 * slot.val + 4 * second.val) v) := by
  have limit : 0x200 + 8 * slot.val + 4 * second.val + 4 ≤ bookLimit 0 := by show _ ≤ 4096; omega
  have apart : Apart fun u => u.blockEffect (.descriptor slot second) v := fun _ _ _ _ _ => rfl
  have written := State.stored_write_apart (v := v) (book := 0) rfl own (specialWordAt_descriptor slot second) limit
    (by omega) (by omega) rfl rfl rfl apart
  exact congrArg _ (written.trans (apart.wroteWord rfl p 0 _ v))

/-- Settles O13: the two commands at the cache, and the write of a descriptor word. -/
theorem descriptorCacheWrites : Obligations.DescriptorCacheWrites := by
  unfold Obligations.DescriptorCacheWrites
  intro s p own
  refine ⟨congrArg _ (State.command_written own (by decide)),
    ⟨s.invalidateCache.cache, ?_, rfl, fun e => ?_⟩, fun slot second data => ?_⟩
  · refine congrArg _ ((State.command_written own (by decide)).trans ?_)
    cases p <;> rfl
  · rw [State.invalidateCache, mapBank_get]
    cases s.cache.entries.get e <;> rfl
  · exact ⟨_, exec_descriptorWordWrite own slot second data, rfl,
      s.cache.dropBook_get (tableBook slot)⟩

end Sys2Proof.Machine
end

section
/-! The Descriptor Cache (R62 to R67): its entries under a miss and at the end of a fetch, and what an access to a
plain book comes to. -/

namespace Sys2Proof.Machine

variable {s : State} {p : PortId}

/-! ## Entries of the cache -/

theorem Cache.mem_entries (c : Cache) (x : CacheEntry) :
    x ∈ c.entries.toList ↔ ∃ e : Fin 16, c.entries.get e = x := by
  simp only [Vector.mem_toList_iff, Vector.mem_iff_getElem, Vector.get_eq_getElem]
  exact ⟨fun ⟨i, h, g⟩ => ⟨⟨i, h⟩, g⟩, fun ⟨e, g⟩ => ⟨e.val, e.isLt, g⟩⟩

theorem Cache.find_eq_none {c : Cache} {book : BitVec 6} :
    c.find book = none ↔ ∀ e : Fin 16, (c.entries.get e).names book = false := by
  rw [Cache.find, List.find?_eq_none]
  constructor
  · exact fun h e => Bool.not_eq_true _ ▸ h _ ((c.mem_entries _).2 ⟨e, rfl⟩)
  · intro h x hx
    obtain ⟨e, rfl⟩ := (c.mem_entries x).1 hx
    simp [h e]

/-- The entry found for a book is the one that all its entries are. -/
theorem Cache.find_eq_some {c : Cache} {book : BitVec 6} {x : CacheEntry} {e : Fin 16}
    (stands : c.entries.get e = x) (names : x.names book = true)
    (only : ∀ f : Fin 16, (c.entries.get f).names book = true → c.entries.get f = x) :
    c.find book = some x := by
  cases found : c.find book with
  | none =>
    have := Cache.find_eq_none.1 found e
    rw [stands, names] at this
    cases this
  | some y =>
    obtain ⟨f, rfl⟩ := (c.mem_entries y).1 (List.mem_of_find?_eq_some found)
    have named : (c.entries.get f).names book = true :=
      List.find?_some (p := fun e : CacheEntry => e.names book) found
    rw [only f named]

/-- The book of a found entry is named by some entry. -/
theorem Cache.exists_names {c : Cache} {book : BitVec 6} {x : CacheEntry} (found : c.find book = some x) :
    ∃ e : Fin 16, (c.entries.get e).names book = true := by
  by_contra none
  rw [Cache.find_eq_none.2 fun e => Bool.not_eq_true _ ▸ fun named => none ⟨e, named⟩] at found
  cases found

theorem Cache.settle_get (c : Cache) (book : BitVec 6) (new : CacheEntry) (e : Fin 16) :
    (c.settle book new).entries.get e =
      if (c.entries.get e).names book then new else c.entries.get e := by
  rw [Cache.settle, mapBank_get]

/-- At the end of its fetch the book's entry is the new one (R63, R65). -/
theorem Cache.find_settle {c : Cache} {book : BitVec 6} {x new : CacheEntry} (found : c.find book = some x)
    (names : new.names book = true) : (c.settle book new).find book = some new := by
  obtain ⟨e, named⟩ := Cache.exists_names found
  refine Cache.find_eq_some (e := e) (by rw [Cache.settle_get, if_pos named]) names fun f hf => ?_
  rw [Cache.settle_get] at hf ⊢
  split at hf
  · exact if_pos ‹_›
  · exact absurd hf ‹_›

theorem Cache.find_settle_free (c : Cache) (book : BitVec 6) : (c.settle book .free).find book = none := by
  rw [Cache.find_eq_none]
  intro e
  rw [Cache.settle_get]
  split
  · rfl
  · exact Bool.not_eq_true _ ▸ ‹_›

/-! ## The victim of a miss -/

theorem passed_succ (sets : Half) (n : Nat) (e : Fin 16) :
    passed sets (n + 1) e = passed sets n (nextEntry sets e) := by
  induction n with
  | zero => rfl
  | succ n ih => exact congrArg (nextEntry sets) ih

/-- The victim is the first entry from the pointer on that is not FETCHING (R64). -/
theorem Cache.victimFrom_eq (c : Cache) (sets : Half) {n k : Nat} {e : Fin 16} (within : k < n)
    (first : (c.entries.get (passed sets k e)).isFetching = false)
    (before : ∀ j : Nat, j < k → (c.entries.get (passed sets j e)).isFetching = true) :
    c.victimFrom sets n e = passed sets k e := by
  induction k generalizing n e with
  | zero =>
    obtain ⟨n, rfl⟩ := Nat.exists_eq_add_of_lt within
    rw [Nat.zero_add, Cache.victimFrom, if_neg (by rw [show e = passed sets 0 e from rfl, first]; nofun)]
    rfl
  | succ k ih =>
    obtain ⟨n, rfl⟩ : ∃ m, n = m + 1 := ⟨n - 1, by omega⟩
    have fetching : (c.entries.get e).isFetching = true := before 0 (by omega)
    rw [Cache.victimFrom, if_pos fetching, passed_succ]
    rw [passed_succ] at first
    refine ih (by omega) first fun j hj => ?_
    rw [← passed_succ]
    exact before (j + 1) (by omega)

/-- A miss puts its fetch into the victim, moves the pointer past it and changes no other entry (R63, R64). -/
theorem Cache.miss_eq {c : Cache} {sets : Half} {k : Nat} (book : BitVec 6) (within : k < 16)
    (first : (c.entries.get (passed sets k c.victim)).isFetching = false)
    (before : ∀ j : Nat, j < k → (c.entries.get (passed sets j c.victim)).isFetching = true) :
    c.miss sets book =
      { entries := c.entries.set (passed sets k c.victim) (.fetching book false)
        victim := nextEntry sets (passed sets k c.victim) } := by
  have victim := c.victimFrom_eq sets within first before
  simp only [Cache.miss, victim]

theorem CacheEntry.names_fetching (book : BitVec 6) (again : Bool) :
    (CacheEntry.fetching book again).names book = true := beq_self_eq_true book

theorem CacheEntry.names_held (book : BitVec 6) (d : Descriptor) :
    (CacheEntry.held book d).names book = true := beq_self_eq_true book

/-- A fetch issued for a book without an entry is found. -/
theorem Cache.find_set {c : Cache} {book : BitVec 6} (absent : c.find book = none) (e v : Fin 16) :
    Cache.find { entries := c.entries.set e (.fetching book false), victim := v } book =
      some (.fetching book false) := by
  refine Cache.find_eq_some (e := e) (by rw [bank_get_set, if_pos rfl]) (CacheEntry.names_fetching book false)
    fun f named => ?_
  rw [bank_get_set] at named ⊢
  split
  · rfl
  · rw [if_neg ‹_›, Cache.find_eq_none.1 absent f] at named
    cases named

/-! ## Accesses to plain books -/

theorem State.writePlain_eq (s : State) (p : PortId) (base : Nat) (a : Access) (v : Word) :
    s.writePlain p base a v =
      ((({ s with store := s.store.putBytes (base + a.offset) (writeBytes a.size v) }).dropSnapshot
        p).granted (s.grantee p)).answer p .done := by
  cases p <;> rfl

theorem State.plainAccess_miss {book : BitVec 6} {a : Access} (absent : s.cache.find book = none) :
    s.plainAccess p book a =
      ({ s with cache := s.cache.miss s.cacheSets book }).setWait p (.fetch a) := by
  simp only [State.plainAccess, absent]

/-- Settles O35: the checks of a HELD book's access, its effect, and the fetch of a miss. -/
theorem plainBookAccess : Obligations.PlainBookAccess := by
  unfold Obligations.PlainBookAccess
  intro s p addr size data d idle plain
  dsimp only
  refine ⟨fun held => ?_, fun absent k within first before => ?_⟩
  · have checked (w : Option Word) : s.arrive p ⟨addr, size, w⟩ = s.checkPlain p d ⟨addr, size, w⟩ := by
      rw [State.arrive_plain (a := ⟨addr, size, w⟩) idle plain, State.plainAccess_held held]
    refine ⟨fun r fails => congrArg Host.Outcome.next ?_, fun r fails => congrArg Host.Outcome.next ?_,
      fun passes good => congrArg Host.Outcome.next ?_, fun passes => congrArg Host.Outcome.next ?_⟩
    · rw [checked, State.checkPlain_fails ((congrArg firstFail (d.checks_eq _ ⟨addr, size, none⟩)).trans fails)]
    · rw [checked,
        State.checkPlain_fails ((congrArg firstFail (d.checks_eq _ ⟨addr, size, some data⟩)).trans fails)]
    · rw [checked, State.checkPlain_read
        ((congrArg firstFail (d.checks_eq _ ⟨addr, size, none⟩)).trans passes) rfl]
      exact State.storeRead_good good
    · rw [checked, State.checkPlain_write
        ((congrArg firstFail (d.checks_eq _ ⟨addr, size, some data⟩)).trans passes) rfl]
      exact State.writePlain_eq _ _ _ _ _
  · have missed (w : Option Word) : s.arrive p ⟨addr, size, w⟩ =
        ({ s with cache := s.cache.miss s.cacheSets (addrBook addr) }).setWait p (.fetch ⟨addr, size, w⟩) := by
      rw [State.arrive_plain (a := ⟨addr, size, w⟩) idle plain, State.plainAccess_miss absent]
    refine ⟨_, congrArg Host.Outcome.next (missed none), congrArg Host.Outcome.next (missed (some data)), ?_⟩
    rw [Cache.miss_eq _ within first before]
    refine ⟨Cache.find_set absent _ _, ?_, rfl, fun x other => ?_⟩
    · rw [bank_get_set, if_pos rfl]
    · rw [bank_get_set, if_neg other]

/-! ## The end of a fetch -/

section Settle

variable (s) (p : PortId) (a : Access)

theorem State.faultAccess_cache (r : FaultReason) : (s.faultAccess p a r).cache = s.cache := by
  rw [State.faultAccess_eq_faulted]; simp [State.faulted]
theorem State.faultAccess_part (r : FaultReason) : (s.faultAccess p a r).part = s.part := by
  rw [State.faultAccess_eq_faulted]; simp [State.faulted]
theorem State.faultAccess_path {q : PortId} (other : q ≠ p) (r : FaultReason) :
    (s.faultAccess p a r).path q = s.path q := by
  rw [State.faultAccess_eq_faulted, State.faulted, State.answer, State.path_setPath, if_neg other]
  cases q <;> rfl

/-- An access checked against a descriptor leaves the cache, the part state and the other port (R55, R58). -/
theorem State.checkPlain_keeps (d : Descriptor) :
    (s.checkPlain p d a).cache = s.cache ∧ (s.checkPlain p d a).part = s.part ∧
      ∀ q, q ≠ p → (s.checkPlain p d a).path q = s.path q := by
  unfold State.checkPlain
  split
  · exact ⟨s.faultAccess_cache p a _, s.faultAccess_part p a _, fun q other => s.faultAccess_path p a other _⟩
  · split
    · unfold State.storeRead
      dsimp only
      split
      · exact ⟨State.faultAccess_cache _ p a _, State.faultAccess_part _ p a _,
          fun q other => (State.faultAccess_path _ p a other _).trans (s.granted_path _ q)⟩
      · refine ⟨by simp, by simp, fun q other => ?_⟩
        rw [State.answer, State.path_setPath, if_neg other, State.granted_path]
    · rw [State.writePlain_eq]
      refine ⟨by simp, by simp, fun q other => ?_⟩
      rw [State.answer, State.path_setPath, if_neg other, State.granted_path, State.dropSnapshot,
        State.path_setPath, if_neg other]
      cases q <;> rfl

/-- An access that settles at the end of a fetch leaves the cache, the part state and the other port (R63). -/
theorem State.settleFetch_keeps (book : BitVec 6) (out : Option Descriptor) :
    (s.settleFetch book out p).cache = s.cache ∧ (s.settleFetch book out p).part = s.part ∧
      ∀ q, q ≠ p → (s.settleFetch book out p).path q = s.path q := by
  unfold State.settleFetch
  split
  · next x _ =>
    split
    · split
      · next d =>
        obtain ⟨cache, part, path⟩ := (s.setWait p .free).checkPlain_keeps p x d
        refine ⟨cache.trans (by simp), part.trans (by simp), fun q other => ?_⟩
        rw [path q other, State.setWait, State.path_setPath, if_neg other]
      · exact ⟨s.faultAccess_cache p x _, s.faultAccess_part p x _, fun q other => s.faultAccess_path p x other _⟩
    · exact ⟨rfl, rfl, fun _ _ => rfl⟩
  · exact ⟨rfl, rfl, fun _ _ => rfl⟩

end Settle

/-- The two controllers stand at two ports (R55). -/
theorem State.portOf_ne (s : State) : s.portOf .quay ≠ s.portOf .office := by
  unfold State.portOf
  cases s.side .first <;> simp

/-- What waits at a port when the fetch of a book ends: nothing that waits on another book is touched, an
access that waits on it faults after a parity error, and else arrives anew (R63, R67). -/
def State.fetchEnded (v : State) (p : PortId) (w : Wait) (book : BitVec 6) (struck : Bool) : State :=
  match w with
  | .fetch x =>
    if addrBook x.addr ≠ book then v
    else if struck = true then v.faultAccess p x .storeParity
    else (v.setWait p .free).arrive p x
  | _ => v

/-- After a parity error the accesses that wait on the fetch fault (R67). -/
theorem State.settleFetch_struck (v : State) (p : PortId) (book : BitVec 6) :
    v.settleFetch book none p = v.fetchEnded p (v.path p).wait book true := by
  unfold State.settleFetch State.fetchEnded
  cases (v.path p).wait with
  | fetch x => by_cases h : addrBook x.addr = book <;> simp [h]
  | _ => rfl

/-- An access that waits on a fetch whose entry has become HELD is checked as one that then arrives (R63). -/
theorem State.settleFetch_held {v : State} {book : BitVec 6} {d : Descriptor} (running : v.part = .running)
    (plain : 7 ≤ book.toNat) (held : v.cache.find book = some (.held book d)) (p : PortId) :
    v.settleFetch book (some d) p = v.fetchEnded p (v.path p).wait book false := by
  have arrives {x : Access} (names : addrBook x.addr = book) :
      (v.setWait p .free).arrive p x = (v.setWait p .free).checkPlain p d x := by
    have idle : (v.setWait p .free).idlePort p := ⟨by simp [running], by simp [State.setWait]⟩
    have found : (v.setWait p .free).cache.find book = some (.held book d) := by simpa using held
    rw [State.arrive_plain idle (by rw [names]; exact plain), names, State.plainAccess_held found]
  unfold State.settleFetch State.fetchEnded
  cases (v.path p).wait with
  | fetch x =>
    by_cases h : addrBook x.addr = book
    · simp [h, arrives h]
    · simp [h]
  | _ => rfl

/-- A fetch that ends while the part is RUNNING: the office's waiting access, then the quay's (R63, log 24). -/
theorem State.bothPorts_settleFetch {u : State} {book : BitVec 6} {out : Option Descriptor}
    (settles : ∀ (v : State) (p : PortId), v.part = u.part → v.cache = u.cache →
      v.settleFetch book out p = v.fetchEnded p (v.path p).wait book out.isNone) :
    (u.bothPorts fun t p => t.settleFetch book out p) =
      (u.fetchEnded (u.portOf .office) (u.path (u.portOf .office)).wait book out.isNone).fetchEnded
        (u.portOf .quay) (u.path (u.portOf .quay)).wait book out.isNone := by
  obtain ⟨cache, part, path⟩ := u.settleFetch_keeps (u.portOf .office) book out
  rw [State.bothPorts, settles _ (u.portOf .quay) part cache, path _ u.portOf_ne,
    settles u (u.portOf .office) rfl rfl]

theorem State.bothPorts_settleFetch_cache (u : State) (book : BitVec 6) (out : Option Descriptor) :
    (u.bothPorts fun t p => t.settleFetch book out p).cache = u.cache :=
  ((State.settleFetch_keeps _ _ book out).1).trans (u.settleFetch_keeps _ book out).1

theorem State.bothPorts_settleFetch_engine (u : State) (book : BitVec 6) (out : Option Descriptor) :
    (u.bothPorts fun t p => t.settleFetch book out p).engine = u.engine := by
  simp [State.bothPorts]

/-- The state at the end of a fetch before the waiting accesses settle: the book's entry is replaced (R63). -/
def State.fetched (s : State) (book : BitVec 6) (new : CacheEntry) : State :=
  { s.granted (.inner .cache) with cache := s.cache.settle book new }

section Fetch

variable {book : BitVec 6} {again : Bool} (found : s.cache.find book = some (.fetching book again))
include found

theorem exec_fetch_struck (struck : s.store.failing (s.descriptorAddr book) 8 = true) :
    exec (.descriptorFetchDone book) s =
      .next ((s.fetched book .free).bothPorts fun t p => t.settleFetch book none p) := by
  refine congrArg Host.Outcome.next ?_
  unfold State.endFetch
  rw [found]
  exact if_pos struck

theorem exec_fetch_repeats (good : s.store.failing (s.descriptorAddr book) 8 = false) (mark : again = true) :
    exec (.descriptorFetchDone book) s = .next (s.fetched book (.fetching book false)) := by
  refine congrArg Host.Outcome.next ?_
  unfold State.endFetch
  rw [found]
  exact (if_neg (by rw [Bool.not_eq_true]; exact good)).trans (if_pos mark)

theorem exec_fetch_held (good : s.store.failing (s.descriptorAddr book) 8 = false) (mark : again = false) :
    exec (.descriptorFetchDone book) s =
      let d := s.decodeDescriptor (s.store.word (s.descriptorAddr book)) (s.store.word (s.descriptorAddr book + 4))
      .next ((s.fetched book (.held book d)).bothPorts fun t p => t.settleFetch book (some d) p) := by
  refine congrArg Host.Outcome.next ?_
  unfold State.endFetch
  rw [found]
  exact (if_neg (by rw [Bool.not_eq_true]; exact good)).trans (if_neg (by rw [mark]; nofun))

end Fetch

/-- The ports of a state whose fetch has just ended wait as before. -/
theorem State.fetched_path (s : State) (book : BitVec 6) (new : CacheEntry) (p : PortId) :
    (s.fetched book new).path p = s.path p := by cases p <;> rfl

theorem State.fetched_portOf (s : State) (book : BitVec 6) (new : CacheEntry) (d : Side) :
    (s.fetched book new).portOf d = s.portOf d := rfl

/-- Entries of other books stay at the end of a fetch (R63). -/
theorem State.fetched_other (s : State) {book : BitVec 6} (new : CacheEntry) {e : Fin 16}
    (other : (s.cache.entries.get e).names book = false) :
    (s.fetched book new).cache.entries.get e = s.cache.entries.get e := by
  rw [State.fetched, Cache.settle_get, other]
  rfl

/-- Settles O34: the three ends of a fetch, and the accesses that wait on it. -/
theorem descriptorFetchEnds : Obligations.DescriptorFetchEnds := by
  unfold Obligations.DescriptorFetchEnds
  intro s book again plain found
  dsimp only
  refine ⟨fun mark good => ?_, fun ends => ?_⟩
  · exact ⟨_, exec_fetch_repeats found good mark, rfl,
      Cache.find_settle found (CacheEntry.names_fetching book false)⟩
  · cases struck : s.store.failing (s.descriptorAddr book) 8 with
    | true =>
      refine ⟨_, exec_fetch_struck found struck, ?_⟩
      rw [State.bothPorts_settleFetch_cache, State.bothPorts_settleFetch_engine]
      refine ⟨rfl, rfl, fun _ => Cache.find_settle_free _ _, nofun,
        fun _ => ⟨(s.fetched book .free).cache, ?_, fun e => s.fetched_other .free⟩⟩
      refine (State.bothPorts_settleFetch fun v q _ _ => v.settleFetch_struck q book).trans ?_
      rw [State.fetched_path, State.fetched_path]
      rfl
    | false =>
      have unmarked : again = false := ends.resolve_right (by rw [struck]; nofun)
      have fetched := exec_fetch_held found struck unmarked
      dsimp only at fetched
      generalize s.decodeDescriptor (s.store.word (s.descriptorAddr book))
        (s.store.word (s.descriptorAddr book + 4)) = d at fetched ⊢
      refine ⟨_, fetched, ?_⟩
      rw [State.bothPorts_settleFetch_cache, State.bothPorts_settleFetch_engine]
      have held := Cache.find_settle found (CacheEntry.names_held book d)
      refine ⟨rfl, rfl, nofun, fun _ => held,
        fun running => ⟨(s.fetched book (.held book d)).cache, ?_, fun e => s.fetched_other (.held book d)⟩⟩
      have settles (v : State) (q : PortId) (part : v.part = (s.fetched book (.held book d)).part)
          (cache : v.cache = (s.fetched book (.held book d)).cache) :
          v.settleFetch book (some d) q = v.fetchEnded q (v.path q).wait book false :=
        State.settleFetch_held (part.trans running) plain (cache ▸ held) q
      refine (State.bothPorts_settleFetch settles).trans ?_
      rw [State.fetched_path, State.fetched_path]
      rfl

end Sys2Proof.Machine
end

section
/-! Reads of words (R58, R68, R74, R91, R129): live words answered at once, configuration words from the store,
and the clock latch. -/

namespace Sys2Proof.Machine

variable {s : State} {p : PortId}

/-! ## Word reads -/

theorem piece_word (w : Word) {off : Nat} (aligned : off % 4 = 0) : piece w off .word = w := by
  simp [piece, aligned]

section Read

variable {book : Fin 7} {b off : Nat} (hb : book.val = b) (idle : s.idlePort p)
  (limit : off + 4 ≤ bookLimit book) (aligned : off % 4 = 0)
include hb idle limit aligned

/-- A word read of a live word but the clock's is answered at once (R68). -/
theorem exec_read_live {w : SpecialWord} {v : Word} (word : specialWordAt book off = w)
    (live : s.liveWord w = some v) (date : w ≠ .clockDate) (time : w ≠ .clockTime) :
    exec (.portRead p (portAddr b off) .word) s = .next (s.answer p (.data v)) := by
  have offset : (⟨portAddr b off, .word, none⟩ : Access).offset = off :=
    addrOffset_portAddr _ _ (by have := bookLimit_le book; omega)
  refine congrArg Host.Outcome.next ?_
  rw [State.read_arrives hb idle limit aligned, State.readSpecial_live (by rw [offset, word]; exact live)
    (by rw [offset, word]; exact date) (by rw [offset, word]; exact time), offset, piece_word v aligned]

end Read

/-! ## The words of the stations -/

theorem specialWordAt_scale : ∀ n : Fin 8,
    specialWordAt 5 (0x118 + 64 * n.val) = .weight n ∧ specialWordAt 5 (0x11C + 64 * n.val) = .scaleState n ∧
      specialWordAt 5 (0x120 + 64 * n.val) = .tray n ∧ specialWordAt 5 (0x124 + 64 * n.val) = .scaleStatus n 0 ∧
      specialWordAt 5 (0x124 + 64 * n.val + 4) = .scaleStatus n 1 ∧
      specialWordAt 5 (0x12C + 64 * n.val) = .scaleStatus n 2 := by decide

theorem specialWordAt_reader : ∀ r : Fin 12,
    specialWordAt 5 (0x308 + 32 * r.val) = .declared r ∧ specialWordAt 5 (0x30C + 32 * r.val) = .readerStatus r 0 ∧
      specialWordAt 5 (0x30C + 32 * r.val + 4) = .readerStatus r 1 := by decide

theorem specialWordAt_bayStatus : ∀ b : Fin 6,
    specialWordAt 5 (0x534 + 64 * b.val) = .bayStatus b 0 ∧
      specialWordAt 5 (0x534 + 64 * b.val + 4) = .bayStatus b 1 := by decide

theorem specialWordAt_deskStatus : ∀ slot : Fin 3,
    specialWordAt 6 (0x14 + 32 * slot.val) = .deskStatus slot 0 ∧
      specialWordAt 6 (0x14 + 32 * slot.val + 4) = .deskStatus slot 1 ∧
      specialWordAt 6 (0x1C + 32 * slot.val) = .deskStatus slot 2 := by decide

/-- The fields of the first word of a STATUS group (R77, chapter 11). -/
theorem Status.word0_fields (t : Status) :
    field t.word0 0 8 = t.outcome.code ∧ field t.word0 8 8 = reasonCode t.reason ∧
      t.word0.getLsbD 16 = t.seq.isSome ∧ t.word0.getLsbD 17 = t.value.isSome ∧
      t.word0.getLsbD 18 = t.overMark ∧ t.word0.getLsbD 19 = false ∧ field t.word0 20 12 = t.crate := by
  refine ⟨?_, ?_, ?_, ?_, ?_, ?_, ?_⟩
  · rw [field, Status.word0, field_low _ _ (by decide), BitVec.extractLsb'_eq_self]
  · rw [field, Status.word0, field_high _ _ (by decide), field_low _ _ (by decide), BitVec.extractLsb'_eq_self]
  · simp only [Status.word0, BitVec.getLsbD_append]; simp [flagBit]
  · simp only [Status.word0, BitVec.getLsbD_append]; simp [flagBit]
  · simp only [Status.word0, BitVec.getLsbD_append]; simp [flagBit]
  · simp only [Status.word0, BitVec.getLsbD_append]; simp
  · rw [field, Status.word0, field_high _ _ (by decide), field_high _ _ (by decide), field_high _ _ (by decide),
      field_high _ _ (by decide), field_high _ _ (by decide), field_high _ _ (by decide),
      BitVec.extractLsb'_eq_self]

/-- The fields of STATE (R91, chapter 11). -/
theorem ScaleChannel.stateWord_fields (c : ScaleChannel) :
    field c.stateWord 0 2 = c.state.code ∧ field c.stateWord 2 2 = c.commit.code ∧
      c.stateWord.getLsbD 4 = c.testMiss ∧ field c.stateWord 5 11 = 0 ∧ field c.stateWord 16 16 = c.load := by
  refine ⟨?_, ?_, ?_, ?_, ?_⟩
  · rw [field, ScaleChannel.stateWord, field_low _ _ (by decide), BitVec.extractLsb'_eq_self]
  · rw [field, ScaleChannel.stateWord, field_high _ _ (by decide), field_low _ _ (by decide),
      BitVec.extractLsb'_eq_self]
  · simp only [ScaleChannel.stateWord, BitVec.getLsbD_append]; simp [flagBit]
  · rw [field, ScaleChannel.stateWord, field_high _ _ (by decide), field_high _ _ (by decide),
      field_high _ _ (by decide), field_low _ _ (by decide), BitVec.extractLsb'_eq_self]
    rfl
  · rw [field, ScaleChannel.stateWord, field_high _ _ (by decide), field_high _ _ (by decide),
      field_high _ _ (by decide), field_high _ _ (by decide), BitVec.extractLsb'_eq_self]

/-- The fields of TRAY (R91, chapter 11). -/
theorem ScaleChannel.trayWord_fields (c : ScaleChannel) :
    field c.trayWord 0 5 = BitVec.ofNat 5 c.tray.length ∧ field c.trayWord 5 11 = 0 ∧
      field c.trayWord 16 12 = tagCrate (c.tray.getLastD 0) ∧ field c.trayWord 28 4 = 0 := by
  refine ⟨?_, ?_, ?_, ?_⟩
  · rw [field, ScaleChannel.trayWord, field_low _ _ (by decide), BitVec.extractLsb'_eq_self]
  · rw [field, ScaleChannel.trayWord, field_high _ _ (by decide), field_low _ _ (by decide),
      BitVec.extractLsb'_eq_self]
    rfl
  · rw [field, ScaleChannel.trayWord, field_high _ _ (by decide), field_high _ _ (by decide),
      field_low _ _ (by decide), BitVec.extractLsb'_eq_self]
  · rw [field, ScaleChannel.trayWord, field_high _ _ (by decide), field_high _ _ (by decide),
      field_high _ _ (by decide), BitVec.extractLsb'_eq_self]
    rfl

/-- The crate of the last tray code; an empty tray shows 0 (R91). -/
theorem tagCrate_getLastD (tray : List Word) :
    tagCrate (tray.getLastD 0) = match tray.getLast? with | none => 0 | some v => tagCrate v := by
  rw [List.getLastD_eq_getLast?]
  cases tray.getLast? <;> rfl

/-! ## Configuration words and the clock -/

/-- No configuration word lies in a guarded record (R71). -/
theorem ConfigWord.unguarded (s : State) (c : ConfigWord) : s.readGuarded 0 c.offset = false := by
  have apart : ¬ (0x80 ≤ c.offset ∧ c.offset < 0xA0) := by cases c <;> simp only [ConfigWord.offset] <;> omega
  have record : guardRecord 0 c.offset = none := if_neg apart
  rw [State.readGuarded, record]

/-- A word read of a configuration word goes to the store (R58). -/
theorem exec_read_config (idle : s.idlePort p) (c : ConfigWord) :
    exec (.portRead p c.addr .word) s = .next (s.storeRead p ⟨c.addr, .word, none⟩ (s.base 0)) := by
  have small := c.offset_lt
  have offset : (⟨c.addr, .word, none⟩ : Access).offset = c.offset := addrOffset_portAddr _ _ (by omega)
  have stored : s.liveWord (specialWordAt 0 c.offset) = none := by rw [c.specialWordAt_offset]; rfl
  have invalid : (s.path p).snapshotWord 0 ⟨c.addr, .word, none⟩ = none := by
    unfold Path.snapshotWord
    split
    · rfl
    · exact if_neg fun h => nomatch h.1
  refine congrArg Host.Outcome.next ((State.read_arrives (book := 0) rfl idle small c.offset_aligned).trans ?_)
  refine (State.readSpecial_stored (by rw [offset]; exact stored) rfl invalid).trans ?_
  exact State.guardedRead_bytes (by rw [offset]; exact c.unguarded s) rfl

/-- A word read of CLOCK_DATE answers the date and latches the time (R74). -/
theorem exec_clockDateRead (idle : s.idlePort p) :
    exec (.clockDateRead p) s = .next (s.setPath p { s.path p with
      wait := .free, clock := some s.clock.time, answer := .data s.clock.date.word }) := by
  have offset : (⟨portAddr 0 0x014, .word, none⟩ : Access).offset = 0x014 := addrOffset_portAddr _ _ (by decide)
  have word : specialWordAt 0 0x014 = .clockDate := rfl
  refine congrArg Host.Outcome.next ((State.read_arrives (book := 0) (b := 0) rfl idle (by decide) rfl).trans ?_)
  simp only [State.readSpecial, offset, word, State.readDate, piece_word _ (show 0x014 % 4 = 0 from rfl),
    State.answer, State.path_setPath, State.setPath_setPath, if_true]

/-- A word read of CLOCK_TIME answers the latched time, or the live one, and empties the latch (R74). -/
theorem exec_clockTimeRead (idle : s.idlePort p) :
    exec (.clockTimeRead p) s = .next (s.setPath p { s.path p with
      wait := .free, clock := none, answer := .data ((s.path p).clock.getD s.clock.time).word }) := by
  have offset : (⟨portAddr 0 0x018, .word, none⟩ : Access).offset = 0x018 := addrOffset_portAddr _ _ (by decide)
  have word : specialWordAt 0 0x018 = .clockTime := rfl
  refine congrArg Host.Outcome.next ((State.read_arrives (book := 0) (b := 0) rfl idle (by decide) rfl).trans ?_)
  simp only [State.readSpecial, offset, word, State.readTime, piece_word _ (show 0x018 % 4 = 0 from rfl),
    State.answer, State.path_setPath, State.setPath_setPath, if_true]

/-- Settles O31: each word is the value of a live word, or is read from the store. -/
theorem portReadsAnswered : Obligations.PortReadsAnswered := by
  unfold Obligations.PortReadsAnswered
  intro s p idle
  have quayside {off : Nat} {w : SpecialWord} {v : Word} (word : specialWordAt 5 off = w)
      (limit : off + 4 ≤ 2048) (aligned : off % 4 = 0) (live : s.liveWord w = some v) (date : w ≠ .clockDate)
      (time : w ≠ .clockTime) : exec (.portRead p (portAddr 5 off) .word) s = .next (s.answer p (.data v)) :=
    exec_read_live (book := 5) rfl idle limit aligned word live date time
  have desk {off : Nat} {w : SpecialWord} {v : Word} (word : specialWordAt 6 off = w)
      (limit : off + 4 ≤ 256) (aligned : off % 4 = 0) (live : s.liveWord w = some v) (date : w ≠ .clockDate)
      (time : w ≠ .clockTime) : exec (.portRead p (portAddr 6 off) .word) s = .next (s.answer p (.data v)) :=
    exec_read_live (book := 6) rfl idle limit aligned word live date time
  dsimp only
  refine ⟨fun n => ?_, fun r => ?_, fun b => ?_, fun slot => ?_, ?_, ?_, ?_, fun c good => ?_, fun c struck => ?_,
    exec_clockDateRead idle, exec_clockTimeRead idle⟩
  · obtain ⟨weight, state, tray, status, sequence, value⟩ := specialWordAt_scale n
    refine ⟨quayside weight (by omega) (by omega) rfl nofun nofun,
      ⟨_, quayside state (by omega) (by omega) rfl nofun nofun, ?_⟩,
      ⟨_, quayside tray (by omega) (by omega) rfl nofun nofun, ?_⟩,
      ⟨⟨_, quayside status (by omega) (by omega) rfl nofun nofun, Status.word0_fields _⟩,
        quayside sequence (by omega) (by omega) rfl nofun nofun⟩,
      quayside value (by omega) (by omega) rfl nofun nofun⟩
    · exact (s.scale n).stateWord_fields
    · obtain ⟨count, low, crate, high⟩ := (s.scale n).trayWord_fields
      exact ⟨count, low, crate.trans (tagCrate_getLastD _), high⟩
  · obtain ⟨declared, status, sequence⟩ := specialWordAt_reader r
    exact ⟨quayside declared (by omega) (by omega) rfl nofun nofun,
      ⟨_, quayside status (by omega) (by omega) rfl nofun nofun, Status.word0_fields _⟩,
      quayside sequence (by omega) (by omega) rfl nofun nofun⟩
  · obtain ⟨status, sequence⟩ := specialWordAt_bayStatus b
    exact ⟨⟨_, quayside status (by omega) (by omega) rfl nofun nofun, Status.word0_fields _⟩,
      quayside sequence (by omega) (by omega) rfl nofun nofun⟩
  · obtain ⟨status, sequence, value⟩ := specialWordAt_deskStatus slot
    exact ⟨⟨⟨_, desk status (by omega) (by omega) rfl nofun nofun, Status.word0_fields _⟩,
      desk sequence (by omega) (by omega) rfl nofun nofun⟩, desk value (by omega) (by omega) rfl nofun nofun⟩
  · exact exec_read_live (book := 0) rfl idle (by decide) rfl rfl rfl nofun nofun
  · exact exec_read_live (book := 0) rfl idle (by decide) rfl rfl rfl nofun nofun
  · exact exec_read_live (book := 0) rfl idle (by decide) rfl rfl rfl nofun nofun
  · have offset : (⟨c.addr, .word, none⟩ : Access).offset = c.offset :=
      addrOffset_portAddr _ _ (by have := c.offset_lt; omega)
    have whole : c.offset / 4 * 4 = c.offset := by have := c.offset_aligned; omega
    rw [exec_read_config idle, State.storeRead_good (by rw [offset]; exact good), offset,
      piece_word _ c.offset_aligned, whole]
    rfl
  · have offset : (⟨c.addr, .word, none⟩ : Access).offset = c.offset :=
      addrOffset_portAddr _ _ (by have := c.offset_lt; omega)
    rw [exec_read_config idle, State.storeRead_struck (by rw [offset]; exact struck)]

end Sys2Proof.Machine
end

section
/-! Reads of the account and lot records through the snapshot latch, and reads that wait on the guard (R58, R71,
R72). -/

namespace Sys2Proof.Machine

variable {s : State} {p : PortId}

theorem State.dropSnapshot_guarded (s : State) (p : PortId) (r : RecordId) :
    (s.dropSnapshot p).guarded r = s.guarded r := by
  simp only [State.guarded, State.dropSnapshot_engine]

/-! ## A record taken into the snapshot -/

/-- A latching read that meets no parity error takes the record and answers its word 0 (R72). -/
theorem State.latchRecord_good {book : Fin 7} {a : Access} {b : LatchBook} (latches : latchBook book = some b)
    (good : s.store.failing (s.base book + a.offset) 64 = false) :
    s.latchRecord p book a = (s.granted (s.grantee p)).setPath p { s.path p with
      wait := .free
      snapshot := some ⟨b, a.offset / 64, s.store.words (s.base book + a.offset) 16⟩
      answer := .data (s.store.word (s.base book + a.offset)) } := by
  simp only [State.latchRecord, State.granted_store, State.granted_base, good, latches, Bool.false_eq_true, if_false,
    State.answer, State.path_setPath, State.setPath_setPath, State.granted_path, if_true, Option.map_some]
  rfl

/-- A latching read that meets a parity error leaves the snapshot invalid (R72). -/
theorem State.latchRecord_struck {book : Fin 7} {a : Access}
    (struck : s.store.failing (s.base book + a.offset) 64 = true) :
    s.latchRecord p book a = ((s.granted (s.grantee p)).dropSnapshot p).faultAccess p a .storeParity := by
  simp only [State.latchRecord, State.granted_store, State.granted_base, struck, if_true]

/-! ## The books whose records are latched -/

/-- The book of a record that can be latched (R72). -/
def recordBook : LatchBook → Fin 7
  | .accounts => 1
  | .lots => 2

/-- The record at a place of its book (R53). -/
def bookRecord : LatchBook → Nat → RecordId
  | .accounts, n => .account n
  | .lots, n => .lot n

variable {b : LatchBook}

theorem latchBook_recordBook (b : LatchBook) : latchBook (recordBook b) = some b := by cases b <;> rfl
theorem recordBook_val (b : LatchBook) : (recordBook b).val = latchedBook b := by cases b <;> rfl

theorem guardRecord_recordBook (b : LatchBook) (off : Nat) :
    guardRecord (recordBook b) off = some (bookRecord b (off / 64)) := by cases b <;> rfl

theorem readGuarded_recordBook (s : State) (b : LatchBook) (off : Nat) :
    s.readGuarded (recordBook b) off = s.guarded (bookRecord b (off / 64)) := by
  rw [State.readGuarded, guardRecord_recordBook b]

/-- The books of records have no live words (R68). -/
theorem liveWord_recordBook (s : State) (b : LatchBook) (off : Nat) :
    s.liveWord (specialWordAt (recordBook b) off) = none := by cases b <;> rfl

/-! ## Reads of a record -/

section Record

variable {n i : Nat} {size : Size} (idle : s.idlePort p) (within : 64 * n + 64 ≤ bookLimit (recordBook b))
  (fits : i + sizeBytes size ≤ 64)

theorem record_offset (within : 64 * n + 64 ≤ bookLimit (recordBook b)) (fits : i + sizeBytes size ≤ 64) :
    (⟨portAddr (latchedBook b) (64 * n + i), size, none⟩ : Access).offset = 64 * n + i := by
  have positive : 0 < sizeBytes size := by cases size <;> decide
  exact addrOffset_portAddr _ _ (by have := bookLimit_le (recordBook b); omega)

include idle within fits in
/-- A read that lies within a record is accepted. -/
theorem record_read_arrives (aligned : i % sizeBytes size = 0) :
    s.arrive p ⟨portAddr (latchedBook b) (64 * n + i), size, none⟩ =
      s.readSpecial p (recordBook b) ⟨portAddr (latchedBook b) (64 * n + i), size, none⟩ :=
  State.read_arrives (recordBook_val b) idle (by omega) (by cases size <;> simp only [sizeBytes] at aligned ⊢ <;> omega)

/-- The latching read of a record is the word read of its offset 0 (R72). -/
theorem isLatching_record (within : 64 * n + 64 ≤ bookLimit (recordBook b)) (fits : i + sizeBytes size ≤ 64) :
    isLatching (recordBook b) ⟨portAddr (latchedBook b) (64 * n + i), size, none⟩ = decide (size = .word ∧ i = 0) := by
  have positive : 0 < sizeBytes size := by cases size <;> decide
  have start : (64 * n + i) % 64 = i := by omega
  simp [isLatching, record_offset within fits, latchBook_recordBook b, Access.isWrite, start, Bool.decide_and,
    Bool.beq_eq_decide_eq]

include idle within in
/-- The latching read goes to the store with the snapshot invalid (R72, log 39). -/
theorem exec_latchingRead_eq {index : BitVec 12} (place : index.toNat = n) :
    exec (.latchingRead p b index) s = .next ((s.dropSnapshot p).guardedRead p (recordBook b)
      ⟨portAddr (latchedBook b) (64 * n), .word, none⟩) := by
  subst place
  refine congrArg Host.Outcome.next ((record_read_arrives (i := 0) idle within (by decide) rfl).trans ?_)
  exact State.readSpecial_latching (liveWord_recordBook s b _) (isLatching_record (i := 0) within (by decide))

end Record

section Latching

variable {n : Nat} {index : BitVec 12} (idle : s.idlePort p) (within : 64 * n + 64 ≤ bookLimit (recordBook b))
  (place : index.toNat = n)
include idle within place

/-- A latching read takes an unguarded record (R72). -/
theorem exec_latchingRead_takes (free : s.guarded (bookRecord b n) = false)
    (good : s.store.failing (s.base (recordBook b) + 64 * n) 64 = false) :
    exec (.latchingRead p b index) s = .next ((s.granted (s.grantee p)).setPath p { s.path p with
      wait := .free
      snapshot := some ⟨b, n, s.store.words (s.base (recordBook b) + 64 * n) 16⟩
      answer := .data (s.store.word (s.base (recordBook b) + 64 * n)) }) := by
  have offset := record_offset (i := 0) (size := .word) within (by decide)
  have start : 64 * n / 64 = n := by omega
  rw [Nat.add_zero] at offset
  rw [exec_latchingRead_eq idle within place, State.guardedRead_record
    (by rw [offset, readGuarded_recordBook, start, State.dropSnapshot_guarded]; exact free)
    (isLatching_record (i := 0) within (by decide)),
    State.latchRecord_good (latchBook_recordBook b) (by rw [offset]; simpa using good), offset, start]
  cases p <;> rfl

/-- A latching read that meets a parity error faults (R58, R72). -/
theorem exec_latchingRead_struck (free : s.guarded (bookRecord b n) = false)
    (struck : s.store.failing (s.base (recordBook b) + 64 * n) 64 = true) :
    exec (.latchingRead p b index) s = .next (((s.granted (s.grantee p)).dropSnapshot p).faultAccess p
      ⟨portAddr (latchedBook b) (64 * n), .word, none⟩ .storeParity) := by
  have offset := record_offset (i := 0) (size := .word) within (by decide)
  have start : 64 * n / 64 = n := by omega
  rw [Nat.add_zero] at offset
  rw [exec_latchingRead_eq idle within place, State.guardedRead_record
    (by rw [offset, readGuarded_recordBook, start, State.dropSnapshot_guarded]; exact free)
    (isLatching_record (i := 0) within (by decide)),
    State.latchRecord_struck (by rw [offset]; simpa using struck)]
  cases p <;> rfl

/-- A latching read of a guarded record waits, the snapshot invalid (R71, R72, log 39). -/
theorem exec_latchingRead_waits (guarded : s.guarded (bookRecord b n) = true) :
    exec (.latchingRead p b index) s = .next (s.setPath p { s.path p with
      wait := .guard ⟨portAddr (latchedBook b) (64 * n), .word, none⟩, snapshot := none }) := by
  have offset := record_offset (i := 0) (size := .word) within (by decide)
  have start : 64 * n / 64 = n := by omega
  rw [Nat.add_zero] at offset
  rw [exec_latchingRead_eq idle within place, State.guardedRead_waits
    (by rw [offset, readGuarded_recordBook, start, State.dropSnapshot_guarded]; exact guarded)]
  cases p <;> rfl

end Latching

section Snapshot

variable {n i : Nat} {size : Size} (idle : s.idlePort p) (within : 64 * n + 64 ≤ bookLimit (recordBook b))
  (fits : i + sizeBytes size ≤ 64) (aligned : i % sizeBytes size = 0)
include idle within fits aligned

/-- While the snapshot is valid for a record, a read of it beyond its offset 0 is answered from it (R58, R72). -/
theorem exec_recordRead_snapshot {words : List Word} (valid : (s.path p).snapshot = some ⟨b, n, words⟩)
    (beyond : i ≠ 0) :
    exec (.portRead p (portAddr (latchedBook b) (64 * n + i)) size) s =
      .next (s.answer p (.data (piece (words.getD (i / 4) 0) (64 * n + i) size))) := by
  have positive : 0 < sizeBytes size := by cases size <;> decide
  have start : (64 * n + i) % 64 = i := by omega
  have place : (64 * n + i) / 64 = n := by omega
  have answered : (s.path p).snapshotWord (recordBook b)
      ⟨portAddr (latchedBook b) (64 * n + i), size, none⟩ = some (words.getD (i / 4) 0) := by
    simp [Path.snapshotWord, valid, record_offset within fits, latchBook_recordBook b, start, place, beyond]
  refine congrArg Host.Outcome.next ((record_read_arrives idle within fits aligned).trans ?_)
  rw [State.readSpecial_snapshot (liveWord_recordBook s b _)
    ((isLatching_record within fits).trans (by simp [beyond])) answered, record_offset within fits]

end Snapshot

/-- A byte or halfword read at a record's offset 0 goes to the store (R58, R72). -/
theorem exec_recordRead_start {n : Nat} {size : Size} (idle : s.idlePort p)
    (within : 64 * n + 64 ≤ bookLimit (recordBook b)) (part : size ≠ .word)
    (free : s.guarded (bookRecord b n) = false)
    (good : s.store.failing (s.base (recordBook b) + 64 * n) (sizeBytes size) = false) :
    exec (.portRead p (portAddr (latchedBook b) (64 * n)) size) s =
      .next ((s.granted (s.grantee p)).answer p
        (.data (piece (s.store.word (s.base (recordBook b) + 64 * n)) (64 * n) size))) := by
  have fits : 0 + sizeBytes size ≤ 64 := by cases size <;> decide
  have offset := record_offset (i := 0) (size := size) within fits
  have latching := (isLatching_record within fits).trans (decide_eq_false fun h => part h.1)
  have start : 64 * n / 64 = n := by omega
  have whole : 64 * n / 4 * 4 = 64 * n := by omega
  rw [Nat.add_zero] at offset latching
  have invalid : (s.path p).snapshotWord (recordBook b)
      ⟨portAddr (latchedBook b) (64 * n), size, none⟩ = none := by
    unfold Path.snapshotWord
    split
    · rfl
    · rw [offset]
      exact if_neg fun h => h.2.2 (by omega)
  refine congrArg Host.Outcome.next ((record_read_arrives (i := 0) idle within fits (Nat.zero_mod _)).trans ?_)
  rw [Nat.add_zero, State.readSpecial_stored (liveWord_recordBook s b _) latching invalid,
    State.guardedRead_bytes (by rw [offset, readGuarded_recordBook, start]; exact free) latching,
    State.storeRead_good (by rw [offset]; exact good), offset, whole]

/-- Settles O32: the latching read, and the reads that the snapshot or the store answers. -/
theorem latchingReadTakesRecord : Obligations.LatchingReadTakesRecord := by
  unfold Obligations.LatchingReadTakesRecord
  intro s p b index idle
  dsimp only
  have within (limit : index.toNat < (match b with | .accounts => 256 | .lots => 2048)) :
      64 * index.toNat + 64 ≤ bookLimit (recordBook b) := by
    cases b with
    | accounts => show _ ≤ 16384; dsimp only at limit; omega
    | lots => show _ ≤ 131072; dsimp only at limit; omega
  cases b with
  | accounts =>
    intro limit
    refine ⟨exec_latchingRead_takes (b := .accounts) idle (within limit) rfl,
      exec_latchingRead_struck (b := .accounts) idle (within limit) rfl,
      exec_latchingRead_waits (b := .accounts) idle (within limit) rfl, fun off size fits aligned =>
      ⟨fun words valid => exec_recordRead_snapshot (b := .accounts) idle (within limit) fits aligned valid, ?_⟩⟩
    rintro rfl part free good
    exact exec_recordRead_start (b := .accounts) idle (within limit) part free good
  | lots =>
    intro limit
    refine ⟨exec_latchingRead_takes (b := .lots) idle (within limit) rfl,
      exec_latchingRead_struck (b := .lots) idle (within limit) rfl,
      exec_latchingRead_waits (b := .lots) idle (within limit) rfl, fun off size fits aligned =>
      ⟨fun words valid => exec_recordRead_snapshot (b := .lots) idle (within limit) fits aligned valid, ?_⟩⟩
    rintro rfl part free good
    exact exec_recordRead_start (b := .lots) idle (within limit) part free good

/-! ## Reads that wait on the guard -/

section Resume

variable {book : Fin 7} {off : Nat} {size : Size} {w : Option Word} (small : off < 262144)
  (waits : (s.path p).wait = .guard ⟨portAddr book off, size, w⟩)
include small waits

/-- A read that waits on the guard, when it may resume (R71). -/
theorem State.resumeRead_eq : s.resumeRead p =
    if s.readGuarded book off then s
    else (s.setWait p .free).storedRead p book ⟨portAddr book off, size, w⟩ := by
  have number : (addrBook (portAddr book off)).toNat = book := addrBook_portAddr _ _ (by omega)
  have special : (addrBook (portAddr book off)).toNat < 7 := by omega
  have same : (⟨(addrBook (portAddr book off)).toNat, special⟩ : Fin 7) = book := Fin.ext number
  have offset : (⟨portAddr book off, size, w⟩ : Access).offset = off := addrOffset_portAddr _ _ small
  simp only [State.resumeRead, waits, dif_pos special, same, offset]

/-- It goes on waiting while its record is guarded (R71). -/
theorem State.resumeRead_guarded (guarded : s.readGuarded book off = true) : s.resumeRead p = s := by
  rw [State.resumeRead_eq small waits, if_pos guarded]

/-- Released, it goes to the store (R71). -/
theorem State.resumeRead_released (free : s.readGuarded book off = false) :
    s.resumeRead p = (s.setWait p .free).storedRead p book ⟨portAddr book off, size, w⟩ := by
  rw [State.resumeRead_eq small waits, free]
  rfl

end Resume

/-- Settles O33: the read goes on waiting, is answered from the store, or takes its record. -/
theorem guardedReadResumes : Obligations.GuardedReadResumes := by
  unfold Obligations.GuardedReadResumes
  intro s p book off record limit aligned guards
  dsimp only
  intro waits
  have small : off < 262144 := by have := bookLimit_le book; omega
  have whole : off / 4 * 4 = off := by omega
  have offset : (⟨portAddr book off, .word, none⟩ : Access).offset = off := addrOffset_portAddr _ _ small
  have reads : s.readGuarded book off = s.guarded record := by rw [State.readGuarded, guards]
  refine ⟨fun guarded => ?_, fun free latching good => ?_, fun b free latching latches good => ?_⟩
  · exact congrArg Host.Outcome.next (State.resumeRead_guarded small waits (reads.trans guarded))
  · refine congrArg Host.Outcome.next ((State.resumeRead_released small waits (reads.trans free)).trans ?_)
    rw [State.storedRead, latching, if_neg (by nofun),
      State.storeRead_good (by rw [offset]; simpa [sizeBytes] using good), offset, piece_word _ aligned, whole]
    cases p <;> rfl
  · refine congrArg Host.Outcome.next ((State.resumeRead_released small waits (reads.trans free)).trans ?_)
    rw [State.storedRead, latching, if_pos rfl,
      State.latchRecord_good latches (by rw [offset]; simpa using good), offset]
    cases p <;> rfl

end Sys2Proof.Machine
end

section
/-! The Store Arbiter (R79): what it chooses, how its pointers move, and the words of requests that stand together. -/

namespace Sys2Proof.Machine

/-! ## First in an order -/

section Order

variable {α β : Type} {rank : α → Nat}

/-- What is found first in an ascending list stands before all else that could be found. -/
theorem find?_least {p : α → Bool} {xs : List α} (ascending : xs.Pairwise fun x y => rank x ≤ rank y) {x : α}
    (found : xs.find? p = some x) : p x = true ∧ ∀ y ∈ xs, p y = true → rank x ≤ rank y := by
  obtain ⟨holds, before, after, split, none⟩ := List.find?_eq_some_iff_append.1 found
  refine ⟨holds, fun y mem py => ?_⟩
  rw [split] at mem ascending
  rcases List.mem_append.1 mem with early | late
  · exact absurd (none y early) (by simp [py])
  · rcases List.mem_cons.1 late with rfl | late
    · exact Nat.le_refl _
    · exact (List.pairwise_cons.1 (List.pairwise_append.1 ascending).2.1).1 y late

/-- The same of a search whose finds are values. -/
theorem findSome?_least {f : α → Option β} {xs : List α} (ascending : xs.Pairwise fun x y => rank x ≤ rank y)
    {b : β} (found : xs.findSome? f = some b) :
    ∃ x ∈ xs, f x = some b ∧ ∀ y ∈ xs, f y ≠ none → rank x ≤ rank y := by
  obtain ⟨before, x, after, split, holds, none⟩ := List.findSome?_eq_some_iff.1 found
  rw [split] at ascending ⊢
  refine ⟨x, by simp, holds, fun y mem some => ?_⟩
  rcases List.mem_append.1 mem with early | late
  · exact absurd (none y early) some
  · rcases List.mem_cons.1 late with rfl | late
    · exact Nat.le_refl _
    · exact (List.pairwise_cons.1 (List.pairwise_append.1 ascending).2.1).1 y late

end Order

/-! ## Places in the two orders -/

/-- The place of a requester at the port pointer (R79). -/
def Requester.turn : Requester → Nat
  | .office => 0
  | .quay => 1
  | .internal => 2

/-- The place of a block at the internal pointer (R79). -/
def Block.turn : Block → Nat
  | .engine => 0
  | .cache => 1
  | .ice => 2
  | .loader => 3

/-- The requester at the port pointer that a grant goes to (R79). -/
def Grantee.requester : Grantee → Requester
  | .path .office => .office
  | .path .quay => .quay
  | .inner _ => .internal

/-- The place of a grant in the order of the requesters (R79). -/
def Grantee.place : Grantee → Nat
  | .path .office => 0
  | .path .quay => 1
  | .inner _ => 2

theorem Grantee.place_eq (g : Grantee) : g.place = g.requester.turn := by rcases g with (_ | _) | _ <;> rfl

/-- How many places after the pointer a requester stands (R79). -/
def Arbiter.distance (a : Arbiter) (r : Requester) : Nat := (r.turn + 3 - a.port.turn) % 3

/-- How many places after the second pointer a block stands (R79). -/
def Arbiter.blockDistance (a : Arbiter) (b : Block) : Nat := (b.turn + 4 - a.inner.turn) % 4

variable {a : Arbiter} {asks : Grantee → Bool} {g : Grantee}

theorem Requester.turn_lt (r : Requester) : r.turn < 3 := by cases r <;> decide

theorem Requester.turn_inj {q r : Requester} (h : q.turn = r.turn) : q = r := by
  cases q <;> cases r <;> first | rfl | cases h

theorem Grantee.eq_path {d : Side} (h : g.requester = (Grantee.path d).requester) : g = .path d := by
  cases d <;> rcases g with (_ | _) | _ <;> first | rfl | cases h

theorem Requester.mem_order (p r : Requester) : r ∈ [p, p.next, p.next.next] := by
  cases p <;> cases r <;> decide

theorem Block.mem_order (i b : Block) : b ∈ [i, i.next, i.next.next, i.next.next.next] := by
  cases i <;> cases b <;> decide

theorem Arbiter.order_ascending (a : Arbiter) :
    [a.port, a.port.next, a.port.next.next].Pairwise fun q r => a.distance q ≤ a.distance r := by
  obtain ⟨port, inner⟩ := a
  cases port <;> simp [Arbiter.distance, Requester.turn, Requester.next]

theorem Arbiter.blocks_ascending (a : Arbiter) :
    [a.inner, a.inner.next, a.inner.next.next, a.inner.next.next.next].Pairwise fun b c =>
      a.blockDistance b ≤ a.blockDistance c := by
  obtain ⟨port, inner⟩ := a
  cases inner <;> simp [Arbiter.blockDistance, Block.turn, Block.next]

/-! ## The choice -/

/-- A position offers a grant to a requester of its own that asks. -/
theorem Arbiter.offer_some {r : Requester} (offers : a.offer asks r = some g) :
    asks g = true ∧ g.requester = r ∧
      ∀ b : Block, g = .inner b → ∀ c : Block, asks (.inner c) = true → a.blockDistance b ≤ a.blockDistance c := by
  cases r with
  | office =>
    by_cases h : asks (.path .office) = true <;> simp [Arbiter.offer, h] at offers
    subst offers
    exact ⟨h, rfl, nofun⟩
  | quay =>
    by_cases h : asks (.path .quay) = true <;> simp [Arbiter.offer, h] at offers
    subst offers
    exact ⟨h, rfl, nofun⟩
  | internal =>
    obtain ⟨b, chosen, rfl⟩ := Option.map_eq_some_iff.1 offers
    obtain ⟨holds, least⟩ := find?_least a.blocks_ascending chosen
    refine ⟨holds, rfl, fun b' same c => ?_⟩
    cases same
    exact least c (Block.mem_order _ _)

/-- A position offers nothing when none of its requesters asks. -/
theorem Arbiter.offer_none {r : Requester} (offers : a.offer asks r = none) (mine : g.requester = r) :
    asks g = false := by
  subst mine
  rcases g with (_ | _) | b
  · by_contra h
    simp [Arbiter.offer, Grantee.requester, h] at offers
  · by_contra h
    simp [Arbiter.offer, Grantee.requester, h] at offers
  · have unchosen : a.chooseBlock (fun b => asks (.inner b)) = none := Option.map_eq_none_iff.1 offers
    exact Bool.not_eq_true _ ▸ List.find?_eq_none.1 unchosen b (Block.mem_order _ _)

/-- The arbiter grants nothing when nobody asks, and only then (R79). -/
theorem Arbiter.choose_eq_none : a.choose asks = none ↔ ∀ g : Grantee, asks g = false := by
  constructor
  · intro none g
    exact Arbiter.offer_none (List.findSome?_eq_none_iff.1 none _ (Requester.mem_order a.port g.requester)) rfl
  · intro none
    refine List.findSome?_eq_none_iff.2 fun r _ => ?_
    cases offers : a.offer asks r with
    | none => rfl
    | some g => exact absurd (Arbiter.offer_some offers).1 (by simp [none g])

/-- The arbiter grants the first that asks, at or after its pointers (R79). -/
theorem Arbiter.choose_eq_some (chosen : a.choose asks = some g) :
    asks g = true ∧
      (∀ h : Grantee, asks h = true → a.distance g.requester ≤ a.distance h.requester) ∧
      ∀ b : Block, g = .inner b → ∀ c : Block, asks (.inner c) = true → a.blockDistance b ≤ a.blockDistance c := by
  obtain ⟨r, -, offers, least⟩ := findSome?_least a.order_ascending chosen
  obtain ⟨holds, rfl, blocks⟩ := Arbiter.offer_some offers
  refine ⟨holds, fun h asked => least _ (Requester.mem_order _ _) fun none => ?_, blocks⟩
  rw [Arbiter.offer_none none rfl] at asked
  cases asked

theorem Arbiter.grant_port (a : Arbiter) (g : Grantee) :
    (a.grant g).port.turn = (g.requester.turn + 1) % 3 := by
  rcases g with (_ | _) | _ <;> simp [Arbiter.grant, Grantee.requester, Requester.turn]

theorem Arbiter.grant_inner (a : Arbiter) (b : Block) : (a.grant (.inner b)).inner.turn = (b.turn + 1) % 4 := by
  cases b <;> rfl

/-- Whenever another is granted, a path that asks comes nearer to its turn (R79). -/
theorem Arbiter.nearer {d : Side} (asked : asks (.path d) = true) (chosen : a.choose asks = some g)
    (other : g ≠ .path d) :
    (a.grant g).distance (Grantee.path d).requester < a.distance (Grantee.path d).requester := by
  have first := (Arbiter.choose_eq_some chosen).2.1 _ asked
  have differ : g.requester.turn ≠ (Grantee.path d).requester.turn :=
    fun same => other (Grantee.eq_path (Requester.turn_inj same))
  have low := g.requester.turn_lt
  have low' := (Grantee.path d).requester.turn_lt
  have low'' := a.port.turn_lt
  simp only [Arbiter.distance, Arbiter.grant_port] at first ⊢
  omega

/-- A path that goes on asking is one of the next three that are granted (R79). -/
theorem Arbiter.third_grant {d : Side} {h : Grantee} {asks' asks'' : Grantee → Bool}
    (asked : asks (.path d) = true) (asked' : asks' (.path d) = true) (asked'' : asks'' (.path d) = true)
    (chosen : a.choose asks = some g) (chosen' : (a.grant g).choose asks' = some h) (other : g ≠ .path d)
    (other' : h ≠ .path d) : ((a.grant g).grant h).choose asks'' = some (.path d) := by
  have near := Arbiter.nearer asked chosen other
  have near' := Arbiter.nearer asked' chosen' other'
  have far : a.distance (Grantee.path d).requester < 3 := Nat.mod_lt _ (by decide)
  cases chosen'' : ((a.grant g).grant h).choose asks'' with
  | none => rw [Arbiter.choose_eq_none.1 chosen''] at asked''; cases asked''
  | some k =>
    by_cases same : k = .path d
    · rw [same]
    · have near'' := Arbiter.nearer asked'' chosen'' same
      omega

/-! ## Requests served in turn -/

variable {s : State}

/-- Requests that stand together: the first of the chosen requester is written, and the rest is served (R79). -/
theorem State.serve_step {rs : List Request} {who : Grantee} {r : Request}
    (chosen : s.arbiter.choose (fun g => rs.any fun r => r.1 == g) = some who)
    (first : rs.find? (fun r => r.1 == who) = some r) :
    s.serve rs = (s.write who [r.2]).serve (rs.eraseP fun r => r.1 == who) := by
  have mem := List.mem_of_find?_eq_some first
  have length := List.length_eraseP_of_mem (p := fun r : Request => r.1 == who) mem
    (List.find?_some (p := fun r : Request => r.1 == who) first)
  have some : rs.length = (rs.eraseP fun r => r.1 == who).length + 1 := by
    have := List.length_pos_of_mem mem
    omega
  simp only [State.serve, some, State.serveNext, chosen, first]

theorem requests_any (who : Grantee) (w : Nat × Word) (ws : List (Nat × Word)) (g : Grantee) :
    ((requests who (w :: ws)).any fun r => r.1 == g) = (who == g) := by
  by_cases h : who = g <;> simp [requests, h]

/-- The arbiter's choice between the Ice Unit and one path (R79). -/
theorem Arbiter.choose_ice_path (a : Arbiter) (d : Side) :
    a.choose (fun g => Grantee.inner .ice == g || Grantee.path d == g) =
      some (if a.port = .office ∨ (a.port = .quay ∧ d = .quay) then .path d else .inner .ice) := by
  obtain ⟨port, inner⟩ := a
  cases port <;> cases d <;> cases inner <;> rfl

section Together

variable (d : Side) (w v : Nat × Word) (vs : List (Nat × Word))

theorem State.together_chosen :
    s.arbiter.choose (fun g => (requests (.inner .ice) (v :: vs) ++ [(Grantee.path d, w)]).any fun r => r.1 == g) =
      some (if s.arbiter.port = .office ∨ (s.arbiter.port = .quay ∧ d = .quay) then .path d else .inner .ice) := by
  rw [← Arbiter.choose_ice_path]
  congr 1
  funext g
  rw [List.any_append, requests_any]
  simp

/-- The path's word first, when its turn comes before the Ice Unit's (R79). -/
theorem State.serve_path_first
    (turn : s.arbiter.port = .office ∨ (s.arbiter.port = .quay ∧ d = .quay)) :
    s.serve (requests (.inner .ice) (v :: vs) ++ [(.path d, w)]) =
      (s.write (.path d) [w]).write (.inner .ice) (v :: vs) := by
  have chosen := s.together_chosen d w v vs
  rw [if_pos turn] at chosen
  have others : ∀ r ∈ requests (.inner .ice) (v :: vs), ¬ (r.1 == Grantee.path d) = true := by
    intro r mem
    obtain ⟨x, -, rfl⟩ := List.mem_map.1 mem
    simp
  rw [State.serve_step (r := (.path d, w)) chosen, List.eraseP_append_right _ others]
  · simpa using State.serve_requests _ _ _
  · rw [List.find?_append, List.find?_eq_none.2 others]
    simp

/-- Else one word of the Ice Unit's, and then the path's (R79). -/
theorem State.serve_ice_first
    (turn : ¬ (s.arbiter.port = .office ∨ (s.arbiter.port = .quay ∧ d = .quay))) :
    s.serve (requests (.inner .ice) (v :: vs) ++ [(.path d, w)]) =
      ((s.write (.inner .ice) [v]).write (.path d) [w]).write (.inner .ice) vs := by
  have chosen := s.together_chosen d w v vs
  rw [if_neg turn] at chosen
  rw [State.serve_step (r := (.inner .ice, v)) chosen (by simp [requests])]
  have rest : (requests (.inner .ice) (v :: vs) ++ [(Grantee.path d, w)]).eraseP
      (fun r => r.1 == Grantee.inner .ice) = requests (.inner .ice) vs ++ [(.path d, w)] := by
    simp [requests]
  rw [rest]
  cases vs with
  | nil => exact State.serve_one _ _ _
  | cons u us => exact State.serve_path_first d w u us (.inl rfl)

end Together

/-- Settles O10: the arbiter's choice, its pointers, and the words that stand together. -/
theorem arbiterGrants : Obligations.ArbiterGrants := by
  unfold Obligations.ArbiterGrants
  dsimp only
  refine ⟨fun a asks => ⟨Arbiter.choose_eq_none, fun g chosen => ?_, fun d g h asks' asks'' asked asked' asked''
    chosen chosen' other other' =>
      Arbiter.third_grant asked asked' asked'' chosen chosen' other other'⟩, rfl, fun s d w v vs => ?_⟩
  · obtain ⟨asked, first, blocks⟩ := Arbiter.choose_eq_some chosen
    have places (h : Grantee) : (h.place + 3 - a.port.turn) % 3 = a.distance h.requester := by
      rw [h.place_eq]
      rfl
    have nearest (h : Grantee) (asked : asks h = true) :
        (g.place + 3 - a.port.turn) % 3 ≤ (h.place + 3 - a.port.turn) % 3 := by
      rw [places, places]
      exact first h asked
    have moves : (a.grant g).port.turn = (g.place + 1) % 3 := by rw [g.place_eq, Arbiter.grant_port]
    refine ⟨asked, nearest, moves, fun d same => ?_, fun b same => ?_⟩
    · subst same
      cases d <;> rfl
    · subst same
      exact ⟨Arbiter.grant_inner a b, blocks b rfl⟩
  · split
    · next turn => exact State.serve_path_first d w v vs turn
    · next turn => exact State.serve_ice_first d w v vs turn

end Sys2Proof.Machine
end

section
/-! Bay by bay (R149, R166, R167): what a step at one bay leaves of the channel and the record of another, and the
store that requests which stand together leave. -/

namespace Sys2Proof.Machine

/-! ## Ranges of the store that are left alone -/

/-- A range of bytes that a step leaves as it is, parity and all. -/
def Memory.Kept (m m' : Memory) (a n : Nat) : Prop :=
  ∀ x, a ≤ x → x < a + n → m'.byte x = m.byte x ∧ (x ∈ m'.bad ↔ x ∈ m.bad)

namespace Memory.Kept

variable {m m' m'' : Memory} {a b n k : Nat}

theorem refl (m : Memory) (a n : Nat) : m.Kept m a n := fun _ _ _ => ⟨rfl, Iff.rfl⟩

theorem trans (h : m.Kept m' a n) (k : m'.Kept m'' a n) : m.Kept m'' a n := fun x low high =>
  ⟨(k x low high).1.trans (h x low high).1, (k x low high).2.trans (h x low high).2⟩

theorem mono (h : m.Kept m' a n) (low : a ≤ b) (high : b + k ≤ a + n) : m.Kept m' b k :=
  fun x l g => h x (by omega) (by omega)

theorem word (h : m.Kept m' a n) (low : a ≤ b) (high : b + 4 ≤ a + n) : m'.word b = m.word b := by
  have byte (i : Nat) (hi : i < 4) := (h (b + i) (by omega) (by omega)).1
  have zero := byte 0 (by decide)
  simp only [Nat.add_zero] at zero
  simp only [Memory.word, zero, byte 1 (by decide), byte 2 (by decide), byte 3 (by decide)]

theorem words (h : m.Kept m' a n) (low : a ≤ b) (high : b + 4 * k ≤ a + n) : m'.words b k = m.words b k := by
  induction k generalizing b with
  | zero => rfl
  | succ k ih => rw [Memory.words, Memory.words, h.word low (by omega), ih (by omega) (by omega)]

theorem failing (h : m.Kept m' a n) : m'.failing a n = m.failing a n := by
  rw [Bool.eq_iff_iff]
  simp only [Memory.failing, List.any_eq_true, Bool.and_eq_true, decide_eq_true_eq]
  constructor
  · rintro ⟨x, mem, low, high⟩
    exact ⟨x, (h x low high).2.mp mem, low, high⟩
  · rintro ⟨x, mem, low, high⟩
    exact ⟨x, (h x low high).2.mpr mem, low, high⟩

end Memory.Kept

theorem Memory.putAll_kept (m : Memory) {ws : List (Nat × Word)} {a n : Nat}
    (apart : ∀ w ∈ ws, w.1 + 4 ≤ a ∨ a + n ≤ w.1) : m.Kept (m.putAll ws) a n :=
  fun _ low high => m.putAll_outside fun w hw => by have := apart w hw; omega

/-! ## Requests served -/

/-- The requests that stand together are all written, in some order (R79). -/
theorem State.serve_store (s : State) (rs : List Request) :
    ∃ ws : List (Nat × Word), ws.Perm (rs.map Prod.snd) ∧ (s.serve rs).store = s.store.putAll ws := by
  induction length : rs.length generalizing s rs with
  | zero =>
    rw [List.eq_nil_of_length_eq_zero length]
    exact ⟨[], .refl _, rfl⟩
  | succ n ih =>
    obtain ⟨r, rest, rfl⟩ : ∃ r rest, rs = r :: rest := List.exists_cons_of_length_eq_add_one length
    cases chosen : s.arbiter.choose (fun g => (r :: rest).any fun q => q.1 == g) with
    | none =>
      have silent := Arbiter.choose_eq_none.1 chosen r.1
      simp at silent
    | some who =>
      have asked := (Arbiter.choose_eq_some chosen).1
      obtain ⟨q, first⟩ := Option.isSome_iff_exists.1 (List.find?_isSome.2 (List.any_eq_true.1 asked))
      obtain ⟨holds, before, after, split, none⟩ := List.find?_eq_some_iff_append.1 first
      have rest' : (r :: rest).eraseP (fun q => q.1 == who) = before ++ after := by
        rw [split, List.eraseP_append_right _ fun x hx => by simpa using none x hx, List.eraseP_cons_of_pos (p := fun q : Request => q.1 == who) holds]
      have shorter : (before ++ after).length = n := by
        have := congrArg List.length split
        simp only [List.length_append, List.length_cons] at this length ⊢
        omega
      obtain ⟨ws, perm, store⟩ := ih (s.write who [q.2]) (before ++ after) shorter
      refine ⟨q.2 :: ws, ?_, ?_⟩
      · rw [split, List.map_append, List.map_cons]
        rw [List.map_append] at perm
        exact (perm.cons _).trans List.perm_middle.symm
      · rw [State.serve_step chosen first, rest', store]
        rfl

/-- A word requested, which no other request cuts, stands once they are served. -/
theorem State.serve_word {s : State} {rs : List Request} (fuse : s.store.fuse = none) {a : Nat} {v : Word}
    (mem : (a, v) ∈ rs.map Prod.snd) (agree : ∀ r ∈ rs, Agree (a, v) r.2) : (s.serve rs).store.word a = v := by
  obtain ⟨ws, perm, store⟩ := s.serve_store rs
  rw [store]
  refine Memory.word_putAll fuse (fun w hw => ?_) (.inr (perm.mem_iff.2 mem))
  obtain ⟨r, hr, rfl⟩ := List.mem_map.1 (perm.mem_iff.1 hw)
  exact agree r hr

/-- Bytes that no request writes stay. -/
theorem State.serve_kept (s : State) {rs : List Request} {a n : Nat}
    (apart : ∀ r ∈ rs, r.2.1 + 4 ≤ a ∨ a + n ≤ r.2.1) : s.store.Kept (s.serve rs).store a n := by
  obtain ⟨ws, perm, store⟩ := s.serve_store rs
  rw [store]
  refine s.store.putAll_kept fun w hw => ?_
  obtain ⟨r, hr, rfl⟩ := List.mem_map.1 (perm.mem_iff.1 hw)
  exact apart r hr

theorem State.serve_fuse {s : State} (fuse : s.store.fuse = none) (rs : List Request) :
    (s.serve rs).store.fuse = none := by
  obtain ⟨ws, -, store⟩ := s.serve_store rs
  rw [store]
  exact Memory.putAll_fuse fuse ws

/-! ## The record of a bay -/

/-- A record whose state word alone is written changes in its state and its UNSURE mark alone (R149). -/
theorem bayOfWords_head {m m' : Memory} {a : Nat} {r : BayRecord} (head : m'.word a = r.headWord)
    (rest : m.Kept m' (a + 4) 28) :
    bayOfWords (m'.words a 8) = { bayOfWords (m.words a 8) with state := r.state, unsure := r.unsure } := by
  have state : field r.headWord 0 3 = r.state := congrArg BayRecord.state (bayOfWords_words r)
  have unsure : r.headWord[8] = r.unsure := congrArg BayRecord.unsure (bayOfWords_words r)
  have tail : m'.words (a + 4) 7 = m.words (a + 4) 7 := rest.words (Nat.le_refl _) (by omega)
  have cut (n : Memory) : n.words a 8 = n.word a :: n.words (a + 4) 7 := rfl
  rw [cut, cut, tail, head]
  simp [bayOfWords, state, unsure]

/-- A record written whole reads back (R149). -/
theorem bayOfWords_writesStateLast {m : Memory} (fuse : m.fuse = none) (a : Nat) (r : BayRecord) :
    bayOfWords ((m.putAll (r.writesStateLast a)).words a 8) = r := by
  have reads {x : Nat} {v : Word} (mem : (x, v) ∈ r.writesStateLast a)
      (agree : ∀ w ∈ r.writesStateLast a, Agree (x, v) w) : (m.putAll (r.writesStateLast a)).word x = v :=
    Memory.word_putAll fuse agree (.inr mem)
  have whole : (m.putAll (r.writesStateLast a)).words a 8 = r.words := by
    simp only [Memory.words, BayRecord.words]
    simp only [List.cons.injEq, and_true]
    refine ⟨?_, ?_, ?_, ?_, ?_, ?_, ?_, ?_⟩ <;> refine reads ?_ ?_ <;>
      simp [BayRecord.writesStateLast, BayRecord.words, wordsAt, Agree]
  rw [whole, bayOfWords_words]

/-! ## What the Ice Unit's steps leave -/

/-- What no step of the Ice Unit's own work changes; a notice that stands goes on standing. -/
structure OffIce (s t : State) : Prop where
  profile : t.profile = s.profile
  desk : t.desk = s.desk
  weigh : t.weigh = s.weigh
  tags : t.tags = s.tags
  clock : t.clock = s.clock
  noticed : ∀ n : Notice, s.noticed n = true → t.noticed n = true

theorem OffIce.frame : Frame OffIce False where
  refl _ := ⟨rfl, rfl, rfl, rfl, rfl, fun _ h => h⟩
  trans h k := ⟨k.profile.trans h.profile, k.desk.trans h.desk, k.weigh.trans h.weigh, k.tags.trans h.tags,
    k.clock.trans h.clock, fun n hn => k.noticed n (h.noticed n hn)⟩
  engine _ _ _ _ _ := ⟨rfl, rfl, rfl, rfl, rfl, fun _ h => h⟩
  memory _ _ _ := ⟨rfl, rfl, rfl, rfl, rfl, fun _ h => h⟩
  ice _ _ := ⟨rfl, rfl, rfl, rfl, rfl, fun _ h => h⟩
  raise s n := ⟨rfl, rfl, rfl, rfl, rfl, (s.raise_stations n).noticed⟩
  indicate _ _ := ⟨rfl, rfl, rfl, rfl, rfl, fun _ h => h⟩
  reports := False.elim

/-- What a step elsewhere leaves of bay b: its channel, its record's bytes, and the engine's registers. -/
structure BayKept (b : Fin 6) (s t : State) : Prop where
  off : OffIce s t
  engine : t.engine = s.engine
  limit : t.ice.limit = s.ice.limit
  bay : t.bay b = s.bay b
  span : s.store.Kept t.store (s.bayAddr b.val) 32
  fuse : s.store.fuse = none → t.store.fuse = none

namespace BayKept

variable {b : Fin 6} {s t u : State}

theorem bayAddr (h : BayKept b s t) (d : Nat) : t.bayAddr d = s.bayAddr d := by
  simp only [State.bayAddr, State.base, h.off.profile]

theorem refl (b : Fin 6) (s : State) : BayKept b s s :=
  ⟨OffIce.frame.refl s, rfl, rfl, rfl, .refl _ _ _, id⟩

theorem trans (h : BayKept b s t) (k : BayKept b t u) : BayKept b s u :=
  ⟨OffIce.frame.trans h.off k.off, k.engine.trans h.engine, k.limit.trans h.limit, k.bay.trans h.bay,
    h.span.trans (h.bayAddr b.val ▸ k.span), fun f => k.fuse (h.fuse f)⟩

theorem bayRecord (h : BayKept b s t) : t.bayRecord b.val = s.bayRecord b.val := by
  rw [State.bayRecord, State.bayRecord, h.bayAddr, h.span.words (Nat.le_refl _) (by omega)]

theorem recordFails (h : BayKept b s t) : t.recordFails (.bay b.val) = s.recordFails (.bay b.val) := by
  simp only [State.recordFails, State.recordSpan, h.bayAddr]
  exact h.span.failing

theorem guarded (h : BayKept b s t) (r : RecordId) : t.guarded r = s.guarded r := by
  simp only [State.guarded, h.engine]

theorem bayFitted (h : BayKept b s t) : t.bayFitted b = s.bayFitted b := by
  simp only [State.bayFitted, h.off.profile, h.bay]

theorem stamp (h : BayKept b s t) : t.stamp = s.stamp := by
  simp only [State.stamp, h.off.clock]

/-! ### Small updates -/

theorem of_store (off : OffIce s t) (engine : t.engine = s.engine) (ice : t.ice = s.ice)
    (span : s.store.Kept t.store (s.bayAddr b.val) 32) (fuse : s.store.fuse = none → t.store.fuse = none) :
    BayKept b s t :=
  ⟨off, engine, by rw [ice], by simp only [State.bay, ice], span, fuse⟩

theorem raise (s : State) (n : Notice) : BayKept b s (s.raise n) :=
  of_store (OffIce.frame.raise s n) rfl rfl (.refl _ _ _) id

theorem granted (s : State) (g : Grantee) : BayKept b s (s.granted g) :=
  of_store (OffIce.frame.granted s g) rfl rfl (.refl _ _ _) id

theorem indicateIf (s : State) (c : Bool) (i : Nat) : BayKept b s (s.indicateIf c i) :=
  of_store (OffIce.frame.indicateIf s c i) (by simp) (by simp) (by rw [State.indicateIf_store]; exact .refl _ _ _)
    (by rw [State.indicateIf_store]; exact id)

theorem setBay (s : State) {d : Fin 6} (other : b ≠ d) (c : BayChannel) : BayKept b s (s.setBay d c) :=
  ⟨OffIce.frame.setBay s d c, rfl, rfl, by rw [State.bay_setBay, if_neg other], .refl _ _ _, id⟩

theorem serve (s : State) {rs : List Request}
    (apart : ∀ r ∈ rs, r.2.1 + 4 ≤ s.bayAddr b.val ∨ s.bayAddr b.val + 32 ≤ r.2.1) : BayKept b s (s.serve rs) :=
  of_store (OffIce.frame.serve s rs) (by simp) (by simp) (s.serve_kept apart) fun f => State.serve_fuse f rs

theorem write (s : State) (g : Grantee) {ws : List (Nat × Word)}
    (apart : ∀ w ∈ ws, w.1 + 4 ≤ s.bayAddr b.val ∨ s.bayAddr b.val + 32 ≤ w.1) : BayKept b s (s.write g ws) :=
  of_store (OffIce.frame.write s g ws) rfl rfl (s.store.putAll_kept apart) fun f => Memory.putAll_fuse f ws

/-- Words of another bay's record. -/
theorem apart_of_other (s : State) {d : Fin 6} (other : b ≠ d) {x : Nat} (low : s.bayAddr d.val ≤ x)
    (high : x + 4 ≤ s.bayAddr d.val + 32) : x + 4 ≤ s.bayAddr b.val ∨ s.bayAddr b.val + 32 ≤ x := by
  have ne : b.val ≠ d.val := fun e => other (Fin.ext e)
  simp only [State.bayAddr] at low high ⊢
  omega

/-! ### Steps at another bay -/

variable {d : Fin 6} (other : b ≠ d)
include other

theorem setBayCopy (s : State) (r : BayRecord) : BayKept b s (s.setBayCopy d r) :=
  (setBay s other _).trans (indicateIf _ _ _)

theorem bayTransition (s : State) (r : BayRecord) : BayKept b s (s.bayTransition d r) := by
  unfold State.bayTransition
  dsimp only
  split
  · exact (setBayCopy other s r).trans (setBay _ other _)
  · exact setBayCopy other s r

theorem stateChange (s : State) (r : BayRecord) : BayKept b s (s.bayChange d r [0]) := by
  refine (bayTransition other s r).trans (serve _ fun q hq => ?_)
  have place : q.2.1 = s.bayAddr d.val := by
    unfold State.bayRequests at hq
    split at hq
    · cases hq
    · simp [requests, bayWordWrites] at hq
      rw [hq]
  have same : (s.bayTransition d r).bayAddr d.val = s.bayAddr d.val :=
    (bayTransition other s r).bayAddr d.val
  exact apart_of_other _ other (by omega) (by omega)

end BayKept

/-! ## A step for each bay in turn -/

/-- A step for every bay of a list leaves bay b to its own step, which finds the bay as it was. -/
theorem foldl_at_bay {b : Fin 6} {f : State → Fin 6 → State} (keeps : ∀ u d, b ≠ d → BayKept b u (f u d))
    {ds : List (Fin 6)} (distinct : ds.Nodup) (mem : b ∈ ds) (s : State) :
    ∃ u, BayKept b s u ∧ BayKept b (f u b) (ds.foldl f s) := by
  have later (es : List (Fin 6)) (absent : b ∉ es) (v : State) : BayKept b v (es.foldl f v) := by
    induction es generalizing v with
    | nil => exact .refl b v
    | cons e es ih =>
      rw [List.mem_cons, not_or] at absent
      exact (keeps v e absent.1).trans (ih absent.2 _)
  induction ds generalizing s with
  | nil => cases mem
  | cons d ds ih =>
    obtain ⟨absent, rest⟩ := List.nodup_cons.1 distinct
    by_cases here : b = d
    · subst here
      exact ⟨s, .refl b s, later ds absent _⟩
    · obtain ⟨u, before, after⟩ := ih rest ((List.mem_cons.1 mem).resolve_left here) (f s d)
      exact ⟨u, (keeps s d here).trans before, after⟩

/-- The same of the six bays in their order. -/
theorem six_bays {b : Fin 6} {f : State → Fin 6 → State} (keeps : ∀ u d, b ≠ d → BayKept b u (f u d)) (s : State) :
    ∃ u, BayKept b s u ∧ BayKept b (f u b) (f (f (f (f (f (f s 0) 1) 2) 3) 4) 5) :=
  have every : ∀ d : Fin 6, d ∈ ([0, 1, 2, 3, 4, 5] : List (Fin 6)) := by decide
  foldl_at_bay keeps (ds := [0, 1, 2, 3, 4, 5]) (by decide) (every b) s

end Sys2Proof.Machine
end

section
/-! The bay fix-ups of start-up, and a REQUEST that waited for them (R59, R167, R202). -/

namespace Sys2Proof.Machine

/-! ## A change of a bay record's state word -/

/-- The Ice Unit's change of a record's state that is not guarded, at the bays. -/
theorem State.bayChange_bay {s : State} {b : Fin 6} (free : s.guarded (.bay b.val) = false) (r : BayRecord)
    (ps : List Nat) (d : Fin 6) :
    (s.bayChange b r ps).bay d = if d = b then { s.bay b with copy := r } else s.bay d := by
  rw [State.bayChange_free free]
  exact s.setBayCopy_bay b d r

/-- The Ice Unit's change of a record's state that is not guarded, in the store: the other fields stay (R149). -/
theorem State.stateChange_bayRecord {s : State} {b : Fin 6} (free : s.guarded (.bay b.val) = false)
    (fuse : s.store.fuse = none) (r : BayRecord) :
    (s.bayChange b r [0]).bayRecord b.val = { s.bayRecord b.val with state := r.state, unsure := r.unsure } := by
  have addr : (s.bayChange b r [0]).bayAddr b.val = s.bayAddr b.val := by
    have := (OffIce.frame.bayChange s b r [0]).profile
    simp only [State.bayAddr, State.base, this]
  rw [State.bayRecord, addr, State.stateChange_store free]
  refine bayOfWords_head (Memory.word_putAll fuse ?_ (.inr (List.mem_singleton.2 rfl))) (s.store.putAll_kept ?_)
  · intro w hw
    cases List.mem_singleton.1 hw
    exact .inl rfl
  · intro w hw
    cases List.mem_singleton.1 hw
    exact .inl (Nat.le_refl _)

theorem State.stall_noticed (s : State) (b : Fin 6) (ps : List Nat) : (s.stall b ps).noticed .stall = true :=
  State.raise_noticed _ _

/-! ## The fix-up of one bay -/

section
variable {s : State} {b : Fin 6}

theorem State.zeroBay_bayRecord (fuse : s.store.fuse = none) : (s.zeroBay b).bayRecord b.val = BayRecord.zero :=
  bayOfWords_writesStateLast fuse (s.bayAddr b.val) BayRecord.zero

theorem State.zeroBay_copy : ((s.zeroBay b).bay b).copy = BayRecord.zero := by
  simp [State.zeroBay]

theorem State.fixBay_unformatted (blank : s.engine.copy.formatState = unformatted) : s.fixBay b = s.zeroBay b :=
  if_pos blank

theorem State.fixBay_unfitted (formed : s.engine.copy.formatState ≠ unformatted)
    (absent : s.profileFitsBay b = false) : s.fixBay b = s := by
  rw [State.fixBay, if_neg formed, absent]
  rfl

theorem State.fixBay_struck (formed : s.engine.copy.formatState ≠ unformatted)
    (fits : s.profileFitsBay b = true) (struck : s.recordFails (.bay b.val) = true) :
    s.fixBay b = (s.granted (.inner .ice)).retireBay b := by
  rw [State.fixBay, if_neg formed, if_pos fits]
  exact if_pos struck

theorem State.fixBay_read (formed : s.engine.copy.formatState ≠ unformatted)
    (fits : s.profileFitsBay b = true) (good : s.recordFails (.bay b.val) = false) :
    s.fixBay b = (s.granted (.inner .ice)).fixRecord b := by
  rw [State.fixBay, if_neg formed, if_pos fits]
  exact if_neg (Bool.eq_false_iff.1 good)

/-! ### By the state of the record -/

/-- The state of the hall once a bay's record is copied. -/
def State.bayRead (s : State) (b : Fin 6) : State := s.setBay b { s.bay b with copy := s.bayRecord b.val }

theorem State.bayRead_bay : (s.bayRead b).bay b = { s.bay b with copy := s.bayRecord b.val } := by
  simp [State.bayRead]

theorem State.bayRead_bayRecord (d : Nat) : (s.bayRead b).bayRecord d = s.bayRecord d := rfl

theorem State.fixRecord_hold (hold : (s.bayRecord b.val).state = bayHoldPending) :
    s.fixRecord b = (s.bayRead b).bayChange b { s.bayRecord b.val with state := bayIdle } [0] :=
  if_pos hold

theorem State.fixRecord_dispensing (running : (s.bayRecord b.val).state = bayDispensing) :
    s.fixRecord b = (s.bayRead b).stall b [0] := by
  have other : (s.bayRecord b.val).state ≠ bayHoldPending := by rw [running]; decide
  rw [State.fixRecord]
  exact (if_neg other).trans (if_pos running)

theorem State.fixRecord_settle (settles : (s.bayRecord b.val).state = baySettlePending) :
    s.fixRecord b = (s.bayRead b).setBay b { (s.bayRead b).bay b with
      pending := some ((s.bayRead b).settlePosting b (s.bayRecord b.val)) } := by
  have hold : (s.bayRecord b.val).state ≠ bayHoldPending := by rw [settles]; decide
  have running : (s.bayRecord b.val).state ≠ bayDispensing := by rw [settles]; decide
  rw [State.fixRecord]
  exact (if_neg hold).trans ((if_neg running).trans (if_pos settles))

theorem State.fixRecord_copied (hold : (s.bayRecord b.val).state ≠ bayHoldPending)
    (running : (s.bayRecord b.val).state ≠ bayDispensing)
    (settles : (s.bayRecord b.val).state ≠ baySettlePending) : s.fixRecord b = s.bayRead b := by
  rw [State.fixRecord]
  exact (if_neg hold).trans ((if_neg running).trans (if_neg settles))

end

/-! ## The six bays -/

namespace BayKept

variable {b d : Fin 6} (other : b ≠ d)
include other

theorem zeroBay (s : State) : BayKept b s (s.zeroBay d) := by
  refine (write s _ fun w hw => ?_).trans (setBay _ other _)
  refine apart_of_other s other ?_ ?_ <;>
    simp only [BayRecord.writesStateLast, List.mem_append, List.mem_singleton] at hw <;>
    rcases hw with hw | rfl
  · have := (wordsAt_range hw).1
    omega
  · exact Nat.le_refl _
  · have := (wordsAt_range hw).2
    simp only [BayRecord.words, List.tail_cons, List.length_cons, List.length_nil] at this
    omega
  · dsimp only
    omega

theorem fixRecord (s : State) : BayKept b s (s.fixRecord d) := by
  have read : BayKept b s (s.bayRead d) := setBay s other _
  by_cases hold : (s.bayRecord d.val).state = bayHoldPending
  · rw [State.fixRecord_hold hold]
    exact read.trans (stateChange other _ _)
  by_cases running : (s.bayRecord d.val).state = bayDispensing
  · rw [State.fixRecord_dispensing running]
    exact (read.trans (stateChange other _ _)).trans (raise _ _)
  by_cases settles : (s.bayRecord d.val).state = baySettlePending
  · rw [State.fixRecord_settle settles]
    exact read.trans (setBay _ other _)
  · rw [State.fixRecord_copied hold running settles]
    exact read

theorem fixBay (s : State) : BayKept b s (s.fixBay d) := by
  by_cases blank : s.engine.copy.formatState = unformatted
  · rw [State.fixBay_unformatted blank]
    exact zeroBay other s
  cases fits : s.profileFitsBay d with
  | false =>
    rw [State.fixBay_unfitted blank fits]
    exact refl b s
  | true =>
    cases struck : s.recordFails (.bay d.val) with
    | true =>
      rw [State.fixBay_struck blank fits struck]
      exact ((granted s _).trans (setBay _ other _)).trans (raise _ _)
    | false =>
      rw [State.fixBay_read blank fits struck]
      exact (granted s _).trans (fixRecord other _)

end BayKept

/-- The fix-up of bay b is its own step, from a state that shows the bay as start-up found it. -/
theorem State.fixBays_at (s : State) (b : Fin 6) :
    ∃ u, BayKept b s u ∧ BayKept b (u.fixBay b) s.fixBays :=
  six_bays (f := State.fixBay) (fun u _ other => BayKept.fixBay other u) s

section
variable {s : State} {b : Fin 6}

theorem BayKept.profileFitsBay {t : State} (h : BayKept b s t) : t.profileFitsBay b = s.profileFitsBay b := by
  simp only [State.profileFitsBay, h.off.profile]

/-- In an UNFORMATTED hall a bay's copy and record become IDLE and zero (log 38). -/
theorem State.fixBays_unformatted (fuse : s.store.fuse = none)
    (blank : s.engine.copy.formatState = unformatted) :
    (s.fixBays.bay b).copy = BayRecord.zero ∧ s.fixBays.bayRecord b.val = BayRecord.zero := by
  obtain ⟨u, before, after⟩ := s.fixBays_at b
  rw [after.bay, after.bayRecord, State.fixBay_unformatted (before.engine ▸ blank)]
  exact ⟨State.zeroBay_copy, State.zeroBay_bayRecord (before.fuse fuse)⟩

theorem State.fixBays_unfitted (formed : s.engine.copy.formatState ≠ unformatted)
    (absent : s.profileFitsBay b = false) :
    s.fixBays.bay b = s.bay b ∧ s.fixBays.bayRecord b.val = s.bayRecord b.val := by
  obtain ⟨u, before, after⟩ := s.fixBays_at b
  rw [after.bay, after.bayRecord,
    State.fixBay_unfitted (before.engine ▸ formed) (before.profileFitsBay.trans absent)]
  exact ⟨before.bay, before.bayRecord⟩

/-- A bay whose record's read is struck (R202 step 7). -/
theorem State.fixBays_struck (formed : s.engine.copy.formatState ≠ unformatted)
    (fits : s.profileFitsBay b = true) (struck : s.recordFails (.bay b.val) = true) :
    s.fixBays.bay b = { BayChannel.reset with outOfService := true } ∧
      s.fixBays.bayRecord b.val = s.bayRecord b.val ∧ s.fixBays.noticed .stall = true := by
  obtain ⟨u, before, after⟩ := s.fixBays_at b
  rw [State.fixBay_struck (before.engine ▸ formed) (before.profileFitsBay.trans fits)
    (before.recordFails.trans struck)] at after
  refine ⟨?_, after.bayRecord.trans before.bayRecord, after.off.noticed _ (State.raise_noticed _ _)⟩
  rw [after.bay]
  exact (State.bay_setBay _ _ _ _).trans (if_pos rfl)

/-- A bay whose record is read is fixed by its record as start-up found it. -/
theorem State.fixBays_read (formed : s.engine.copy.formatState ≠ unformatted)
    (fits : s.profileFitsBay b = true) (good : s.recordFails (.bay b.val) = false) :
    ∃ u, BayKept b s u ∧ BayKept b (u.fixRecord b) s.fixBays := by
  obtain ⟨u, before, after⟩ := s.fixBays_at b
  rw [State.fixBay_read (before.engine ▸ formed) (before.profileFitsBay.trans fits)
    (before.recordFails.trans good)] at after
  exact ⟨_, before.trans (.granted u _), after⟩

variable (formed : s.engine.copy.formatState ≠ unformatted) (fits : s.profileFitsBay b = true)
  (good : s.recordFails (.bay b.val) = false)
include formed fits good

theorem State.fixBays_hold (fuse : s.store.fuse = none) (free : s.engine.guard = [])
    (hold : (s.bayRecord b.val).state = bayHoldPending) :
    s.fixBays.bay b = { s.bay b with copy := { s.bayRecord b.val with state := bayIdle } } ∧
      s.fixBays.bayRecord b.val = { s.bayRecord b.val with state := bayIdle } := by
  obtain ⟨u, before, after⟩ := State.fixBays_read formed fits good
  have unguarded : (u.bayRead b).guarded (.bay b.val) = false :=
    State.guarded_of_empty (before.engine ▸ free) _
  have fuse' : (u.bayRead b).store.fuse = none := before.fuse fuse
  rw [after.bay, after.bayRecord, State.fixRecord_hold (before.bayRecord ▸ hold),
    State.bayChange_bay unguarded, if_pos rfl, State.stateChange_bayRecord unguarded fuse',
    State.bayRead_bay, State.bayRead_bayRecord, before.bay, before.bayRecord]
  exact ⟨rfl, rfl⟩

theorem State.fixBays_dispensing (fuse : s.store.fuse = none) (free : s.engine.guard = [])
    (running : (s.bayRecord b.val).state = bayDispensing) :
    s.fixBays.bay b = { s.bay b with copy := { s.bayRecord b.val with state := bayStalled } } ∧
      s.fixBays.bayRecord b.val = { s.bayRecord b.val with state := bayStalled } ∧
      s.fixBays.noticed .stall = true := by
  obtain ⟨u, before, after⟩ := State.fixBays_read formed fits good
  have unguarded : (u.bayRead b).guarded (.bay b.val) = false :=
    State.guarded_of_empty (before.engine ▸ free) _
  have fuse' : (u.bayRead b).store.fuse = none := before.fuse fuse
  rw [State.fixRecord_dispensing (before.bayRecord ▸ running)] at after
  refine ⟨after.bay.trans ?_, after.bayRecord.trans ?_, after.off.noticed _ (State.stall_noticed _ _ _)⟩
  · refine (State.bayChange_bay unguarded _ _ _).trans ?_
    rw [if_pos rfl, State.bayRead_bay, before.bay, before.bayRecord]
  · refine (State.stateChange_bayRecord unguarded fuse' _).trans ?_
    rw [State.bayRead_bay, State.bayRead_bayRecord, before.bayRecord]

theorem State.fixBays_settle (settles : (s.bayRecord b.val).state = baySettlePending) :
    s.fixBays.bayRecord b.val = s.bayRecord b.val ∧
      s.fixBays.bay b = { s.bay b with
        copy := s.bayRecord b.val
        pending := some (s.settlePosting b (s.bayRecord b.val)) } := by
  obtain ⟨u, before, after⟩ := State.fixBays_read formed fits good
  have posting : (u.bayRead b).settlePosting b (u.bayRecord b.val) =
      s.settlePosting b (s.bayRecord b.val) := by
    rw [before.bayRecord]
    exact congrArg (fun st => { s.settlePosting b (s.bayRecord b.val) with stamp := st }) before.stamp
  rw [State.fixRecord_settle (before.bayRecord ▸ settles), posting] at after
  refine ⟨after.bayRecord.trans before.bayRecord, after.bay.trans ?_⟩
  rw [State.bay_setBay, if_pos rfl, State.bayRead_bay, before.bay, before.bayRecord]

/-- Every other state is copied, a state code that R167 does not name too (log 20). -/
theorem State.fixBays_copied (hold : (s.bayRecord b.val).state ≠ bayHoldPending)
    (running : (s.bayRecord b.val).state ≠ bayDispensing)
    (settles : (s.bayRecord b.val).state ≠ baySettlePending) :
    s.fixBays.bay b = { s.bay b with copy := s.bayRecord b.val } ∧
      s.fixBays.bayRecord b.val = s.bayRecord b.val := by
  obtain ⟨u, before, after⟩ := State.fixBays_read formed fits good
  rw [State.fixRecord_copied (before.bayRecord ▸ hold) (before.bayRecord ▸ running)
    (before.bayRecord ▸ settles)] at after
  refine ⟨after.bay.trans ?_, after.bayRecord.trans before.bayRecord⟩
  rw [State.bayRead_bay, before.bay, before.bayRecord]

end

/-! ## A REQUEST that waited -/

section
variable {s : State} {p : PortId} {b : Fin 6} {v : Word}

/-- The access that writes bay b's REQUEST word. -/
abbrev requestAccess (b : Fin 6) (v : Word) : Access := ⟨portAddr 5 (0x52C + 64 * b.val), .word, some v⟩

theorem specialWordAt_request : ∀ b : Fin 6, specialWordAt 5 (0x52C + 64 * b.val) = .request b := by decide

theorem requestAccess_book (b : Fin 6) (v : Word) : (addrBook (requestAccess b v).addr).toNat = 5 :=
  addrBook_portAddr 5 _ (by decide)

theorem requestAccess_offset (b : Fin 6) (v : Word) : (requestAccess b v).offset = 0x52C + 64 * b.val :=
  addrOffset_portAddr 5 _ (by omega)

theorem requestAccess_limit (b : Fin 6) : 0x52C + 64 * b.val + 4 ≤ bookLimit 5 := by
  show _ ≤ 2048
  omega

theorem requestAccess_asRequest (b : Fin 6) (v : Word) : (requestAccess b v).asRequest = some (b, v) := by
  rw [Access.asRequest, if_pos (requestAccess_book b v)]
  simp only [requestAccess_offset, specialWordAt_request]

/-- The checks of a REQUEST at a fitted bay come to that of its shadows (R57, R154). -/
theorem State.request_checks (fitted : s.bayFitted b = true) (v : Word) :
    firstFail (s.wordChecks (.request b) v) =
      if s.takesValue (.request b) v then none else some .badValue := by
  simp only [State.wordChecks, firstFail, SpecialWord.writable, SpecialWord.setupOnly, SpecialWord.needsHold,
    State.wordFitted, fitted, State.slotFree, State.quietAllows, State.formatAllows]
  cases s.takesValue (.request b) v <;> rfl

/-- Without the check of its shadows a REQUEST at a fitted bay passes (R167, log 43). -/
theorem State.request_waitedChecks (mine : s.mayWrite (s.side p) 5 = true) (fitted : s.bayFitted b = true) :
    firstFail (s.waitedChecks (s.side p) (requestAccess b v)) = none := by
  have aligned : (0x52C + 64 * b.val) % 4 = 0 := by omega
  have limit := requestAccess_limit b
  simp only [State.waitedChecks, State.specialChecks, Access.isWrite, Access.aligned, requestAccess_offset,
    specialWordAt_request, State.wordChecks, SpecialWord.writable, SpecialWord.setupOnly, SpecialWord.needsHold,
    State.wordFitted, fitted, State.slotFree, State.quietAllows, State.formatAllows, mine]
  simp [firstFail, sizeBytes, limit, aligned]

/-- A REQUEST taken in SETUP at a bay whose record is not guarded (R155, R156). -/
theorem State.request_setup (setup : s.engine.mode = .setup) (free : s.guarded (.bay b.val) = false)
    (v : Word) (rs : List Request) :
    s.effect p (.request b) v rs = (s.bayStatus b (.refusal .hallSetup)).serve rs := by
  simp only [State.effect, State.deliverBay, free, Bool.false_eq_true, if_false, State.takeBayTrigger,
    State.takeRequest, setup, if_true]

/-- The write of a REQUEST that SETUP refuses: its word stands, the bay's STATUS is HALL_SETUP, the port is
answered DONE. -/
theorem State.writeRequest_setup (idle : (s.path p).wait = .free) (setup : s.engine.mode = .setup)
    (free : s.guarded (.bay b.val) = false) :
    s.writeSpecial p 5 (requestAccess b v) v =
      ((s.wroteWord p 5 (0x52C + 64 * b.val) v).setBay b
        { s.bay b with status := .refusal .hallSetup }).indicate (bayPlace b) := by
  have effect : (s.dropSnapshot p).effect p (.request b) v
        [(s.grantee p, s.base 5 + (0x52C + 64 * b.val), v)] =
      ((s.dropSnapshot p).bayStatus b (.refusal .hallSetup)).write (s.grantee p)
        [(s.base 5 + (0x52C + 64 * b.val), v)] :=
    (State.request_setup (by cases p <;> exact setup) (by cases p <;> exact free) v _).trans
      (State.serve_one _ _ _)
  refine (State.writeSpecial_stored (book := 5) (specialWordAt_request b) (by omega) rfl idle ?_).trans ?_
  · rw [effect]
    cases p <;> rfl
  · rw [effect]
    cases p <;> rfl

theorem State.checkWaiting_setup (setup : s.engine.mode = .setup)
    (waits : (s.path p).wait = .unchecked (requestAccess b v)) :
    s.checkWaiting p = (s.setWait p .free).checkWaitedRequest p (requestAccess b v) v := by
  simp only [State.checkWaiting, waits, setup, requestAccess_asRequest]

theorem State.checkWaiting_trading (trading : s.engine.mode = .trading) {a : Access}
    (waits : (s.path p).wait = .unchecked a) : s.checkWaiting p = s.checkAccess p a := by
  simp only [State.checkWaiting, waits, trading]

/-- A REQUEST whose kg shadow is zero faults BAD_VALUE when it is checked as any other access (R154). -/
theorem State.checkAccess_requestZero (mine : s.mayWrite (s.side p) 5 = true) (fitted : s.bayFitted b = true)
    (zero : (s.shadows.bay.get b).kg = 0) :
    s.checkAccess p (requestAccess b v) = (s.setWait p .free).faultAccess p (requestAccess b v) .badValue := by
  have special : (addrBook (requestAccess b v).addr).toNat < 7 := by rw [requestAccess_book]; decide
  have book : (⟨(addrBook (requestAccess b v).addr).toNat, special⟩ : Fin 7) = 5 :=
    Fin.ext (requestAccess_book b v)
  have bad : s.takesValue (.request b) v = false := by
    simp [State.takesValue, zero, inRange]
  have side : (s.setWait p .free).side p = s.side p := by cases p <;> rfl
  have fails : firstFail ((s.setWait p .free).specialChecks ((s.setWait p .free).side p) 5 (requestAccess b v)) =
      some .badValue := by
    rw [side]
    refine (State.specialChecks_write (book := 5) v (by cases p <;> exact mine) (requestAccess_limit b) (by omega)
      (by omega)).trans ?_
    rw [specialWordAt_request, State.request_checks (by cases p <;> exact fitted),
      show (s.setWait p .free).takesValue (.request b) v = false by cases p <;> exact bad]
    rfl
  rw [State.checkAccess, dif_pos special, book, State.checkSpecial_fails fails]

end

/-- Settles O42: the fix-up of each bay, which the others leave alone, and the checks of the waiting REQUEST. -/
theorem bayFixUps : Obligations.BayFixUps := by
  unfold Obligations.BayFixUps
  refine ⟨fun s r profile fuse guard => ?fixUps, fun s p b v running => ?waited⟩
  case fixUps =>
    have fits (b : Fin 6) : s.profileFitsBay b = decide (b.val < r.bays.toNat) := by
      simp only [State.profileFitsBay, profile]
    refine ⟨fun blank b => State.fixBays_unformatted fuse blank, fun formed b =>
      ⟨fun absent => State.fixBays_unfitted formed ?_, fun fitted struck => State.fixBays_struck formed ?_ struck,
        fun fitted good => ?_⟩⟩
    · rw [fits, decide_eq_false (by omega)]
    · rw [fits, decide_eq_true fitted]
    · have fitted : s.profileFitsBay b = true := by rw [fits, decide_eq_true fitted]
      exact ⟨State.fixBays_hold formed fitted good fuse guard,
        State.fixBays_dispensing formed fitted good fuse guard, State.fixBays_settle formed fitted good,
        State.fixBays_copied formed fitted good⟩
  case waited =>
    intro a waits mine fitted
    have side : (s.setWait p .free).side p = s.side p := by cases p <;> rfl
    refine ⟨fun setup free => ?_, fun trading zero => ?_⟩
    · have checks : firstFail ((s.setWait p .free).waitedChecks ((s.setWait p .free).side p) a) = none :=
        State.request_waitedChecks (by rw [side]; cases p <;> exact mine) (by cases p <;> exact fitted)
      rw [State.checkWaiting_setup setup waits, State.checkWaitedRequest, checks]
      refine (State.writeRequest_setup ?_ ?_ ?_).trans ?_
      · cases p <;> rfl
      · cases p <;> exact setup
      · cases p <;> exact free
      · cases p <;> rfl
    · rw [State.checkWaiting_trading trading waits]
      exact State.checkAccess_requestZero mine fitted zero

end Sys2Proof.Machine
end

section
/-! The stations through a step: what a relation has to hold across for every step of the machine to keep it,
when it looks at the Weigh and the Tag Unit alone. -/

namespace Sys2Proof.Machine

/-- A relation between a state and a later one that looks at the Weigh and the Tag Unit alone, and that none of
the operations on these two units breaks. A reset sets it up, whatever stood before. -/
structure StationFrame (R : State → State → Prop) : Prop where
  trans : ∀ {s t u}, R s t → R t u → R s u
  same : ∀ {s t : State}, t.weigh = s.weigh → t.tags = s.tags → R s t
  sampled : ∀ s n v, R s (s.takeSample n v)
  tested : ∀ s n, R s (s.takeTest n)
  committed : ∀ s n, R s (s.takeCommit n)
  read : ∀ s r v, R s (s.takeRaw r v)
  scaleReport : ∀ s n r t, R s (s.reportScale n r t)
  gateReport : ∀ s g t, R s (s.reportGate g t)
  admitted : ∀ s i, R s (s.dropWaiting i)
  copied : ∀ s c v, R s (s.setCopy c v)
  restarted : ∀ s, R s s.restartScales.restartReaders
  reset : ∀ (s u : State) (part : PartState), R s (u.dropVolatile part)

namespace StationFrame

variable {R : State → State → Prop} (F : StationFrame R) (s : State)
include F

theorem refl : R s s := F.same rfl rfl

theorem clock (c : HallClock) : R s { s with clock := c } := F.same rfl rfl

theorem cache (c : Cache) : R s { s with cache := c } := F.same rfl rfl

theorem setPath (p : PortId) (x : Path) : R s (s.setPath p x) :=
  F.same (State.setPath_weigh s p x) (State.setPath_tags s p x)

theorem answer (p : PortId) (r : Answer) : R s (s.answer p r) := F.setPath s p _

/-- The pieces of the engine's work, reports apart, keep the relation. -/
theorem quiet : Frame R False where
  refl := F.refl
  trans := F.trans
  engine _ _ _ _ _ := F.same rfl rfl
  memory _ _ _ := F.same rfl rfl
  ice _ _ := F.same rfl rfl
  raise _ _ := F.same rfl rfl
  indicate _ _ := F.same rfl rfl
  reports := False.elim

/-! ## Bays and reports -/

theorem bayStatus (b : Fin 6) (t : Status) : R s (s.bayStatus b t) := F.same rfl rfl

theorem bayApplied (b : Fin 6) (r : BayRecord) (q : Option Word) : R s (s.bayApplied b r q) :=
  F.trans (F.quiet.setBayCopy s b r) (F.bayStatus _ _ _)

theorem settleRefused (b : Fin 6) (p : Posting) (r : Reason) (t : Status) : R s (s.settleRefused b p r t) := by
  unfold State.settleRefused
  dsimp only
  split
  · exact F.trans (F.bayStatus s b t) (F.quiet.setBay _ _ _)
  · exact F.bayStatus s b t
  · exact F.trans (F.bayStatus s b t) (F.quiet.stall _ _ _)

theorem reportBay (b : Fin 6) (p : Posting) (r : Option Reason) (q : Option Word) (is : List Image) :
    R s (s.reportBay b p r q is) := by
  unfold State.reportBay
  split
  · split
    · exact F.trans (F.bayStatus s b _) (F.quiet.bayChange _ _ _ _)
    · exact F.settleRefused s b p _ _
  · split
    · exact F.bayApplied s b _ q
    · exact F.refl s

theorem handBayImage (is : List Image) (q : Option Word) : R s (s.handBayImage is q) := by
  unfold State.handBayImage
  split
  · exact F.bayApplied s _ _ q
  · exact F.refl s

theorem reports : Reports R := by
  intro s p r q v is
  unfold State.report
  dsimp only
  split
  · exact F.same rfl rfl
  · exact F.trans (F.handBayImage s is q) (F.same rfl rfl)
  · exact F.scaleReport s _ _ _
  · exact F.gateReport s _ _
  · exact F.reportBay s _ p r q is
  · exact F.same rfl rfl

/-- The engine's work, reports and all, keeps the relation. -/
theorem frame : Frame R True where
  refl := F.refl
  trans := F.trans
  engine _ _ _ _ _ := F.same rfl rfl
  memory := F.quiet.memory
  ice := F.quiet.ice
  raise := F.quiet.raise
  indicate := F.quiet.indicate
  reports _ := F.reports

/-! ## Intake -/

theorem enqueue (p : Posting) : R s (s.enqueue p) := by
  unfold State.enqueue
  split <;> exact F.same rfl rfl

theorem takeTrigger (slot : Fin 3) (v : Word) : R s (s.takeTrigger slot v) := by
  unfold State.takeTrigger
  split
  · exact F.same rfl rfl
  · split
    · exact F.trans (t := s.setDesk slot _) (F.same rfl rfl) (F.enqueue _ _)
    · exact F.same rfl rfl

theorem answeredBay (b : Fin 6) (t : Status) (rs : List Request) : R s ((s.bayStatus b t).serve rs) :=
  F.trans (F.bayStatus s b t) (F.frame.serve _ rs)

theorem takeRequest (b : Fin 6) (sh : BayShadow) (rs : List Request) : R s (s.takeRequest b sh rs) := by
  unfold State.takeRequest
  split
  · exact F.answeredBay s b _ rs
  · split
    · exact F.answeredBay s b _ rs
    · split
      · exact F.trans (F.trans (F.bayStatus s b _) (F.frame.bayChange _ _ _ _ _)) (F.enqueue _ _)
      · exact F.answeredBay s b _ rs

theorem takeDone (b : Fin 6) (sh : BayShadow) (rs : List Request) : R s (s.takeDone b sh rs) := by
  unfold State.takeDone
  dsimp only
  split
  · exact F.trans (F.frame.setBay s b _) (F.frame.bayChange _ _ _ _ _)
  · exact F.answeredBay s b _ rs

theorem takeBayTrigger (b : Fin 6) (isDone : Bool) (sh : BayShadow) (rs : List Request) :
    R s (s.takeBayTrigger b isDone sh rs) := Frame.ite s (F.takeDone s b sh rs) (F.takeRequest s b sh rs)

theorem takeHeld (b : Fin 6) : R s (s.takeHeld b) := by
  unfold State.takeHeld
  dsimp only
  split
  · exact F.refl s
  · next h hs _ =>
    have finished (u : State) : R u (u.finishHeld b h) := F.trans (F.takeBayTrigger u b _ _ _) (F.answer _ _ _)
    exact Frame.ite s (F.refl s) (F.trans (F.frame.setBay s b _) (finished _))

theorem admitInternal : R s s.admitInternal := by
  unfold State.admitInternal
  split
  · split
    · exact F.refl s
    · next i p _ =>
      refine F.trans (F.admitted s i) (F.trans (t := { s.dropWaiting i with
        engine := { (s.dropWaiting i).engine with pointer := afterPosition i } }) (F.same rfl rfl) (F.enqueue _ p))
  · exact F.refl s

/-! ## Effects of writes -/

theorem takeCommand (v : Word) : R s (s.takeCommand v) := by
  unfold State.takeCommand
  split
  · exact F.same rfl rfl
  · exact Frame.ite s (F.frame.takeNext s) (F.refl s)
  · exact F.frame.resumeCommand s trivial F.frame.undisturbed
  · exact F.frame.formatCommand s trivial F.frame.undisturbed
  · exact F.refl s

theorem clockControlWrite (v : Word) : R s (s.clockControlWrite v) := by
  have hold : R s (s.takeHold (v.getLsbD 0)) := Frame.ite s (F.same rfl rfl) (F.same rfl rfl)
  exact F.trans hold (F.same rfl rfl)

theorem blockEffect (w : SpecialWord) (v : Word) : R s (s.blockEffect w v) := by
  cases w with
  | command => exact F.takeCommand s v
  | clockControl => exact F.clockControlWrite s v
  | tail =>
    show R s (s.setTail v)
    rw [State.setTail_eq]
    exact F.same rfl rfl
  | config c => exact F.copied s c v
  | commit n => exact F.committed s n
  | sample n => exact F.sampled s n _
  | test n => exact F.tested s n
  | raw r => exact F.read s r v
  | trigger slot => exact F.takeTrigger s slot v
  | _ => exact F.same rfl rfl

theorem restartBay (b : Fin 6) : R s (s.restartBay b) := by
  refine Frame.ite s (F.trans ?_ (F.frame.raise _ _)) (F.refl s)
  exact F.trans (F.frame.setBayCopy s b _) (Frame.ite _ (F.frame.setBay _ _ _) (F.refl _))

theorem quayRestart (rs : List Request) : R s (s.quayRestart rs) := by
  have bays (u : State) : R u (u.restartBays rs) :=
    F.trans (F.trans (F.trans (F.trans (F.trans (F.trans (F.restartBay u 0) (F.restartBay _ 1)) (F.restartBay _ 2))
      (F.restartBay _ 3)) (F.restartBay _ 4)) (F.restartBay _ 5)) (F.frame.serve _ _)
  exact F.trans (F.trans (F.restarted s) (bays _)) (F.same rfl rfl)

theorem deliverBay (port : PortId) (b : Fin 6) (isDone : Bool) (v : Word) (rs : List Request) :
    R s (s.deliverBay port b isDone v rs) :=
  Frame.ite s (F.trans (F.frame.setBay s b _) (F.setPath _ _ _)) (F.takeBayTrigger s b isDone _ rs)

theorem effect (port : PortId) (w : SpecialWord) (v : Word) (rs : List Request) :
    R s (s.effect port w v rs) := by
  cases w with
  | quayRestart => exact F.quayRestart s rs
  | request b => exact F.deliverBay s port b false v rs
  | done b => exact F.deliverBay s port b true v rs
  | _ => exact F.trans (F.blockEffect s _ v) (F.frame.serve _ rs)

/-! ## Accesses -/

theorem faultAccess (p : PortId) (a : Access) (r : FaultReason) : R s (s.faultAccess p a r) := by
  have latched : R s (s.latchFault p a r) := by
    unfold State.latchFault
    split <;> exact F.same rfl rfl
  exact F.trans latched (F.answer _ p _)

theorem storeRead (p : PortId) (a : Access) (base : Nat) : R s (s.storeRead p a base) :=
  F.trans (F.frame.granted s _) (Frame.ite _ (F.faultAccess _ p a _) (F.answer _ p _))

theorem latchRecord (p : PortId) (book : Fin 7) (a : Access) : R s (s.latchRecord p book a) :=
  F.trans (F.frame.granted s _) (Frame.ite _ (F.trans (F.setPath _ p _) (F.faultAccess _ p a _))
    (F.trans (F.setPath _ p _) (F.answer _ p _)))

theorem storedRead (p : PortId) (book : Fin 7) (a : Access) : R s (s.storedRead p book a) :=
  Frame.ite s (F.latchRecord s p book a) (F.storeRead s p a _)

theorem guardedRead (p : PortId) (book : Fin 7) (a : Access) : R s (s.guardedRead p book a) :=
  Frame.ite s (F.setPath s p _) (F.storedRead s p book a)

theorem readSpecial (p : PortId) (book : Fin 7) (a : Access) : R s (s.readSpecial p book a) := by
  unfold State.readSpecial
  split
  · exact F.trans (F.setPath s p _) (F.answer _ p _)
  · exact F.trans (F.setPath s p _) (F.answer _ p _)
  · split
    · exact F.answer s p _
    · split
      · exact F.trans (F.setPath s p _) (F.guardedRead _ p book a)
      · split
        · exact F.answer s p _
        · exact F.guardedRead s p book a

theorem writeSpecial (p : PortId) (book : Fin 7) (a : Access) (v : Word) : R s (s.writeSpecial p book a v) := by
  have taken (rs : List Request) : R s ((s.dropSnapshot p).effect p (specialWordAt book a.offset) v rs) :=
    F.trans (F.setPath s p _) (F.effect _ p _ v rs)
  exact Frame.ite s (taken _) (F.trans (taken _) (F.answer _ p _))

theorem checkSpecial (p : PortId) (book : Fin 7) (a : Access) : R s (s.checkSpecial p book a) := by
  unfold State.checkSpecial
  split
  · exact F.faultAccess s p a _
  · split
    · exact F.readSpecial s p book a
    · exact F.writeSpecial s p book a _

theorem checkPlain (p : PortId) (d : Descriptor) (a : Access) : R s (s.checkPlain p d a) := by
  unfold State.checkPlain
  split
  · exact F.faultAccess s p a _
  · split
    · exact F.storeRead s p a _
    · exact F.trans (F.trans (F.setPath s p _) (F.frame.memory _ _ _)) (F.answer _ p _)

theorem plainAccess (p : PortId) (book : BitVec 6) (a : Access) : R s (s.plainAccess p book a) := by
  unfold State.plainAccess
  split
  · exact F.checkPlain s p _ a
  · exact F.setPath s p _
  · exact F.trans (F.cache s _) (F.setPath _ p _)

theorem checkAccess (p : PortId) (a : Access) : R s (s.checkAccess p a) := by
  unfold State.checkAccess
  dsimp only
  split
  · exact F.trans (F.setPath s p _) (F.checkSpecial _ p _ a)
  · exact F.trans (F.setPath s p _) (F.plainAccess _ p _ a)

theorem arrive (p : PortId) (a : Access) : R s (s.arrive p a) := by
  unfold State.arrive
  split
  · split
    · exact F.refl s
    · exact F.setPath s p _
    · exact F.faultAccess s p a _
    · exact F.checkAccess s p a
  · exact F.refl s

theorem tailsBetween (tails : List (RunPoint × PortId × Word)) : (tailsBetween tails).Within R := by
  intro point u
  unfold Machine.tailsBetween
  generalize tails.filter _ = ts
  induction ts generalizing u with
  | nil => exact F.refl u
  | cons t ts ih => exact F.trans (F.arrive u _ _) (ih _)

theorem bothPorts {f : State → PortId → State} (hf : ∀ u p, R u (f u p)) : R s (s.bothPorts f) :=
  F.trans (hf s _) (hf _ _)

theorem settleFetch (book : BitVec 6) (d : Option Descriptor) (p : PortId) : R s (s.settleFetch book d p) := by
  unfold State.settleFetch
  split
  · split
    · split
      · exact F.trans (F.setPath s p _) (F.checkPlain _ p _ _)
      · exact F.faultAccess s p _ _
    · exact F.refl s
  · exact F.refl s

theorem endFetch (book : BitVec 6) : R s (s.endFetch book) := by
  unfold State.endFetch
  split
  · refine F.trans (F.frame.granted s (.inner .cache)) ?_
    dsimp only
    split
    · exact F.trans (F.cache _ _) (F.bothPorts _ fun u p => F.settleFetch u book _ p)
    · split
      · exact F.cache _ _
      · exact F.trans (F.cache _ _) (F.bothPorts _ fun u p => F.settleFetch u book _ p)
  · exact F.refl s

theorem resumeRead (p : PortId) : R s (s.resumeRead p) := by
  unfold State.resumeRead
  split
  · split
    · exact Frame.ite s (F.refl s) (F.trans (F.setPath s p _) (F.storedRead _ p _ _))
    · exact F.refl s
  · exact F.refl s

/-! ## Ticks -/

theorem tickBay (b : Fin 6) : R s (s.tickBay b) :=
  Frame.ite s (Frame.ite s (F.trans (F.frame.bayChange s b _ _) (F.frame.raise _ _)) (F.frame.bayChange s b _ _))
    (F.refl s)

theorem matchEntry (k : Fin 4) : R s (s.matchEntry k) := by
  have action (u : State) : R u (u.scheduleAction k) := by
    unfold State.scheduleAction
    split
    · exact Frame.ite u (F.same rfl rfl) (F.refl u)
    all_goals exact F.same rfl rfl
  exact F.trans (Frame.ite s (F.trans (F.clock s _) (action _)) (F.refl s)) (F.clock _ _)

theorem tick : R s s.tick := by
  have bays (u : State) : R u u.tickBays :=
    F.trans (F.trans (F.trans (F.trans (F.trans (F.tickBay u 0) (F.tickBay _ 1)) (F.tickBay _ 2))
      (F.tickBay _ 3)) (F.tickBay _ 4)) (F.tickBay _ 5)
  have entries (u : State) : R u u.matchSchedule :=
    F.trans (F.trans (F.trans (F.matchEntry u 0) (F.matchEntry _ 1)) (F.matchEntry _ 2)) (F.matchEntry _ 3)
  have running (u : State) : R u (if u.part = .running then u.tickBays.matchSchedule else u) :=
    Frame.ite u (F.trans (bays u) (entries _)) (F.refl u)
  exact Frame.ite s (F.trans (F.trans (F.clock s _) (F.frame.raiseIf _ _ _)) (running _)) (F.refl s)

/-! ## Start-up, reset and power -/

theorem checkWaiting (p : PortId) : R s (s.checkWaiting p) := by
  unfold State.checkWaiting
  split
  · split
    · unfold State.checkWaitedRequest
      split
      · exact F.trans (F.setPath s p _) (F.faultAccess _ p _ _)
      · exact F.trans (F.setPath s p _) (F.writeSpecial _ p 5 _ _)
    · exact F.checkAccess s p _
  · exact F.refl s

theorem faultWaiting (p : PortId) : R s (s.faultWaiting p) := by
  unfold State.faultWaiting
  split
  · exact F.faultAccess s p _ _
  · exact F.refl s

theorem enterRunning {between : Between} (hb : between.Within R) : R s (s.enterRunning between) := by
  rw [State.enterRunning_eq]
  refine F.trans (F.trans (t := s.setRunning) (F.same rfl rfl) ?_) (F.bothPorts _ F.checkWaiting)
  exact F.trans (F.frame.raiseIf _ _ _) (F.frame.rerunClose _ hb fun _ _ _ _ => trivial)

theorem startWithin {between : Between} (hb : between.Within R) : R s (s.startWithin between) := by
  unfold State.startWithin
  split
  · exact F.trans (t := { s with part := .noProfile, profile := none }) (F.same rfl rfl)
      (F.bothPorts _ F.faultWaiting)
  · next p _ =>
    rw [State.startWith_eq]
    refine F.trans (F.trans (t := s.holdProfile p) (F.same rfl rfl) ?_) (F.enterRunning _ hb)
    exact F.frame.startSteps _ F.copied fun _ => F.same rfl rfl

theorem startUp : R s s.startUp := F.startWithin s F.frame.undisturbed

theorem powerOn : R s s.powerOn := by
  refine Frame.ite s (F.trans (F.reset s s .starting) ?_) (F.refl s)
  exact Frame.ite _ (F.same rfl rfl) (F.refl _)

theorem powerUp : R s s.powerUp := Frame.ite s (F.trans (F.powerOn s) (F.startUp _)) (F.refl s)

theorem resetLine (event : ResetEvent) : R s (s.resetLine event) :=
  Frame.ite s (F.trans (F.reset s _ .starting) (Frame.ite _ (F.startUp _) (F.refl _))) (F.refl s)

theorem powerOff (cut : Cut) : R s (s.powerOff cut) := Frame.ite s (F.reset s _ .unpowered) (F.refl s)

theorem commandWithin (p : PortId) {command : State → State} (hc : ∀ u, R u (command u)) :
    R s (s.commandWithin p command) :=
  Frame.ite s (F.trans (F.trans (F.setPath s p _) (F.answer _ p _)) (hc _)) (F.refl s)

theorem runWithin (work : RunWork) {between : Between} (hb : between.Within R) : R s (s.runWithin work between) := by
  unfold State.runWithin
  split
  · exact F.frame.postingWithin s trivial hb
  · exact F.commandWithin s _ fun u => F.frame.formatCommand u trivial hb
  · exact F.commandWithin s _ fun u => F.frame.resumeCommand u trivial hb
  · split
    · exact F.frame.journalRelease s trivial hb
    · exact F.refl s
  · exact Frame.ite s (F.trans (F.powerOn s) (F.startWithin _ hb)) (F.refl s)

theorem writeTail (p : PortId) (event : TailEvent) : R s (s.writeTail p event) := by
  unfold State.writeTail
  split
  · exact F.arrive s _ _
  · exact F.runWithin s _ (F.tailsBetween _)

/-! ## Steps -/

theorem applyRow (k : PostKind) (plan : Posting → Plan) : R s (s.applyRow k plan) := by
  unfold State.applyRow
  split
  · exact F.frame.applyPlan s trivial _ _ _
  · exact F.refl s

theorem formatRow : R s s.formatRow := by
  unfold State.formatRow
  split
  · exact F.frame.applyFormat s trivial _ F.frame.undisturbed
  · exact F.refl s

theorem unknownRow : R s s.unknownRow := by
  unfold State.unknownRow
  split
  · exact Frame.ite s (F.frame.applyUnknown s trivial _) (F.refl s)
  · exact F.refl s

/-- Every command keeps the relation. -/
theorem exec_keeps {s t : State} (i : Instr) (e : exec i s = .next t) : R s t := by
  cases i
  case powerUp => cases e; exact F.powerUp s
  case reset event => cases e; exact F.resetLine s event
  case mainPowerOff cut => cases e; exact F.powerOff s cut
  case secondTick => cases e; exact F.tick s
  case stallTimeout b => cases e; exact Frame.ite s (F.tick s) (F.refl s)
  case crystalStop count =>
    cases e
    exact Frame.ite s (F.trans (F.clock s _) (F.frame.raiseIf _ _ _)) (F.refl s)
  case crystalRunsAgain => cases e; exact Frame.ite s (F.clock s _) (F.refl s)
  case backupSupplyLost => cases e; exact Frame.ite s (F.clock s _) (F.refl s)
  case descriptorFetchDone book => cases e; exact F.endFetch s book
  case guardedReadResume p => cases e; exact F.resumeRead s p
  case tailWrite p event => cases e; exact F.writeTail s p event
  case journalWaitRelease => cases e; exact F.frame.journalRelease s trivial F.frame.undisturbed
  case bayHeldTrigger b => cases e; exact F.takeHeld s b
  case bayRecordWriteBack b => cases e; exact Frame.ite s (F.frame.writeBack s b) (F.refl s)
  case internalAdmission => cases e; exact F.admitInternal s
  case format => cases e; exact F.formatRow s
  case unknownKind => cases e; exact F.unknownRow s
  case openAccount | setCredit | freeze | thaw | closeAccount | transfer | land | sell | withdraw | lend |
      returnCrate | registerCrate | retireCrate | writeOff | iceHold | iceSettle | bayRelease | dayClose =>
    cases e; exact F.applyRow s _ _
  all_goals cases e; exact F.arrive s _ _

/-- Every step keeps the relation. -/
theorem step_keeps {s t : State} (e : step s = .next t) : R s t := by
  unfold step at e
  split at e
  · unfold idleStep at e
    split at e
    · cases e; exact F.startUp s
    · cases e; exact F.refl s
  · next c cs _ => exact F.trans (t := { s with pending := cs }) (F.same rfl rfl) (F.exec_keeps c e)

end StationFrame

end Sys2Proof.Machine
end

section
/-! The tray law (R80, R84, R90): what a claim answers, and that every operation on the scale channels keeps
their trays. -/

namespace Sys2Proof.Machine

variable {s : State}

/-! ## Claims -/

/-- The tray's answer to a claim, in the order of R90. -/
theorem ScaleChannel.claim_eq (c : ScaleChannel) (code : Word) :
    c.claim code =
      if c.state = .empty ∨ c.commit ≠ .opened then .ignored
      else if tagCrate code ∈ c.tray.map tagCrate then .duplicate
      else if 16 ≤ c.tray.length then .trayFull
      else .added := by
  have holds : (c.tray.any fun t => tagCrate t == tagCrate code) = decide (tagCrate code ∈ c.tray.map tagCrate) := by
    rw [Bool.eq_iff_iff]
    simp
  unfold ScaleChannel.claim
  rw [holds]
  by_cases empty : c.state = .empty
  · simp [empty]
  · cases c.commit <;> simp [empty]

/-- A code is ADDED by a loaded channel whose tray has room and not its crate. -/
theorem ScaleChannel.claim_added {c : ScaleChannel} {code : Word} (h : c.claim code = .added) :
    c.state ≠ .empty ∧ tagCrate code ∉ c.tray.map tagCrate ∧ c.tray.length < 16 := by
  rw [ScaleChannel.claim_eq] at h
  split at h
  · cases h
  · next taken =>
    split at h
    · cases h
    · next fresh =>
      split at h
      · cases h
      · next room => exact ⟨fun empty => taken (.inl empty), fresh, Nat.lt_of_not_le room⟩

/-! ## The law at one channel -/

/-- The tray law at one channel. -/
def ScaleChannel.TrayLaw (c : ScaleChannel) : Prop :=
  c.tray.length ≤ 16 ∧ (c.tray.map tagCrate).Nodup ∧ (c.state = .empty → c.tray = [])

theorem trayLaw_iff : TrayLaw s ↔ ∀ n, (s.scale n).TrayLaw := Iff.rfl

namespace ScaleChannel.TrayLaw

theorem of_nil {c : ScaleChannel} (h : c.tray = []) : c.TrayLaw := by
  simp [ScaleChannel.TrayLaw, h]

theorem ite {c d : ScaleChannel} {p : Prop} [Decidable p] (h : c.TrayLaw) (k : d.TrayLaw) :
    (if p then c else d).TrayLaw := by split <;> assumption

/-- A tray that stays keeps the law in a channel that has not entered EMPTY. -/
theorem of_tray {c d : ScaleChannel} (h : c.TrayLaw) (tray : d.tray = c.tray)
    (state : d.state = .empty → c.state = .empty) : d.TrayLaw := by
  obtain ⟨room, once, empty⟩ := h
  exact ⟨tray ▸ room, tray ▸ once, fun e => tray ▸ empty (state e)⟩

/-- A load that leaves the pan takes its tray along; every other sample leaves the tray (R84 to R87). -/
theorem sample {c : ScaleChannel} (h : c.TrayLaw) (p : SettleCopies) (v : Nat) : (c.sample p v).TrayLaw := by
  unfold ScaleChannel.sample
  split
  · unfold ScaleChannel.sampleBelow
    split
    · exact h
    · exact of_nil rfl
  · cases state : c.state with
    | empty => exact h.of_tray rfl (by rintro ⟨⟩)
    | unsettled => exact ite (h.of_tray rfl (by rintro ⟨⟩)) (h.of_tray rfl id)
    | settled => exact ite (h.of_tray rfl (by rintro ⟨⟩)) (ite (h.of_tray rfl id) (h.of_tray rfl id))

theorem claimed {c : ScaleChannel} (h : c.TrayLaw) (code : Word) : (c.claimed code).TrayLaw := by
  unfold ScaleChannel.claimed
  split
  · next added =>
    obtain ⟨loaded, fresh, room⟩ := ScaleChannel.claim_added added
    refine ⟨by simpa using room, ?_, fun empty => absurd empty loaded⟩
    rw [List.map_append, List.map_singleton, List.nodup_append_comm, List.singleton_append, List.nodup_cons]
    exact ⟨fresh, h.2.1⟩
  · exact h

end ScaleChannel.TrayLaw

/-! ## The law from state to state -/

/-- Every channel that keeps the tray law in the first state keeps it in the second. -/
def KeepsTrays (s t : State) : Prop := ∀ n, (s.scale n).TrayLaw → (t.scale n).TrayLaw

namespace KeepsTrays

theorem of_scale {s t : State} (h : ∀ n, t.scale n = s.scale n) : KeepsTrays s t := fun n law => h n ▸ law

theorem trans {s t u : State} (h : KeepsTrays s t) (k : KeepsTrays t u) : KeepsTrays s u :=
  fun n law => k n (h n law)

/-- A channel replaced by one that keeps the law. -/
theorem setScale (s : State) (n : Fin 8) {c : ScaleChannel} (h : (s.scale n).TrayLaw → c.TrayLaw) :
    KeepsTrays s (s.setScale n c) := by
  intro m law
  rw [State.scale_setScale]
  split
  · next e => exact h (e ▸ law)
  · exact law

theorem takeSample (s : State) (n : Fin 8) (v : Nat) : KeepsTrays s (s.takeSample n v) :=
  (setScale s n fun law => law.sample _ v).trans (of_scale fun _ => State.indicateIf_scale _ _ _ _)

theorem takeTest (s : State) (n : Fin 8) : KeepsTrays s (s.takeTest n) :=
  setScale s n fun law => law.of_tray rfl id

theorem takeCommit (s : State) (n : Fin 8) : KeepsTrays s (s.takeCommit n) := by
  have answered (t : Status) : KeepsTrays s (s.scaleStatus n t) := setScale s n fun law => law.of_tray rfl id
  have queued (u : State) (p : Posting) : KeepsTrays u (u.enqueue p) := by
    refine of_scale fun m => ?_
    unfold State.enqueue
    split <;> rfl
  unfold State.takeCommit
  dsimp only
  split
  · exact answered _
  · split
    · exact answered _
    · split
      · exact answered _
      · split
        · refine trans ?_ (queued _ _)
          exact setScale s n fun law => law.of_tray rfl id
        · exact answered _

theorem readerStatus (s : State) (r : Fin 12) (t : Status) : KeepsTrays s (s.readerStatus r t) :=
  of_scale fun _ => rfl

theorem declareAtScale (s : State) (n : Fin 8) (v : Word) : KeepsTrays s (s.declareAtScale n v) :=
  (setScale s n fun law => law.claimed v).trans (readerStatus _ _ _)

theorem declareAtGate (s : State) (g : Fin 4) (v : Word) : KeepsTrays s (s.declareAtGate g v) := by
  unfold State.declareAtGate
  dsimp only
  split
  · exact readerStatus s _ _
  · exact of_scale fun _ => rfl

theorem declare (s : State) (r : Fin 12) (v : Word) : KeepsTrays s (s.declare r v) := by
  unfold State.declare
  dsimp only
  split
  · exact (of_scale fun _ => rfl).trans (declareAtScale (s.setReader r _) _ v)
  · exact (of_scale fun _ => rfl).trans (declareAtGate (s.setReader r _) _ v)

theorem takeRaw (s : State) (r : Fin 12) (v : Word) : KeepsTrays s (s.takeRaw r v) := by
  unfold State.takeRaw
  split
  · exact of_scale fun _ => rfl
  · dsimp only
    split
    · exact (of_scale fun _ => rfl).trans (declare (s.setReader r _) r v)
    · exact of_scale fun _ => rfl

theorem reportScale (s : State) (n : Fin 8) (r : Option Reason) (t : Status) :
    KeepsTrays s (s.reportScale n r t) := by
  refine trans ?_ (of_scale fun _ => State.indicate_scale _ _ _)
  exact setScale s n fun law => law.of_tray rfl id

theorem setCopy (s : State) (c : ConfigWord) (v : Word) : KeepsTrays s (s.setCopy c v) := by
  refine of_scale fun n => ?_
  cases c with
  | stepMode =>
    obtain ⟨st, w, q, e⟩ := s.setStepMode_eq (v != 0)
    rw [State.setCopy, e]
    rfl
  | declareMode =>
    obtain ⟨rs, e⟩ := s.setDeclareMode_eq (declareModeOf v)
    rw [State.setCopy, e]
    rfl
  | _ => rfl

theorem restartScales (s : State) : KeepsTrays s s.restartScales := by
  intro n _
  rw [State.scale, State.restartScales, mapBank_get]
  exact .of_nil rfl

theorem dropWaiting (s : State) (i : Fin 11) : KeepsTrays s (s.dropWaiting i) := by
  refine of_scale fun n => ?_
  unfold State.dropWaiting
  split
  · rfl
  · split
    · rfl
    · split <;> rfl

/-- A reset leaves every tray empty (R80). -/
theorem dropVolatile (s u : State) (part : PartState) : KeepsTrays s (u.dropVolatile part) := by
  intro n _
  rw [(u.dropVolatile_fresh part).scale n]
  exact .of_nil rfl

theorem stationFrame : StationFrame KeepsTrays where
  trans := trans
  same weigh _ := of_scale fun n => by rw [State.scale, weigh, State.scale]
  sampled := takeSample
  tested := takeTest
  committed := takeCommit
  read := takeRaw
  scaleReport := reportScale
  gateReport _ _ _ := of_scale fun _ => rfl
  admitted := dropWaiting
  copied := setCopy
  restarted s := (restartScales s).trans (of_scale fun _ => rfl)
  reset := dropVolatile

end KeepsTrays

/-- Settles O5: every operation on the scale channels keeps their trays, and so does every step. -/
theorem stepKeepsTrayLaw : Obligations.StepKeepsTrayLaw := by
  unfold Obligations.StepKeepsTrayLaw
  intro s t law e
  rw [trayLaw_iff] at law ⊢
  exact fun n => KeepsTrays.stationFrame.step_keeps e n (law n)

end Sys2Proof.Machine
end

section
/-! SAMPLE and TEST (R83 to R88): what a write of each comes to at its channel, in every channel state. -/

namespace Sys2Proof.Machine

variable {s : State}

/-! ## The channel -/

/-- The band test passes without a test miss flag and within the band (R83). -/
theorem bandTest_iff (c : ScaleChannel) (band reference v : Nat) :
    bandTest c band reference v = true ↔ c.testMiss = false ∧ distance v reference ≤ band := by
  simp [bandTest]

namespace ScaleChannel

variable {c : ScaleChannel} {p : SettleCopies} {v : Nat}

theorem sample_below (light : v < p.empty.toNat) : c.sample p v = c.sampleBelow := if_pos light

theorem sample_empty (heavy : p.empty.toNat ≤ v) (state : c.state = .empty) : c.sample p v = c.beginLoad v := by
  simp only [ScaleChannel.sample, if_neg (Nat.not_lt.2 heavy), state]

theorem sample_unsettled (heavy : p.empty.toNat ≤ v) (state : c.state = .unsettled) :
    c.sample p v = c.sampleUnsettled p v := by
  simp only [ScaleChannel.sample, if_neg (Nat.not_lt.2 heavy), state]

theorem sample_settled (heavy : p.empty.toNat ≤ v) (state : c.state = .settled) :
    c.sample p v = c.sampleSettled p v := by
  simp only [ScaleChannel.sample, if_neg (Nat.not_lt.2 heavy), state]

end ScaleChannel

/-- A channel replaced by itself changes nothing. -/
theorem State.setScale_scale (u : State) (n : Fin 8) : u.setScale n (u.scale n) = u := by
  have same : u.weigh.scales.set n (u.scale n) = u.weigh.scales := Vector.set_getElem_self _
  rw [State.setScale, same]

/-! ## The writes -/

theorem specialWordAt_sample : ∀ n : Fin 8, specialWordAt 5 (0x110 + 64 * n.val) = .sample n := by decide
theorem specialWordAt_test : ∀ n : Fin 8, specialWordAt 5 (0x114 + 64 * n.val) = .test n := by decide

theorem State.takeSample_apart (n : Fin 8) (v : Nat) : Apart fun u => u.takeSample n v := by
  intro u m a x y
  unfold State.takeSample State.indicateIf
  simp only [apply_ite (fun t : State => t.rewired m a x y)]
  rfl

theorem State.takeTest_apart (n : Fin 8) : Apart fun u => u.takeTest n := fun _ _ _ _ _ => rfl

/-- A write passes the checks of its word when it meets each of them (R57). -/
theorem State.wordChecks_pass {w : SpecialWord} {v : Word} (writable : w.writable = true)
    (mode : w.setupOnly = false) (hold : w.needsHold = false) (free : s.slotFree w = true)
    (quiet : s.quietAllows w v = true) (formatted : s.formatAllows w v = true) (value : s.takesValue w v = true)
    (fitted : s.wordFitted w = true) : firstFail (s.wordChecks w v) = none := by
  simp [State.wordChecks, firstFail, writable, mode, hold, free, quiet, formatted, value, fitted]

/-- A sample at a fitted scale is checked for its value alone (R83). -/
theorem State.sample_checks {n : Fin 8} (fitted : s.scaleFitted n.val = true) {v : Word} (range : v.toNat ≤ 500000) :
    firstFail (s.wordChecks (.sample n) v) = none :=
  State.wordChecks_pass rfl rfl rfl rfl rfl rfl (by simp [State.takesValue, inRange, range]) fitted

theorem State.test_checks {n : Fin 8} (fitted : s.scaleFitted n.val = true) (v : Word) :
    firstFail (s.wordChecks (.test n) v) = none :=
  State.wordChecks_pass rfl rfl rfl rfl rfl rfl rfl fitted

section Writes

variable {p : PortId} {n : Fin 8} {v : Word} (own : s.owns p 5) (fitted : s.scaleFitted n.val = true)
include own fitted

/-- A sample that is taken: the channel's answer to it, and the indication of a change of state (R83, R92). -/
theorem exec_sample (range : v.toNat ≤ 500000) {c : ScaleChannel}
    (channel : (s.scale n).sample s.weigh.settle v.toNat = c) :
    exec (.sample p n v) s = .next
      (((s.wroteWord p 5 (0x110 + 64 * n.val) v).setScale n c).indicateIf
        (decide (c.state ≠ (s.scale n).state)) (scalePlace n)) := by
  have limit : 0x110 + 64 * n.val + 4 ≤ bookLimit 5 := by show _ ≤ 2048; omega
  have taken : exec (.sample p n v) s = .next ((s.wroteWord p 5 (0x110 + 64 * n.val) v).takeSample n v.toNat) :=
    congrArg _ (State.stored_write_apart rfl own (specialWordAt_sample n) limit (by omega) (by omega)
      rfl rfl (State.sample_checks fitted range) (State.takeSample_apart n v.toNat))
  have settle : (s.wroteWord p 5 (0x110 + 64 * n.val) v).weigh.settle = s.weigh.settle := by
    simp [State.wroteWord]
  rw [taken, State.takeSample, State.wroteWord_scale, settle, channel]

/-- A sample that changes the channel's state sets its indication. -/
theorem exec_sample_moves (range : v.toNat ≤ 500000) {c : ScaleChannel}
    (channel : (s.scale n).sample s.weigh.settle v.toNat = c) (moves : c.state ≠ (s.scale n).state) :
    exec (.sample p n v) s = .next
      (((s.wroteWord p 5 (0x110 + 64 * n.val) v).setScale n c).indicate (scalePlace n)) := by
  rw [exec_sample own fitted range channel, decide_eq_true moves]
  rfl

/-- A sample that leaves the channel's state sets no indication. -/
theorem exec_sample_stays (range : v.toNat ≤ 500000) {c : ScaleChannel}
    (channel : (s.scale n).sample s.weigh.settle v.toNat = c) (stays : c.state = (s.scale n).state) :
    exec (.sample p n v) s = .next ((s.wroteWord p 5 (0x110 + 64 * n.val) v).setScale n c) := by
  rw [exec_sample own fitted range channel, decide_eq_false (not_not.2 stays)]
  rfl

theorem exec_test :
    exec (.test p n v) s = .next ((s.wroteWord p 5 (0x114 + 64 * n.val) v).takeTest n) := by
  have limit : 0x114 + 64 * n.val + 4 ≤ bookLimit 5 := by show _ ≤ 2048; omega
  exact congrArg _ (State.stored_write_apart rfl own (specialWordAt_test n) limit (by omega) (by omega)
    rfl rfl (State.test_checks fitted v) (State.takeTest_apart n))

end Writes

/-! ## The rows settled -/

/-- Settles O20: a channel in EMPTY stays as it is, and one in another state is emptied. -/
theorem sampleBelowThreshold : Obligations.SampleBelowThreshold := by
  unfold Obligations.SampleBelowThreshold
  intro s p n v own fitted range light
  have below : (s.scale n).sample s.weigh.settle v.toNat = (s.scale n).sampleBelow :=
    ScaleChannel.sample_below light
  refine ⟨fun empty => ?_, fun loaded => ?_⟩
  · have stays : (s.scale n).sampleBelow = s.scale n := if_pos empty
    rw [exec_sample_stays own fitted range (below.trans stays) rfl,
      ← s.wroteWord_scale p 5 (0x110 + 64 * n.val) v n, State.setScale_scale]
  · have leaves : (s.scale n).sampleBelow = (s.scale n).emptied := if_neg loaded
    rw [exec_sample_moves own fitted range (below.trans leaves) (Ne.symm loaded)]
    rfl

/-- Settles O21: a load begins in EMPTY alone, and TEST looks at no state. -/
theorem sampleBeginsLoadAndTest : Obligations.SampleBeginsLoadAndTest := by
  unfold Obligations.SampleBeginsLoadAndTest
  intro s p n v own fitted
  refine ⟨fun range heavy empty => ?_, ?_⟩
  · exact exec_sample_moves own fitted range (ScaleChannel.sample_empty heavy empty) (by rw [empty]; rintro ⟨⟩)
  · rw [exec_test own fitted, State.takeTest, State.wroteWord_scale]

/-- Settles O22: the band test decides the run, and the run decides whether the channel settles. -/
theorem sampleInUnsettled : Obligations.SampleInUnsettled := by
  unfold Obligations.SampleInUnsettled
  intro s p n v own fitted range heavy unsettled c pass run reference
  have channel : c.sample s.weigh.settle v.toNat =
      if s.weigh.settle.count.toNat ≤ run then
        { c with
          state := .settled, weight := v.toNat, block := 0, misses := 0, run := run, reference := reference,
          testMiss := false }
      else { c with run := run, reference := reference, testMiss := false } := by
    rw [ScaleChannel.sample_unsettled heavy unsettled]
    simp only [ScaleChannel.sampleUnsettled, bandTest_iff]
    rfl
  clear_value run reference
  split
  · next settles =>
    rw [if_pos settles] at channel
    exact exec_sample_moves own fitted range channel (by rw [unsettled]; rintro ⟨⟩)
  · next runs =>
    rw [if_neg runs] at channel
    exact exec_sample_stays own fitted range channel rfl

/-- Settles O23: the misses decide first, then the block. -/
theorem sampleInSettled : Obligations.SampleInSettled := by
  unfold Obligations.SampleInSettled
  intro s p n v own fitted range heavy settled c pass misses
  have channel : c.sample s.weigh.settle v.toNat =
      if s.weigh.settle.brk.toNat ≤ misses then
        { c with
          state := .unsettled, reference := v.toNat, run := 1, block := 0, misses := 0, testMiss := false }
      else if s.weigh.settle.window.toNat ≤ c.block + 1 then { c with block := 0, misses := 0, testMiss := false }
      else { c with block := c.block + 1, misses := misses, testMiss := false } := by
    rw [ScaleChannel.sample_settled heavy settled]
    simp only [ScaleChannel.sampleSettled, bandTest_iff]
    rfl
  clear_value misses
  split
  · next breaks =>
    rw [if_pos breaks] at channel
    exact exec_sample_moves own fitted range channel (by rw [settled]; rintro ⟨⟩)
  · next holds =>
    rw [if_neg holds] at channel
    split
    · next ends =>
      rw [if_pos ends] at channel
      exact exec_sample_stays own fitted range channel rfl
    · next goes =>
      rw [if_neg goes] at channel
      exact exec_sample_stays own fitted range channel rfl

end Sys2Proof.Machine
end

section
/-! RAW reads that declare a code (R127 to R132): at a scale reader the claim on the tray, at a gate reader the
posting. -/

namespace Sys2Proof.Machine

variable {s : State}

/-! ## Reader channels -/

/-- A reader channel replaced twice is replaced once. -/
@[simp] theorem State.setReader_setReader (u : State) (r : Fin 12) (c d : ReaderChannel) :
    (u.setReader r c).setReader r d = u.setReader r d := by
  simp [State.setReader]

/-- The two units' channels are replaced independently. -/
theorem State.setReader_setScale (u : State) (r : Fin 12) (c : ReaderChannel) (n : Fin 8) (d : ScaleChannel) :
    (u.setReader r c).setScale n d = (u.setScale n d).setReader r c := rfl

@[simp] theorem State.wroteWord_tags (p : PortId) (book : Fin 7) (off : Nat) (v : Word) :
    (s.wroteWord p book off v).tags = s.tags := by
  simp [State.wroteWord]

@[simp] theorem State.wroteWord_reader (p : PortId) (book : Fin 7) (off : Nat) (v : Word) (r : Fin 12) :
    (s.wroteWord p book off v).reader r = s.reader r := by
  simp [State.wroteWord]

/-! ## The write -/

theorem specialWordAt_raw : ∀ r : Fin 12, specialWordAt 5 (0x300 + 32 * r.val) = .raw r := by decide

theorem State.takeRaw_apart (r : Fin 12) (v : Word) : Apart fun u => u.takeRaw r v := by
  intro u m a x y
  unfold State.takeRaw State.declare State.declareAtGate
  simp only [apply_ite (fun t : State => t.rewired m a x y), apply_dite (fun t : State => t.rewired m a x y)]
  rfl

/-- A RAW write at a fitted reader passes every check (R57). -/
theorem State.raw_checks {r : Fin 12} (fitted : s.readerFitted r = true) (v : Word) :
    firstFail (s.wordChecks (.raw r) v) = none :=
  State.wordChecks_pass rfl rfl rfl rfl rfl rfl rfl fitted

theorem exec_raw {p : PortId} {r : Fin 12} (own : s.owns p 5) (fitted : s.readerFitted r = true) (v : Word) :
    exec (.raw p r v) s = .next ((s.wroteWord p 5 (0x300 + 32 * r.val) v).takeRaw r v) := by
  have limit : 0x300 + 32 * r.val + 4 ≤ bookLimit 5 := by show _ ≤ 2048; omega
  exact congrArg _ (State.stored_write_apart rfl own (specialWordAt_raw r) limit (by omega) (by omega)
    rfl rfl (State.raw_checks fitted v) (State.takeRaw_apart r v))

/-! ## Declarations -/

/-- A read of a tag that meets the three conditions is handed on (R127). -/
theorem State.takeRaw_declares {r : Fin 12} {v : Word} (tag : v ≠ 0)
    (count : s.tags.mode.threshold ≤ (pushRead s.tags.mode.history (s.reader r).history v).count v)
    (fresh : (s.reader r).last ≠ some v) (free : (s.reader r).held = false) :
    s.takeRaw r v = (s.setReader r ((s.reader r).readCode s.tags.mode v)).declare r v := by
  have declares : ((s.reader r).readCode s.tags.mode v).declares s.tags.mode v = true := by
    simp [ReaderChannel.declares, ReaderChannel.readCode, count, fresh, free]
  rw [State.takeRaw, if_neg tag]
  exact if_pos declares

theorem State.declare_gate (g : Fin 4) (v : Word) :
    s.declare (gateReader g) v =
      (s.setReader (gateReader g) { s.reader (gateReader g) with last := some v }).declareAtGate g v := by
  have gate : ¬ (gateReader g).val < 8 := by simp [gateReader]
  have index : (⟨(gateReader g).val - 8, by omega⟩ : Fin 4) = g := Fin.ext (by simp [gateReader])
  rw [State.declare, dif_neg gate, index]

theorem State.declare_scale (n : Fin 8) (v : Word) :
    s.declare ⟨n.val, by omega⟩ v =
      (s.setReader ⟨n.val, by omega⟩ { s.reader ⟨n.val, by omega⟩ with last := some v }).declareAtScale n v :=
  dif_pos n.2

/-- The posting of a gate, its fields chosen by the gate's direction (R132). -/
theorem State.gatePosting_eq (g : Fin 4) (v : Word) :
    s.gatePosting g v =
      { kind := if s.outbound g then PostKind.lend.code else PostKind.returnCrate.code
        source := .gate g
        params := ⟨v, if s.outbound g then s.shadows.holder.get g else 0, 0, 0⟩
        tray := [], stamp := s.stamp } := by
  unfold State.gatePosting
  split <;> rfl

theorem State.setReader_gatePosting (u : State) (r : Fin 12) (c : ReaderChannel) (g : Fin 4) (v : Word) :
    (u.setReader r c).gatePosting g v = u.gatePosting g v := rfl

theorem State.wroteWord_gatePosting (p : PortId) (book : Fin 7) (off : Nat) (w : Word) (g : Fin 4) (v : Word) :
    (s.wroteWord p book off w).gatePosting g v = s.gatePosting g v := by
  simp [State.gatePosting, State.outbound]

/-- Settles O27: the declaration is handed on, and the tray or the gate answers it. -/
theorem rawReadDeclared : Obligations.RawReadDeclared := by
  unfold Obligations.RawReadDeclared
  intro s p v own
  refine ⟨fun g fitted tag => ?gate, fun n fitted tag => ?scale⟩
  case gate =>
    intro c h count fresh free post
    have place : 0x300 + 32 * (gateReader g).val = 0x400 + 32 * g.val := by simp only [gateReader]; omega
    have formed : s.gatePosting g v = post := State.gatePosting_eq g v
    have taken := exec_raw own fitted v
    rw [place, State.takeRaw_declares tag (by simpa using count) (by simpa using fresh) (by simpa using free),
      State.declare_gate] at taken
    refine ⟨fun trading => ?_, fun setup => ?_⟩
    · rw [taken, State.declareAtGate, if_neg (by simp [trading])]
      simp only [State.readerStatus, State.setReader_setReader, State.reader_setReader, if_true,
        State.wroteWord_reader, State.wroteWord_tags, State.setReader_gatePosting, State.wroteWord_gatePosting, formed]
      rfl
    · rw [taken, State.declareAtGate, if_pos (by simp [setup])]
      simp only [State.readerStatus, State.setReader_setReader, State.reader_setReader, if_true,
        State.wroteWord_reader, State.wroteWord_tags]
      rfl
  case scale =>
    intro r c h count fresh free k outcome
    have reader : s.readerFitted r = true := by rw [State.readerFitted, if_pos n.2]; exact fitted
    have answer : k.claim v = outcome := k.claim_eq v
    have tray : k.claimed v = if outcome = .added then { k with tray := k.tray ++ [v] } else k := by
      rw [ScaleChannel.claimed, answer]
    have taken := exec_raw own reader v
    rw [State.takeRaw_declares tag (by simpa using count) (by simpa using fresh) (by simpa using free),
      State.declare_scale] at taken
    rw [taken, State.declareAtScale, ← tray, ← answer]
    simp only [State.readerStatus, State.setReader_setReader, State.setReader_setScale, State.reader_setReader,
      State.setScale_reader, State.setReader_scale, State.wroteWord_reader, State.wroteWord_tags,
      State.wroteWord_scale, show (⟨n.val, by omega⟩ : Fin 12) = r from rfl, if_true]
    rfl

end Sys2Proof.Machine
end

section
/-! The postings on lots (R96 to R100, R109, R114 to R118): their checks as the statements spell them, LAND's
images, and the refusals. -/

namespace Sys2Proof.Machine

variable (s : State) (p : Posting)

/-! ## LAND -/

/-- The two checks of each code of a tray, in tray order (R98). -/
def State.crateChecks (s : State) (boat : BitVec 8) (tray : List Word) : List (Bool × Reason) :=
  tray.flatMap fun code =>
    let c := s.crate (tagCrate code).toNat
    [ (decide (c.state ≠ crateRetired ∧ c.serial = tagSerial code), .badTag),
      (decide (c.state = crateLent ∧ c.holder = boat), .crateHolder) ]

/-- The checks of a LAND into a slot, in the order of R97 to R99. -/
def State.landChecks (s : State) (p : Posting) (slot : Nat) : List (Bool × Reason) :=
  let a := s.account (landBoat p).toNat
  let tare := s.trayTare p.tray
  [ (decide (a.kind ≠ kindUnused), .noAccount), (decide (a.kind = kindBoat), .wrongKind),
    (decide (a.state = accountOpen ∨ a.state = accountFrozen), .noAccount) ] ++
  s.crateChecks (landBoat p) p.tray ++
  [ (decide (tare < landGross p), .netNegative), (decide ((s.lot slot).state ≠ lotOnFloor), .lotsFull),
    (decide (a.landed.toNat + (landGross p - tare) ≤ 4294967295), .range) ]

theorem State.trayChecks_eq (boat : BitVec 8) (tray : List Word) :
    s.trayChecks boat tray = s.crateChecks boat tray := by
  unfold State.trayChecks State.crateChecks tagMatches
  simp only [Bool.decide_and, decide_not, bne, beq_eq_decide]

theorem totalRange_add (m n : Nat) : totalRange ((m : Int) + n) = decide (m + n ≤ 4294967295) := by
  rw [Bool.eq_iff_iff, totalRange, Bool.and_eq_true, decide_eq_true_iff, decide_eq_true_iff, decide_eq_true_iff]
  omega

/-- The images of an applied LAND (R100). -/
def State.landImages (s : State) (p : Posting) : List Image :=
  let number := s.engine.copy.nextLot
  let a := s.account (landBoat p).toNat
  let tare := s.trayTare p.tray
  [.account (landBoat p)
      { a with floor := a.floor + 1, landed := a.landed + BitVec.ofNat 32 (landGross p - tare) },
    lotImage (lotSlot number) landMask (landedLot p number tare)] ++
    keepGroup (trayCrates p.tray) crateOnLot (landBoat p)

theorem landPlan_verdict :
    (s.landPlan p).verdict s = checked (s.landChecks p (lotSlot s.engine.copy.nextLot))
      (.accept (s.landImages p) (lotAfter s.engine.copy.nextLot) (some s.engine.copy.nextLot)) := by
  unfold State.landPlan Plan.simple State.landChecks State.landImages
  simp only [State.trayChecks_eq, totalRange_add, bne, beq_eq_decide, decide_not, Bool.decide_or, accountImages,
    List.foldr, insertAccount, List.map, BitVec.ofNat_toNat, BitVec.setWidth_eq, List.cons_append, List.nil_append]

/-- LAND's plan looks at no guard and no arbiter. -/
theorem landPlan_steady : (s.landPlan p).Steady s := fun _ _ => ⟨rfl, rfl⟩

/-- The checks of a LAND hold when the account is a trading boat's, each code is of a crate lent to it, and
weight, slot and day's total allow the lot. -/
theorem State.landChecks_hold {slot : Nat} (kind : (s.account (landBoat p).toNat).kind = kindBoat)
    (trades : (s.account (landBoat p).toNat).state = accountOpen ∨
      (s.account (landBoat p).toNat).state = accountFrozen)
    (lent : ∀ code ∈ p.tray, (s.crate (tagCrate code).toNat).state = crateLent ∧
      (s.crate (tagCrate code).toNat).serial = tagSerial code ∧
      (s.crate (tagCrate code).toNat).holder = landBoat p)
    (net : s.trayTare p.tray < landGross p) (free : (s.lot slot).state ≠ lotOnFloor)
    (total : (s.account (landBoat p).toNat).landed.toNat + (landGross p - s.trayTare p.tray) ≤ 4294967295) :
    firstFail (s.landChecks p slot) = none := by
  have crates : firstFail (s.crateChecks (landBoat p) p.tray) = none := by
    refine firstFail_eq_none.2 fun check mem => ?_
    obtain ⟨code, held, mem⟩ := List.mem_flatMap.1 mem
    obtain ⟨state, serial, holder⟩ := lent code held
    rcases List.mem_pair.1 mem with e | e <;> rw [e]
    · exact decide_eq_true ⟨by rw [state]; decide, serial⟩
    · exact decide_eq_true ⟨state, holder⟩
  unfold State.landChecks
  simp only [firstFail_append, crates, Option.or_eq_none_iff, firstFail_cons_eq_none]
  exact ⟨⟨⟨by rw [kind]; decide, kind, trades, rfl⟩, trivial⟩, net, free, total, rfl⟩

/-- Settles O47: every check of a LAND holds, and its plan accepts with the images of the statement. -/
theorem landApplies : Obligations.LandApplies := by
  unfold Obligations.LandApplies
  intro s p number slot boat a ks tare net applies reads kind trades lent heavy free total
  have records : (s.landPlan p).first ++ (s.landPlan p).more s =
      [.account boat.toNat, .lot slot] ++ ks.map fun k => .crate k.toNat := List.append_nil _
  have group : keepGroup ks crateOnLot boat = if ks = [] then [] else [.crates ks crateOnLot boat none none] := by
    simp only [keepGroup, List.isEmpty_iff]
  rw [← records] at reads
  rw [← group]
  exact congrArg _ (State.applyRow_accepts (plan := s.landPlan) applies (landPlan_steady s p) reads
    ((landPlan_verdict s p).trans (checked_accepts (s.landChecks_hold p kind trades lent heavy free total) _)))

/-! ## SELL and WITHDRAW -/

/-- The judgement of a lot number, as R109 words it. -/
def foundChecks (number : Word) (l : LotRecord) : List (Bool × Reason) :=
  [ (decide (number ≠ 0), .badValue), (decide (l.state ≠ lotFree ∧ l.number = number), .noLot),
    (decide (l.state = lotOnFloor), .lotState) ]

theorem lotChecks_eq (number : Word) (l : LotRecord) : lotChecks number l = foundChecks number l := by
  simp only [lotChecks, foundChecks, bne, beq_eq_decide, decide_not, Bool.decide_and]

theorem centsRange_iff (v : Int) : centsRange v = true ↔ 0 ≤ v ∧ v ≤ 2147483647 := by
  unfold centsRange
  rw [Bool.and_eq_true, decide_eq_true_iff, decide_eq_true_iff]

theorem centsRange_add (m n : Nat) : centsRange ((m : Int) + n) = decide (m + n ≤ 2147483647) := by
  rw [Bool.eq_iff_iff, centsRange_iff, decide_eq_true_iff]
  omega

/-- The plans of SELL and WITHDRAW look at no guard and no arbiter. -/
theorem withdrawPlan_steady : (withdrawPlan p).Steady s := fun _ _ => ⟨rfl, rfl⟩
theorem sellPlan_steady : (sellPlan p).Steady s := fun _ _ => ⟨rfl, rfl⟩

theorem withdrawPlan_verdict :
    (withdrawPlan p).verdict s = checked (foundChecks p.params.w0 (s.lot (lotSlot p.params.w0)))
      (s.acceptImages (s.withdrawImages (lotSlot p.params.w0) withdrawnByDesk) (some p.params.w0)) := by
  rw [← lotChecks_eq]
  rfl

/-- The checks of a SELL, in the order of R109 and R115. -/
def State.sellChecks (s : State) (p : Posting) : List (Bool × Reason) :=
  let number := p.params.w0
  let l := s.lot (lotSlot number)
  let b := p.params.w1.toNat
  let buyer := s.account b
  let boat := s.account l.boat.toNat
  let price := p.params.w2.toNat
  let value := saleValue l.net.toNat price
  let fee := saleFee value s.engine.feeRate.toNat
  let deposits := s.depositsOf l.crates
  foundChecks number l ++
  [ (decide (b ≤ 255), .badValue), (decide (buyer.kind ≠ kindUnused), .noAccount),
    (decide (buyer.kind = kindBuyer), .wrongKind), (decide (buyer.state ≠ accountClosed), .noAccount),
    (decide (buyer.state = accountOpen), .frozen), (decide (1 ≤ price ∧ price ≤ 100000), .badValue),
    (decide (b = 0 ∨ b = 2 ∨ ((value + deposits : Nat) : Int) ≤
      buyer.balance.toInt + buyer.credit.toInt - buyer.holds.toInt), .credit),
    (decide (buyer.takes (-((value + deposits : Nat) : Int)) ∧ boat.takes (value - fee + deposits) ∧
      (s.account 0).takes fee ∧ buyer.sales.toNat + value ≤ 2147483647 ∧
      boat.sales.toNat + value ≤ 2147483647), .range) ]

theorem sellPlan_verdict :
    ∃ images value, (sellPlan p).verdict s = checked (s.sellChecks p) (s.acceptImages images value) := by
  refine ⟨_, _, congrArg (checked · _) ?_⟩
  unfold State.sellChecks
  simp only [lotChecks_eq, accountNumber, bne, beq_eq_decide, decide_not, Bool.decide_and, debitCheck_eq,
    balanceRange_balanceAfter, centsRange_add, Nat.cast_add, accountHall, Bool.and_assoc]

/-- Settles O55: the three lists are the lists that the three plans judge by. -/
theorem lotPostingsRefused : Obligations.LotPostingsRefused := by
  unfold Obligations.LotPostingsRefused
  intro s p clean
  have reads (rs : List RecordId) : s.readable rs := State.readable_of_clean clean rs
  refine ⟨fun applies r fails => ?_, fun applies r fails => ?_, fun applies r fails => ?_⟩
  · exact congrArg _ (State.applyRow_refuses (plan := s.landPlan) applies (landPlan_steady s p) (reads _)
      ((landPlan_verdict s p).trans (checked_refuses fails _)))
  · exact congrArg _ (State.applyRow_refuses (plan := withdrawPlan) applies (withdrawPlan_steady s p) (reads _)
      ((withdrawPlan_verdict s p).trans (checked_refuses fails _)))
  · obtain ⟨images, value, judged⟩ := sellPlan_verdict s p
    exact congrArg _ (State.applyRow_refuses (plan := sellPlan) applies (sellPlan_steady s p) (reads _)
      (judged.trans (checked_refuses fails _)))

end Sys2Proof.Machine
end

section
/-! The postings on lots that are applied (R114 to R118): SELL and WITHDRAW of a lot on the floor, with the
records they read, the images of a sale, and the checks that hold. -/

namespace Sys2Proof.Machine

variable {s : State} {p : Posting}

/-! ## The lot and what it brings -/

/-- A lot that stands on the floor under its number brings its boat and its crates (R114). -/
theorem State.lotMore_onFloor {number : Word} (found : (s.lot (lotSlot number)).number = number)
    (floor : (s.lot (lotSlot number)).state = lotOnFloor) :
    s.lotMore number = .account (s.lot (lotSlot number)).boat.toNat :: crateIds (s.lot (lotSlot number)).crates := by
  rw [State.lotMore, found, floor]
  simp only [beq_self_eq_true, Bool.and_self, if_true]

/-- The judgement of R109 passes a lot on the floor under a number other than 0. -/
theorem foundChecks_hold {number : Word} {l : LotRecord} (named : number ≠ 0) (found : l.number = number)
    (floor : l.state = lotOnFloor) : firstFail (foundChecks number l) = none := by
  simp only [foundChecks, firstFail_cons_eq_none]
  exact ⟨named, ⟨by rw [floor]; decide, found⟩, floor, rfl⟩

theorem keepGroup_eq (ks : List (BitVec 12)) (state : BitVec 3) (holder : BitVec 8) :
    keepGroup ks state holder = if ks = [] then [] else [.crates ks state holder none none] := by
  simp only [keepGroup, List.isEmpty_iff]

/-! ## WITHDRAW -/

/-- A WITHDRAW of a lot on the floor is its images written (R118). -/
theorem State.applyRow_withdraws (applies : s.applies .withdraw p) (named : p.params.w0 ≠ 0)
    (found : (s.lot (lotSlot p.params.w0)).number = p.params.w0)
    (floor : (s.lot (lotSlot p.params.w0)).state = lotOnFloor)
    (reads : s.readable (.lot (lotSlot p.params.w0) :: .account (s.lot (lotSlot p.params.w0)).boat.toNat ::
      crateIds (s.lot (lotSlot p.params.w0)).crates)) :
    s.applyRow .withdraw withdrawPlan = s.writeDueEntry
      (p.due (s.withdrawImages (lotSlot p.params.w0) withdrawnByDesk) s.engine.copy.nextLot (some p.params.w0)) := by
  have records : s.readable ((withdrawPlan p).first ++ (withdrawPlan p).more s) := by
    rw [show (withdrawPlan p).more s = s.lotMore p.params.w0 from rfl, State.lotMore_onFloor found floor]
    exact reads
  exact State.applyRow_accepts applies (withdrawPlan_steady s p) records
    ((withdrawPlan_verdict s p).trans (checked_accepts (foundChecks_hold named found floor) _))

/-! ## The images of a sale -/

theorem AccountImage.pay_eq (a : AccountImage) (d : Int) :
    a.pay d = { a with balance := a.balance + BitVec.ofInt 32 d } := by
  rw [AccountImage.pay, AccountImage.balanceAfter, BitVec.ofInt_add, BitVec.ofInt_toInt]

/-- HALL's image stands before those of any two accounts (R37). -/
theorem accountImages_hall (h : AccountImage) (n : Nat) (a : AccountImage) (m : Nat) (b : AccountImage) :
    accountImages [(accountHall, h), (n, a), (m, b)] = .account 0 h :: twoAccounts n a m b := by
  have first (as : List (Nat × AccountImage)) : insertAccount (accountHall, h) as = (accountHall, h) :: as := by
    cases as with
    | nil => rfl
    | cons x xs => exact if_pos (Nat.zero_le _)
  rw [← accountImages_two, accountImages, List.foldr_cons, first]
  rfl

/-- The images of an applied SELL (R117), from the amounts of R116: the money in ascending account number, the
lot, and its crates. -/
def State.saleImages (s : State) (p : Posting) : List Image :=
  let slot := lotSlot p.params.w0
  let l := s.lot slot
  let b := p.params.w1.toNat
  let buyer := s.account b
  let boat := s.account l.boat.toNat
  let hall := s.account 0
  let price := p.params.w2.toNat
  let value := saleValue l.net.toNat price
  let fee := saleFee value s.engine.feeRate.toNat
  let deposits := s.depositsOf l.crates
  let n : BitVec 13 := BitVec.ofNat 13 l.crates.length
  [.account 0 { hall with balance := hall.balance + BitVec.ofNat 32 fee }] ++
    twoAccounts b
      { buyer with
        balance := buyer.balance - BitVec.ofNat 32 (value + deposits)
        crates := buyer.crates + n, sales := buyer.sales + BitVec.ofNat 32 value }
      l.boat.toNat
      { boat with
        balance := boat.balance + BitVec.ofInt 32 (value - fee + deposits)
        crates := boat.crates - n, floor := boat.floor - 1, sales := boat.sales + BitVec.ofNat 32 value } ++
    [lotImage slot sellMask (soldLot l p b price value fee)] ++
    keepGroup l.crates crateSold (BitVec.ofNat 8 b)

/-- A list of checks that ends in an acceptance ends in its own. -/
theorem checked_accepted {checks : List (Bool × Reason)} {v : Verdict} {images : List Image} {nextLot : Word}
    {value : Option Word} (h : checked checks v = .accept images nextLot value) : checked checks v = v := by
  cases fails : firstFail checks with
  | none => exact checked_accepts fails v
  | some r => rw [checked_refuses fails v] at h; cases h

/-- SELL's plan accepts with the images of R117 when its checks hold. -/
theorem sellPlan_accepts (holds : firstFail (s.sellChecks p) = none) :
    (sellPlan p).verdict s = s.acceptImages (s.saleImages p) (some p.params.w0) := by
  obtain ⟨images, value, judged⟩ := sellPlan_verdict s p
  refine (checked_accepted (judged.trans (checked_accepts holds _))).trans ?_
  simp only [accountImages_hall, AccountImage.pay_eq, ← Nat.cast_add, BitVec.ofInt_neg, BitVec.ofInt_natCast,
    ← BitVec.sub_eq_add_neg]
  rfl

/-! ## The obligation -/

/-- Settles O48: a lot on the floor brings its boat and crates, and with every check held each plan accepts with
the images of the statement. -/
theorem lotPostingsApply : Obligations.LotPostingsApply := by
  unfold Obligations.LotPostingsApply
  intro s p number slot l boat crates named found floor
  refine ⟨?withdraw, ?sell⟩
  case withdraw =>
    intro applies reads
    have images : s.withdrawImages slot withdrawnByDesk =
        [.account l.boat { boat with floor := boat.floor - 1 },
          lotImage slot 0x0002 { l with state := lotWithdrawn, reason := withdrawnByDesk }] ++
          (if l.crates = [] then [] else [.crates l.crates crateLent l.boat none none]) := by
      rw [State.withdrawImages, accountImages_one, BitVec.ofNat_toNat, BitVec.setWidth_eq, keepGroup_eq]
      rfl
    rw [← images]
    exact congrArg _ (State.applyRow_withdraws applies named found floor reads)
  case sell =>
    intro b buyer hall price value fee deposits n applies reads inRange kind opened priced affordable credit
      buyerTakes boatTakes hallTakes buyerSales boatSales _ _
    have records : (sellPlan p).first ++ (sellPlan p).more s =
        [.lot slot, .account b, .account 0, .account l.boat.toNat] ++ crates := by
      show (.lot slot :: accountGuard p.params.w1 ++ [.account accountHall]) ++ s.lotMore number = _
      rw [accountGuard_inRange inRange, State.lotMore_onFloor found floor]
      rfl
    have lotHolds : firstFail (foundChecks p.params.w0 (s.lot (lotSlot p.params.w0))) = none :=
      foundChecks_hold named found floor
    have holds : firstFail (s.sellChecks p) = none := by
      unfold State.sellChecks
      simp only [firstFail_append, lotHolds, Option.or_eq_none_iff, true_and, firstFail_cons_eq_none]
      exact ⟨inRange, by rw [kind]; decide, kind, by rw [opened]; decide, opened, ⟨priced, affordable⟩,
        .inr (.inr credit), ⟨buyerTakes, boatTakes, hallTakes, buyerSales, boatSales⟩, rfl⟩
    rw [← records] at reads
    rw [← keepGroup_eq]
    exact congrArg _ (State.applyRow_accepts applies (sellPlan_steady s p) reads (sellPlan_accepts holds))

end Sys2Proof.Machine
end

section
/-! The reader law (R123, R125, R126): what a raw read leaves in a history and a zero run, and that every
operation on the reader channels keeps them within the bounds of the mode. -/

namespace Sys2Proof.Machine

variable {s : State}

/-! ## The law at one channel -/

/-- The reader law at one channel, for a mode. -/
def ReaderChannel.Within (m : DeclareMode) (c : ReaderChannel) : Prop :=
  c.history.length ≤ m.history ∧ c.zeroRun ≤ 15

theorem readerLaw_iff : ReaderLaw s ↔ ∀ r, (s.reader r).Within s.tags.mode := Iff.rfl

/-- A full history drops its oldest read (R123). -/
theorem length_pushRead_le (limit : Nat) (h : List Word) (v : Word) : (pushRead limit h v).length ≤ limit := by
  rw [pushRead, List.length_drop, List.length_append, List.length_singleton]
  omega

namespace ReaderChannel.Within

theorem of_nil (m : DeclareMode) {c : ReaderChannel} (history : c.history = []) (run : c.zeroRun ≤ 15) :
    c.Within m := ⟨history ▸ Nat.zero_le _, run⟩

theorem readZero (m : DeclareMode) (c : ReaderChannel) (clearCount : Nat) : (c.readZero m clearCount).Within m :=
  ⟨length_pushRead_le _ _ _, Nat.min_le_left _ _⟩

theorem readCode (m : DeclareMode) (c : ReaderChannel) (v : Word) : (c.readCode m v).Within m :=
  ⟨length_pushRead_le _ _ _, Nat.zero_le _⟩

end ReaderChannel.Within

/-! ## The law from state to state -/

/-- The reader law, once it holds in the first state, holds in the second. The mode may change between them. -/
def KeepsReaders (s t : State) : Prop := ReaderLaw s → ReaderLaw t

namespace KeepsReaders

theorem of_tags {s t : State} (h : t.tags = s.tags) : KeepsReaders s t := by
  intro law r
  rw [State.reader, h]
  exact law r

theorem trans {s t u : State} (h : KeepsReaders s t) (k : KeepsReaders t u) : KeepsReaders s u := k ∘ h

/-- A channel replaced by one within the bounds. -/
theorem setReader (s : State) (r : Fin 12) {c : ReaderChannel}
    (h : (s.reader r).Within s.tags.mode → c.Within s.tags.mode) : KeepsReaders s (s.setReader r c) := by
  intro law q
  rw [State.reader_setReader]
  split
  · exact h (law r)
  · exact law q

theorem readerStatus (s : State) (r : Fin 12) (t : Status) : KeepsReaders s (s.readerStatus r t) := by
  refine trans ?_ (of_tags (State.indicate_tags _ _))
  exact setReader s r fun law => law

theorem declareAtScale (s : State) (n : Fin 8) (v : Word) : KeepsReaders s (s.declareAtScale n v) :=
  trans (of_tags rfl) (readerStatus (s.setScale n _) _ _)

theorem declareAtGate (s : State) (g : Fin 4) (v : Word) : KeepsReaders s (s.declareAtGate g v) := by
  unfold State.declareAtGate
  dsimp only
  split
  · exact readerStatus s _ _
  · refine trans ?_ (readerStatus _ _ _)
    exact setReader s _ fun law => law

theorem declare (s : State) (r : Fin 12) (v : Word) : KeepsReaders s (s.declare r v) := by
  have noted : KeepsReaders s (s.setReader r { s.reader r with last := some v }) :=
    setReader s r fun law => law
  unfold State.declare
  dsimp only
  split
  · exact noted.trans (declareAtScale _ _ v)
  · exact noted.trans (declareAtGate _ _ v)

/-- A raw read enters what it reads into the history, and a declaration touches neither history nor run. -/
theorem takeRaw (s : State) (r : Fin 12) (v : Word) : KeepsReaders s (s.takeRaw r v) := by
  unfold State.takeRaw
  split
  · exact setReader s r fun _ => .readZero _ _ _
  · dsimp only
    have entered : KeepsReaders s (s.setReader r ((s.reader r).readCode s.tags.mode v)) :=
      setReader s r fun _ => .readCode _ _ _
    split
    · exact entered.trans (declare _ r v)
    · exact entered

theorem reportGate (s : State) (g : Fin 4) (t : Status) : KeepsReaders s (s.reportGate g t) := by
  refine trans ?_ (readerStatus _ _ _)
  exact setReader s _ fun law => law

theorem takeCommit (s : State) (n : Fin 8) : KeepsReaders s (s.takeCommit n) := by
  have queued (u : State) (p : Posting) : (u.enqueue p).tags = u.tags := by
    unfold State.enqueue
    split <;> rfl
  refine of_tags ?_
  unfold State.takeCommit
  dsimp only
  split
  · rfl
  · split
    · rfl
    · split
      · rfl
      · split
        · exact queued _ _
        · rfl

theorem dropWaiting (s : State) (i : Fin 11) : KeepsReaders s (s.dropWaiting i) := by
  unfold State.dropWaiting
  split
  · exact setReader s _ fun law => law
  · refine of_tags ?_
    split
    · rfl
    · split <;> rfl

/-- A change of mode empties every history, so that no longer one is left to a shorter bound (R125). -/
theorem setDeclareMode (s : State) (m : DeclareMode) : KeepsReaders s (s.setDeclareMode m) := by
  by_cases same : s.tags.mode = m
  · rw [State.setDeclareMode, if_pos same]
    exact id
  · obtain ⟨rs, changed, emptied⟩ := State.setDeclareMode_change same
    intro law r
    obtain ⟨-, run⟩ := law r
    have reader : (s.setDeclareMode m).reader r = { s.reader r with history := [] } := by
      rw [changed]
      exact emptied r
    rw [reader]
    exact ReaderChannel.Within.of_nil _ rfl run

theorem setCopy (s : State) (c : ConfigWord) (v : Word) : KeepsReaders s (s.setCopy c v) := by
  cases c with
  | declareMode => exact setDeclareMode s _
  | stepMode =>
    obtain ⟨st, w, q, e⟩ := s.setStepMode_eq (v != 0)
    rw [State.setCopy, e]
    exact of_tags rfl
  | clearCount => exact id
  | gateDirection => exact id
  | _ => exact of_tags rfl

theorem restartReaders (s : State) : KeepsReaders s s.restartReaders := by
  intro _ r
  rw [State.reader, State.restartReaders, mapBank_get]
  exact ReaderChannel.Within.of_nil _ rfl (Nat.zero_le _)

/-- A reset leaves every history empty and every run at 0 (R123). -/
theorem dropVolatile (s u : State) (part : PartState) : KeepsReaders s (u.dropVolatile part) := by
  intro _ r
  rw [(u.dropVolatile_fresh part).reader r]
  exact ReaderChannel.Within.of_nil _ rfl (Nat.zero_le _)

theorem stationFrame : StationFrame KeepsReaders where
  trans := trans
  same _ tags := of_tags tags
  sampled _ _ _ := of_tags (State.indicateIf_tags _ _ _)
  tested _ _ := of_tags rfl
  committed := takeCommit
  read := takeRaw
  scaleReport _ _ _ _ := of_tags rfl
  gateReport := reportGate
  admitted := dropWaiting
  copied := setCopy
  restarted s := trans (of_tags rfl) (restartReaders s.restartScales)
  reset := dropVolatile

end KeepsReaders

/-- Settles O6: every operation on the reader channels and on their mode keeps the bounds, and so does every
step. -/
theorem stepKeepsReaderLaw : Obligations.StepKeepsReaderLaw := by
  unfold Obligations.StepKeepsReaderLaw
  intro s t law e
  exact KeepsReaders.stationFrame.step_keeps e law

end Sys2Proof.Machine
end

section
/-! RAW reads that declare nothing (R126 to R128): reads of no tag, and reads of a tag that fail one of the
three conditions of a declaration. -/

namespace Sys2Proof.Machine

variable {s : State}

/-- A read of no tag is entered and judged by no condition (R126). -/
theorem State.takeRaw_zero (r : Fin 12) :
    s.takeRaw r 0 = s.setReader r ((s.reader r).readZero s.tags.mode s.tags.clearCount.toNat) := if_pos rfl

/-- The three conditions of a declaration (R127). -/
theorem ReaderChannel.declares_iff (c : ReaderChannel) (m : DeclareMode) (v : Word) :
    c.declares m v = true ↔ m.threshold ≤ c.history.count v ∧ c.last ≠ some v ∧ c.held = false := by
  simp [ReaderChannel.declares, and_assoc]

/-- A read of a tag that fails one of the three conditions is entered and no more (R127, R128). -/
theorem State.takeRaw_undeclared {r : Fin 12} {v : Word} (tag : v ≠ 0)
    (fails : (pushRead s.tags.mode.history (s.reader r).history v).count v < s.tags.mode.threshold ∨
      (s.reader r).last = some v ∨ (s.reader r).held = true) :
    s.takeRaw r v = s.setReader r ((s.reader r).readCode s.tags.mode v) := by
  have silent : ¬ ((s.reader r).readCode s.tags.mode v).declares s.tags.mode v = true := by
    rw [ReaderChannel.declares_iff]
    rintro ⟨count, fresh, free⟩
    rcases fails with few | again | held
    · exact absurd count (Nat.not_le.2 few)
    · exact fresh again
    · exact Bool.noConfusion (held.symm.trans free)
  rw [State.takeRaw, if_neg tag]
  exact if_neg silent

/-- Settles O25: the write is taken, and the read of no tag is entered. -/
theorem rawReadOfNoTag : Obligations.RawReadOfNoTag := by
  unfold Obligations.RawReadOfNoTag
  intro s p r own fitted c run
  rw [exec_raw own fitted, State.takeRaw_zero, State.wroteWord_reader, State.wroteWord_tags]
  rfl

/-- Settles O26: the write is taken, and the read of the tag is entered and not handed on. -/
theorem rawReadWithoutDeclaration : Obligations.RawReadWithoutDeclaration := by
  unfold Obligations.RawReadWithoutDeclaration
  intro s p r v own fitted tag c h fails
  have entered := State.takeRaw_undeclared (s := s.wroteWord p 5 (0x300 + 32 * r.val) v) (r := r) tag
    (by simpa using fails)
  rw [exec_raw own fitted, entered, State.wroteWord_reader, State.wroteWord_tags]
  rfl

end Sys2Proof.Machine
end

section
/-! The crate postings (R139 to R146): their checks as the statements spell them, the images they are accepted
with, and the refusals. -/

namespace Sys2Proof.Machine

/-! ## Checks and images shared by the rows -/

theorem checked_congr {checks others : List (Bool × Reason)} (h : firstFail checks = firstFail others)
    (v : Verdict) : checked checks v = checked others v := by
  simp only [checked, h]

/-- The tag check in the words of R139. -/
theorem tagCheck_eq (code : Word) (c : CrateRecord) :
    tagCheck code c = decide (code ≠ 0 ∧ c.state ≠ crateRetired ∧ c.serial = tagSerial code) := by
  simp only [tagCheck, tagMatches, Bool.decide_and, decide_not, bne, beq_eq_decide]

theorem CrateRecord.lentOrSold_iff (c : CrateRecord) :
    c.lentOrSold = true ↔ c.state = crateLent ∨ c.state = crateSold := by
  simp [CrateRecord.lentOrSold]

theorem CrateRecord.lentOrSold_eq (c : CrateRecord) :
    c.lentOrSold = decide (c.state = crateLent ∨ c.state = crateSold) := by
  rw [Bool.eq_iff_iff, c.lentOrSold_iff, decide_eq_true_iff]

/-- A crate that is out is not LOST. -/
theorem CrateRecord.not_lost_of_lentOrSold {c : CrateRecord} (out : c.lentOrSold = true) : c.state ≠ crateLost := by
  rcases c.lentOrSold_iff.1 out with h | h <;> rw [h] <;> decide

theorem crateGuard_inRange {w : Word} (h : w.toNat ≤ 4095) : crateGuard w = [.crate w.toNat] := if_pos h

theorem field_low_eq_ofNat (w : Word) (n : Nat) : field w 0 n = BitVec.ofNat n w.toNat := by
  rw [field, BitVec.extractLsb', Nat.shiftRight_zero]

theorem twoAccounts_ascending {n m : Nat} (h : n ≤ m) (a b : AccountImage) :
    twoAccounts n a m b = [.account (BitVec.ofNat 8 n) a, .account (BitVec.ofNat 8 m) b] := if_pos h

/-- A list of records is readable when each of its two parts is (R21). -/
theorem State.readable_append {s : State} {as bs : List RecordId} (left : s.readable as) (right : s.readable bs) :
    s.readable (as ++ bs) := by
  obtain ⟨engine, first⟩ := Bool.or_eq_false_iff.1 left
  obtain ⟨-, second⟩ := Bool.or_eq_false_iff.1 right
  rw [State.readable, State.anyFails, List.any_cons, List.any_append]
  exact Bool.or_eq_false_iff.2 ⟨engine, Bool.or_eq_false_iff.2 ⟨first, second⟩⟩

section Verdicts

variable (s : State) (p : Posting)

/-! ## LEND -/

/-- The checks of a LEND, in the order of R139 and R140. -/
def State.lendChecks (s : State) (p : Posting) : List (Bool × Reason) :=
  let code := p.params.w0
  let c := s.crate (tagCrate code).toNat
  let h := p.params.w1.toNat
  let a := s.account h
  let d : Int := (s.typeDeposit c.type).toNat
  [ (decide (code ≠ 0 ∧ c.state ≠ crateRetired ∧ c.serial = tagSerial code), .badTag),
    (decide (c.state = crateInHall), .crateState), (decide (h ≤ 255), .badValue),
    (decide (a.kind ≠ kindUnused), .noAccount), (decide (a.kind = kindBoat ∨ a.kind = kindBuyer), .wrongKind),
    (decide (a.state ≠ accountClosed), .noAccount), (decide (a.state = accountOpen), .frozen),
    (decide (h = 0 ∨ h = 2 ∨ d ≤ a.balance.toInt + a.credit.toInt - a.holds.toInt), .credit),
    (decide (a.takes (-d) ∧ (s.account 1).takes d), .range) ]

/-- The images of an applied LEND (R141). -/
def State.lendImages (s : State) (p : Posting) : List Image :=
  let k := tagCrate p.params.w0
  let h := p.params.w1.toNat
  let a := s.account h
  let pool := s.account 1
  let d := s.typeDeposit (s.crate k.toNat).type
  twoAccounts 1 { pool with balance := pool.balance + d.setWidth 32 }
      h { a with balance := a.balance - d.setWidth 32, crates := a.crates + 1 } ++
    [oneCrate k crateLent (BitVec.ofNat 8 h) d]

theorem lendPlan_verdict :
    (lendPlan p).verdict s = checked (s.lendChecks p) (s.acceptImages (s.lendImages p)) := by
  unfold lendPlan Plan.simple State.lendChecks State.lendImages
  simp only [tagCheck_eq, accountNumber, bne, beq_eq_decide, decide_not, Bool.decide_or, Bool.decide_and,
    debitCheck_eq, balanceRange_balanceAfter, accountImages_two, AccountImage.pay_eq, BitVec.ofInt_neg,
    BitVec.ofInt_natCast, BitVec.ofNat_toNat, ← BitVec.sub_eq_add_neg]

/-! ## RETURN -/

/-- The checks of a RETURN, in the order of R139 and R142. -/
def State.returnChecks (s : State) (p : Posting) : List (Bool × Reason) :=
  let code := p.params.w0
  let c := s.crate (tagCrate code).toNat
  let d : Int := c.deposit.toNat
  [ (decide (code ≠ 0 ∧ c.state ≠ crateRetired ∧ c.serial = tagSerial code), .badTag),
    (decide (c.state = crateLent ∨ c.state = crateSold ∨ c.state = crateLost), .crateState),
    (decide (c.state = crateLost ∨ ((s.account c.holder.toNat).takes d ∧ (s.account 1).takes (-d))), .range) ]

/-- The images of an applied RETURN (R143): a LOST crate's deposit has left the pool before. -/
def State.returnImages (s : State) (p : Posting) : List Image :=
  let k := tagCrate p.params.w0
  let c := s.crate k.toNat
  let a := s.account c.holder.toNat
  let pool := s.account 1
  (if c.lentOrSold then
      twoAccounts 1 { pool with balance := pool.balance - c.deposit }
        c.holder.toNat { a with balance := a.balance + c.deposit, crates := a.crates - 1 }
    else []) ++ [oneCrate k crateInHall 0 0]

/-- RETURN's last check may ask whether the crate is out or whether it is not LOST: where the two differ, the
check of the crate's state fails first. -/
theorem firstFail_returnChecks {tag : Bool} (c : CrateRecord) (range : Bool) :
    firstFail [ (tag, Reason.badTag), (c.lentOrSold || c.state == crateLost, .crateState),
        (!c.lentOrSold || range, .range) ] =
      firstFail [ (tag, Reason.badTag), (c.lentOrSold || c.state == crateLost, .crateState),
        (c.state == crateLost || range, .range) ] := by
  cases out : c.lentOrSold with
  | true => rw [beq_false_of_ne (CrateRecord.not_lost_of_lentOrSold out)]; rfl
  | false => cases c.state == crateLost <;> rfl

theorem returnPlan_verdict :
    (returnPlan p).verdict s = checked (s.returnChecks p) (s.acceptImages (s.returnImages p)) := by
  refine (checked_congr (firstFail_returnChecks _ _) _).trans ?_
  unfold State.returnChecks State.returnImages
  simp only [tagCheck_eq, CrateRecord.lentOrSold_eq, beq_eq_decide, ← or_assoc, Bool.decide_or, Bool.decide_and,
    balanceRange_balanceAfter, accountImages_two, AccountImage.pay_toNat, AccountImage.pay_neg_toNat]

/-! ## REGISTER_CRATE and RETIRE_CRATE -/

/-- The checks of a REGISTER_CRATE, in the order of R144. -/
def State.registerCrateChecks (s : State) (p : Posting) : List (Bool × Reason) :=
  [ (decide (p.params.w0.toNat ≤ 4095), .badValue),
    (decide (1 ≤ p.params.w1.toNat ∧ p.params.w1.toNat ≤ 1048575), .badValue),
    (decide (p.params.w2.toNat ≤ 15), .badValue),
    (decide ((s.crate p.params.w0.toNat).state = crateRetired), .crateState) ]

theorem registerCratePlan_verdict :
    (registerCratePlan p).verdict s = checked (s.registerCrateChecks p) (s.acceptImages
      [.crates [BitVec.ofNat 12 p.params.w0.toNat] crateInHall 0 (some 0)
        (some (BitVec.ofNat 4 p.params.w2.toNat ++ BitVec.ofNat 20 p.params.w1.toNat))]) := by
  unfold registerCratePlan Plan.simple State.registerCrateChecks
  simp only [crateNumber, beq_eq_decide, Bool.decide_and, field_low_eq_ofNat]

/-- The checks of a RETIRE_CRATE, in the order of R145. -/
def State.retireCrateChecks (s : State) (p : Posting) : List (Bool × Reason) :=
  let c := s.crate p.params.w0.toNat
  [ (decide (p.params.w0.toNat ≤ 4095), .badValue),
    (decide (c.state = crateInHall ∨ c.state = crateLost), .crateState) ]

theorem retireCratePlan_verdict :
    (retireCratePlan p).verdict s = checked (s.retireCrateChecks p) (s.acceptImages
      [oneCrate (BitVec.ofNat 12 p.params.w0.toNat) crateRetired 0 0]) := by
  unfold retireCratePlan Plan.simple State.retireCrateChecks
  simp only [crateNumber, beq_eq_decide, Bool.decide_or, field_low_eq_ofNat]

/-! ## WRITE_OFF -/

/-- The checks of a WRITE_OFF, in the order of R146. -/
def State.writeOffChecks (s : State) (p : Posting) : List (Bool × Reason) :=
  let c := s.crate p.params.w0.toNat
  let d : Int := c.deposit.toNat
  [ (decide (p.params.w0.toNat ≤ 4095), .badValue),
    (decide (c.state = crateLent ∨ c.state = crateSold), .crateState),
    (decide ((s.account 0).takes d ∧ (s.account 1).takes (-d)), .range) ]

/-- The images of an applied WRITE_OFF (R146). -/
def State.writeOffImages (s : State) (p : Posting) : List Image :=
  let c := s.crate p.params.w0.toNat
  let a := s.account c.holder.toNat
  let hall := s.account 0
  let pool := s.account 1
  .account 0 { hall with balance := hall.balance + c.deposit } ::
    twoAccounts 1 { pool with balance := pool.balance - c.deposit }
      c.holder.toNat { a with crates := a.crates - 1 } ++
    [oneCrate (BitVec.ofNat 12 p.params.w0.toNat) crateLost 0 0]

theorem writeOffPlan_verdict :
    (writeOffPlan p).verdict s = checked (s.writeOffChecks p) (s.acceptImages (s.writeOffImages p)) := by
  unfold writeOffPlan State.writeOffChecks State.writeOffImages
  simp only [crateNumber, CrateRecord.lentOrSold_eq, Bool.decide_and, balanceRange_balanceAfter,
    accountImages_hall, AccountImage.pay_toNat, AccountImage.pay_neg_toNat, field_low_eq_ofNat]

end Verdicts

/-! ## The rows settled -/

/-- Settles O56: each row's list of checks is the list its plan judges by. -/
theorem cratePostingsRefused : Obligations.CratePostingsRefused := by
  unfold Obligations.CratePostingsRefused
  intro s p clean
  refine ⟨⟨fun applies r fails => ?_, fun applies r fails => ?_⟩, fun applies r fails => ?_,
    fun applies r fails => ?_, fun applies r fails => ?_⟩
  · exact congrArg _ (State.applyRow_refusesFirst (plan := lendPlan) applies (fun _ _ => ⟨rfl, rfl⟩)
      (lendPlan_verdict s p) clean fails)
  · exact congrArg _ (State.applyRow_refusesFirst (plan := returnPlan) applies (fun _ _ => ⟨rfl, rfl⟩)
      (returnPlan_verdict s p) clean fails)
  · exact congrArg _ (State.applyRow_refusesFirst (plan := registerCratePlan) applies (fun _ _ => ⟨rfl, rfl⟩)
      (registerCratePlan_verdict s p) clean fails)
  · exact congrArg _ (State.applyRow_refusesFirst (plan := retireCratePlan) applies (fun _ _ => ⟨rfl, rfl⟩)
      (retireCratePlan_verdict s p) clean fails)
  · exact congrArg _ (State.applyRow_refusesFirst (plan := writeOffPlan) applies (fun _ _ => ⟨rfl, rfl⟩)
      (writeOffPlan_verdict s p) clean fails)

/-- RETURN of a crate that is out reads its holder besides (R142). -/
theorem returnPlan_records_out {s : State} {p : Posting}
    (tag : tagCheck p.params.w0 (s.crate (tagCrate p.params.w0).toNat) = true)
    (out : (s.crate (tagCrate p.params.w0).toNat).lentOrSold = true) :
    (returnPlan p).first ++ (returnPlan p).more s =
      [.crate (tagCrate p.params.w0).toNat, .account 1,
        .account (s.crate (tagCrate p.params.w0).toNat).holder.toNat] := by
  simp only [returnPlan, tag, out, Bool.and_self, if_true]
  rfl

/-- RETURN of a LOST crate reads no holder (R142). -/
theorem returnPlan_records_in {s : State} {p : Posting}
    (out : (s.crate (tagCrate p.params.w0).toNat).lentOrSold = false) :
    (returnPlan p).first ++ (returnPlan p).more s = [.crate (tagCrate p.params.w0).toNat, .account 1] := by
  simp only [returnPlan, out, Bool.and_false, Bool.false_eq_true, if_false]
  rfl

/-- WRITE_OFF of a crate that is out reads the crate, HALL, POOL and the holder (R146). -/
theorem writeOffPlan_records_out {s : State} {p : Posting} (inRange : p.params.w0.toNat ≤ 4095)
    (out : (s.crate p.params.w0.toNat).lentOrSold = true) :
    (writeOffPlan p).first ++ (writeOffPlan p).more s =
      [.crate p.params.w0.toNat] ++
        [.account 0, .account 1, .account (s.crate p.params.w0.toNat).holder.toNat] := by
  simp only [writeOffPlan, crateGuard_inRange inRange, crateNumber, decide_eq_true inRange, out, Bool.and_self,
    if_true]
  rfl

/-- Settles O49: where every check of a row holds, its plan accepts with the images of the statement. -/
theorem cratePostingsApply : Obligations.CratePostingsApply := by
  unfold Obligations.CratePostingsApply
  intro s p l hall pool
  refine ⟨?tagged, ?numbered⟩
  case tagged =>
    intro k c named serial
    have tagged (state : c.state ≠ crateRetired) :
        p.params.w0 ≠ 0 ∧ c.state ≠ crateRetired ∧ c.serial = tagSerial p.params.w0 := ⟨named, state, serial⟩
    refine ⟨?lend, ?returned, ?found⟩
    case lend =>
      intro h a d applies reads inHall ordinary inRange kind opened credit pays takes
      have records : (lendPlan p).first ++ (lendPlan p).more s = [.crate k.toNat, .account 1, .account h] := by
        rw [lendPlan, accountGuard_inRange inRange]
        rfl
      have used : a.kind ≠ kindUnused := by rcases kind with e | e <;> rw [e] <;> decide
      have holds : firstFail (s.lendChecks p) = none := by
        simp only [State.lendChecks, firstFail_cons_eq_none]
        exact ⟨tagged (by rw [inHall]; decide), inHall, inRange, used, kind, by rw [opened]; decide, opened,
          .inr credit, ⟨pays, takes⟩, rfl⟩
      have applied := State.applyRow_completes applies (fun _ _ => ⟨rfl, rfl⟩) (lendPlan_verdict s p)
        (records ▸ reads) holds
      rw [State.lendImages, twoAccounts_ascending (Nat.le_of_lt ordinary)] at applied
      exact congrArg _ applied
    case returned =>
      intro h a d applies reads ordinary state takes pays
      have out : c.lentOrSold = true := c.lentOrSold_iff.2 state
      have tag : p.params.w0 ≠ 0 ∧ c.state ≠ crateRetired ∧ c.serial = tagSerial p.params.w0 :=
        tagged (by rcases state with e | e <;> rw [e] <;> decide)
      have records := returnPlan_records_out ((tagCheck_eq _ _).trans (decide_eq_true tag)) out
      have holds : firstFail (s.returnChecks p) = none := by
        simp only [State.returnChecks, firstFail_cons_eq_none]
        exact ⟨tag, state.imp_right .inl, .inr ⟨takes, pays⟩, rfl⟩
      have applied := State.applyRow_completes applies (fun _ _ => ⟨rfl, rfl⟩) (returnPlan_verdict s p)
        (records ▸ reads) holds
      rw [State.returnImages, if_pos out, twoAccounts_ascending (Nat.le_of_lt ordinary), BitVec.ofNat_toNat,
        BitVec.setWidth_eq] at applied
      exact congrArg _ applied
    case found =>
      intro applies reads lost
      have stays : c.lentOrSold = false := by rw [CrateRecord.lentOrSold, lost]; rfl
      have holds : firstFail (s.returnChecks p) = none := by
        simp only [State.returnChecks, firstFail_cons_eq_none]
        exact ⟨tagged (by rw [lost]; decide), .inr (.inr lost), .inl lost, rfl⟩
      have applied := State.applyRow_completes applies (fun _ _ => ⟨rfl, rfl⟩) (returnPlan_verdict s p)
        (returnPlan_records_in stays ▸ reads) holds
      rw [State.returnImages, if_neg (Bool.eq_false_iff.1 stays)] at applied
      exact congrArg _ applied
  case numbered =>
    intro k c inRange reads
    have guards : crateGuard p.params.w0 ++ [] = [.crate k] := by
      rw [List.append_nil, crateGuard_inRange inRange]
    refine ⟨fun applies retired least most type => ?register, fun applies state => ?retire, ?writeOff⟩
    case register =>
      exact congrArg _ (State.applyRow_completes (plan := registerCratePlan) applies (fun _ _ => ⟨rfl, rfl⟩)
        (registerCratePlan_verdict s p) (guards ▸ reads)
        (by
          simp only [State.registerCrateChecks, firstFail_cons_eq_none]
          exact ⟨inRange, ⟨least, most⟩, type, retired, rfl⟩))
    case retire =>
      exact congrArg _ (State.applyRow_completes (plan := retireCratePlan) applies (fun _ _ => ⟨rfl, rfl⟩)
        (retireCratePlan_verdict s p) (guards ▸ reads)
        (by
          simp only [State.retireCrateChecks, firstFail_cons_eq_none]
          exact ⟨inRange, state, rfl⟩))
    case writeOff =>
      intro h a d applies accounts ordinary state takes pays
      have records := writeOffPlan_records_out inRange (c.lentOrSold_iff.2 state)
      have holds : firstFail (s.writeOffChecks p) = none := by
        simp only [State.writeOffChecks, firstFail_cons_eq_none]
        exact ⟨inRange, state, ⟨takes, pays⟩, rfl⟩
      have applied := State.applyRow_completes applies (fun _ _ => ⟨rfl, rfl⟩) (writeOffPlan_verdict s p)
        (records ▸ State.readable_append reads accounts) holds
      rw [State.writeOffImages, twoAccounts_ascending (Nat.le_of_lt ordinary), BitVec.ofNat_toNat,
        BitVec.setWidth_eq] at applied
      exact congrArg _ applied

end Sys2Proof.Machine
end

section
/-! The ice postings (R157, R158, R160, R164): their checks as the statements spell them, the images they are
accepted with, and the refusals. -/

namespace Sys2Proof.Machine

/-! ## Ranges -/

theorem boatAccount_inRange {w : Word} (h : w.toNat ≤ 255) : boatAccount w = w.toNat :=
  Nat.mod_eq_of_lt (by omega)

/-- The range check of a settlement, in words (R160, R164). -/
theorem settleRange_eq (a hall : AccountImage) (r : BayRecord) (delivered : Word) :
    settleRange a hall (delivered.toNat * r.rate.toNat) r.heldCost.toNat delivered.toNat =
      decide (a.settles hall r delivered) := by
  have holds : centsRange ((a.holds.toNat : Int) - r.heldCost.toNat) = true ↔
      r.heldCost.toNat ≤ a.holds.toNat ∧ a.holds.toNat - r.heldCost.toNat ≤ 2147483647 := by
    rw [centsRange_iff]
    omega
  rw [Bool.eq_iff_iff, decide_eq_true_iff]
  simp only [settleRange, balanceRange_balanceAfter, totalRange_add, Bool.and_eq_true, decide_eq_true_iff, holds,
    AccountImage.settles]
  tauto

/-- Fewer records are readable, in any order (R21). -/
theorem State.readable_subset {s : State} {qs rs : List RecordId} (reads : s.readable qs) (sub : rs ⊆ qs) :
    s.readable rs := by
  simp only [State.readable, State.anyFails, List.any_eq_false] at reads ⊢
  exact fun r mem => reads r (List.cons_subset_cons _ sub mem)

section Verdicts

variable (s : State) (p : Posting)

/-! ## ICE_HOLD -/

/-- The checks of an ICE_HOLD, in the order of R157. -/
def State.iceHoldChecks (s : State) (p : Posting) : List (Bool × Reason) :=
  let n := boatAccount p.params.w1
  let a := s.account n
  let cost := p.params.w2.toNat * p.params.w3.toNat
  [ (decide (a.kind ≠ kindUnused), .noAccount), (decide (a.kind = kindBoat), .wrongKind),
    (decide (a.state ≠ accountClosed), .noAccount), (decide (a.state = accountOpen), .frozen),
    (decide (n = 0 ∨ n = 2 ∨ (cost : Int) ≤ a.balance.toInt + a.credit.toInt - a.holds.toInt), .credit),
    (decide (a.holds.toNat + cost ≤ 2147483647), .range) ]

/-- The images of an applied ICE_HOLD (R158). -/
def State.iceHoldImages (s : State) (p : Posting) : List Image :=
  let n := boatAccount p.params.w1
  let a := s.account n
  let b := p.params.w0.toNat
  [.account (BitVec.ofNat 8 n)
      { a with holds := a.holds + BitVec.ofNat 32 (p.params.w2.toNat * p.params.w3.toNat) },
    .bay (BitVec.ofNat 8 b) (holdRecord (s.bayRecord b) p)]

theorem iceHoldPlan_verdict :
    (iceHoldPlan p).verdict s = checked (s.iceHoldChecks p) (s.acceptImages (s.iceHoldImages p)) := by
  unfold iceHoldPlan Plan.simple State.iceHoldChecks State.iceHoldImages
  simp only [bne, beq_eq_decide, decide_not, debitCheck_eq, centsRange_add, accountImages_one]
  rfl

/-! ## Settlements -/

/-- The images of a settlement, at a boat's account behind HALL's (R160, R164). -/
theorem State.settleImages_eq {n : Nat} (b : Nat) (delivered : Word) :
    s.settleImages b n delivered =
      twoAccounts 0 { s.account 0 with
          balance := (s.account 0).balance + BitVec.ofNat 32 (delivered.toNat * (s.bayRecord b).rate.toNat) }
        n { s.account n with
          balance := (s.account n).balance - BitVec.ofNat 32 (delivered.toNat * (s.bayRecord b).rate.toNat)
          holds := (s.account n).holds - (s.bayRecord b).heldCost
          ice := (s.account n).ice + delivered } ++
      [.bay (BitVec.ofNat 8 b) { s.bayRecord b with state := bayIdle, delivered := delivered }] := by
  simp only [State.settleImages, accountImages_two, AccountImage.pay_eq, BitVec.ofInt_neg, BitVec.ofInt_natCast,
    ← BitVec.sub_eq_add_neg]

/-- The checks of an ICE_SETTLE, in the order of R160. -/
def State.iceSettleChecks (s : State) (p : Posting) : List (Bool × Reason) :=
  let r := s.bayRecord p.params.w0.toNat
  [ (decide (r.state = baySettlePending), .notDispensing),
    (decide ((s.account (boatAccount p.params.w1)).settles (s.account 0) r p.params.w2), .range) ]

theorem iceSettlePlan_verdict :
    (iceSettlePlan p).verdict s = checked (s.iceSettleChecks p)
      (s.acceptImages (s.settleImages p.params.w0.toNat (boatAccount p.params.w1) p.params.w2)) := by
  unfold iceSettlePlan Plan.simple State.iceSettleChecks
  simp only [beq_eq_decide, settleRange_eq]

/-- The checks of a BAY_RELEASE under a profile, in the order of R164. -/
def State.bayReleaseChecks (s : State) (f : Profile) (p : Posting) : List (Bool × Reason) :=
  let b := p.params.w0.toNat
  let r := s.bayRecord b
  [ (decide (b ≤ 5), .badValue), (decide (p.params.w1.toNat ≤ 6000), .badValue),
    (decide (b < f.bays.toNat ∧ r.state = bayStalled), .notStalled),
    (decide ((s.account (boatAccount r.boat)).settles (s.account 0) r p.params.w1), .range) ]

variable {s} {f : Profile} (profile : s.profile = some f)
include profile

theorem State.stalledBay_eq (b : Nat) :
    s.stalledBay b = decide (b < f.bays.toNat ∧ (s.bayRecord b).state = bayStalled) := by
  simp only [State.stalledBay, profile, beq_eq_decide, Bool.decide_and]

theorem bayReleasePlan_verdict :
    (bayReleasePlan p).verdict s = checked (s.bayReleaseChecks f p)
      (s.acceptImages (s.settleImages p.params.w0.toNat
        (boatAccount (s.bayRecord p.params.w0.toNat).boat) p.params.w1)) := by
  unfold bayReleasePlan State.bayReleaseChecks
  simp only [State.stalledBay_eq profile, settleRange_eq]

/-- BAY_RELEASE of a stalled bay reads the boat's account besides (R164). -/
theorem bayReleasePlan_records_stalled (inRange : p.params.w0.toNat ≤ 5)
    (fitted : p.params.w0.toNat < f.bays.toNat)
    (stalled : (s.bayRecord p.params.w0.toNat).state = bayStalled) :
    (bayReleasePlan p).first ++ (bayReleasePlan p).more s =
      [.account 0, .bay p.params.w0.toNat] ++
        [.account (boatAccount (s.bayRecord p.params.w0.toNat).boat)] := by
  simp only [bayReleasePlan, decide_eq_true inRange, State.stalledBay_eq profile, fitted, stalled, and_self,
    decide_true, Bool.and_self, if_true]

end Verdicts

/-! ## The rows settled -/

/-- Settles O57: each row's list of checks is the list its plan judges by. -/
theorem icePostingsRefused : Obligations.IcePostingsRefused := by
  unfold Obligations.IcePostingsRefused
  intro s p clean
  refine ⟨fun applies r fails => ?_, fun applies r fails => ?_, fun applies f profile r fails => ?_⟩
  · exact congrArg _ (State.applyRow_refusesFirst (plan := iceHoldPlan) applies (fun _ _ => ⟨rfl, rfl⟩)
      (iceHoldPlan_verdict s p) clean fails)
  · exact congrArg _ (State.applyRow_refusesFirst (plan := iceSettlePlan) applies (fun _ _ => ⟨rfl, rfl⟩)
      (iceSettlePlan_verdict s p) clean fails)
  · exact congrArg _ (State.applyRow_refusesFirst (plan := bayReleasePlan) applies (fun _ _ => ⟨rfl, rfl⟩)
      (bayReleasePlan_verdict p profile) clean fails)

/-- Settles O50: where every check of a row holds, its plan accepts with the images of the statement. -/
theorem icePostingsApply : Obligations.IcePostingsApply := by
  unfold Obligations.IcePostingsApply
  intro s p b r l hall inRange
  refine ⟨?hold, ?settle⟩
  case hold =>
    intro n a cost applies boatRange reads boat isOpen covered holds
    have named : boatAccount p.params.w1 = n := boatAccount_inRange boatRange
    have used : a.kind ≠ kindUnused := by rw [boat]; decide
    have standing : a.state ≠ accountClosed := by rw [isOpen]; decide
    have passes : firstFail (s.iceHoldChecks p) = none := by
      simp only [State.iceHoldChecks, named, firstFail_cons_eq_none]
      exact ⟨used, boat, standing, isOpen, .inr (.inr covered), holds, rfl⟩
    have applied := State.applyRow_completes (plan := iceHoldPlan) applies (fun _ _ => ⟨rfl, rfl⟩)
      (iceHoldPlan_verdict s p) (by rw [← named] at reads; exact reads) passes
    rw [State.iceHoldImages, named] at applied
    exact congrArg _ applied
  case settle =>
    intro i n delivered row a cost ordinary boatRange reads pays takes held holds ice
    have settles : a.settles hall r delivered := ⟨pays, takes, held, by omega, ice⟩
    have images := s.settleImages_eq (n := n) b delivered
    rw [twoAccounts_ascending (Nat.le_of_lt ordinary)] at images
    rcases row with ⟨rfl, applies, pending, rfl, rfl⟩ |
      ⟨rfl, applies, stalled, ⟨f, profile, fitted⟩, rfl, rfl, most⟩
    · have named : boatAccount p.params.w1 = p.params.w1.toNat := boatAccount_inRange boatRange
      have passes : firstFail (s.iceSettleChecks p) = none := by
        simp only [State.iceSettleChecks, named, firstFail_cons_eq_none]
        exact ⟨pending, settles, rfl⟩
      have applied := State.applyRow_completes (plan := iceSettlePlan) applies (fun _ _ => ⟨rfl, rfl⟩)
        (iceSettlePlan_verdict s p) (by rw [← named] at reads; exact reads) passes
      rw [named, images] at applied
      exact congrArg _ applied
    · have named : boatAccount r.boat = r.boat.toNat := boatAccount_inRange boatRange
      have passes : firstFail (s.bayReleaseChecks f p) = none := by
        simp only [State.bayReleaseChecks, firstFail_cons_eq_none]
        exact ⟨inRange, most, ⟨fitted, stalled⟩, by rw [named]; exact settles, rfl⟩
      have records := bayReleasePlan_records_stalled p profile inRange fitted stalled
      have reordered : s.readable ([.account 0, .bay b] ++ [.account (boatAccount r.boat)]) :=
        State.readable_subset reads (by rw [named]; simp)
      have applied := State.applyRow_completes (plan := bayReleasePlan) applies (fun _ _ => ⟨rfl, rfl⟩)
        (bayReleasePlan_verdict p profile) (records ▸ reordered) passes
      rw [named, images] at applied
      exact congrArg _ applied

end Sys2Proof.Machine
end

section
/-! The Ice Unit at a second tick (R162): the count and the stall of each bay, which the ticks of the other bays
leave alone. -/

namespace Sys2Proof.Machine

variable {s : State} {b : Fin 6}

/-! ## Changes of a bay record -/

/-- The words that the Ice Unit asks to write for a bay lie in its record (R149). -/
theorem State.bayRequests_range {r : BayRecord} {places : List Nat} (inside : ∀ i ∈ places, i < 8) {q : Request}
    (mem : q ∈ s.bayRequests b r places) : s.bayAddr b.val ≤ q.2.1 ∧ q.2.1 + 4 ≤ s.bayAddr b.val + 32 := by
  unfold State.bayRequests at mem
  split at mem
  · cases mem
  · simp only [requests, bayWordWrites, List.map_map, List.mem_map, Function.comp] at mem
    obtain ⟨i, place, rfl⟩ := mem
    have := inside i place
    dsimp only
    omega

/-- A change of one bay's record leaves every other bay. -/
theorem BayKept.bayChange {d : Fin 6} (other : b ≠ d) (s : State) (r : BayRecord) {places : List Nat}
    (inside : ∀ i ∈ places, i < 8) : BayKept b s (s.bayChange d r places) := by
  have same : ∀ n, (s.bayTransition d r).bayAddr n = s.bayAddr n := (BayKept.bayTransition other s r).bayAddr
  refine (BayKept.bayTransition other s r).trans (BayKept.serve _ fun q mem => ?_)
  rw [List.append_nil] at mem
  obtain ⟨low, high⟩ := State.bayRequests_range inside mem
  exact BayKept.apart_of_other _ other (same d.val ▸ low) (same d.val ▸ high)

/-- The Ice Unit's copy after a transition, whether the record is guarded or not (R149, R155). -/
theorem State.bayChange_copy (r : BayRecord) (places : List Nat) (beside : List Request) :
    ((s.bayChange b r places beside).bay b).copy = r := by
  rw [State.bayChange, State.serve_bay, State.bayTransition]
  dsimp only
  split <;> simp

/-! ## One bay -/

/-- A bay's copy one second of dispensing on: it stalls at the dispense limit (R162). -/
def BayRecord.ticked (c : BayRecord) (limit : Word) : BayRecord :=
  { c with
    elapsed := c.elapsed + 1
    state := if limit.toNat ≤ (c.elapsed + 1).toNat then bayStalled else bayDispensing }

/-- A bay that dispenses, and so counts at a tick (R162). -/
abbrev State.dispenses (s : State) (b : Fin 6) : Prop :=
  s.bayFitted b = true ∧ (s.bay b).copy.state = bayDispensing

theorem State.tickBay_resting (resting : ¬ s.dispenses b) : s.tickBay b = s := by
  refine if_neg ?_
  rwa [Bool.and_eq_true, beq_iff_eq]

/-- A dispensing bay below the limit counts (R162). -/
theorem State.tickBay_counts (running : s.dispenses b)
    (below : ¬ s.ice.limit.toNat ≤ ((s.bay b).copy.elapsed + 1).toNat) :
    s.tickBay b = s.bayChange b ((s.bay b).copy.ticked s.ice.limit) [7] := by
  obtain ⟨fitted, state⟩ := running
  simp only [State.tickBay, BayRecord.ticked, fitted, state, below, beq_self_eq_true, Bool.and_self, if_true,
    if_false]

/-- A dispensing bay that reaches the limit stalls, and STALL is raised (R162). -/
theorem State.tickBay_stalls (running : s.dispenses b)
    (reached : s.ice.limit.toNat ≤ ((s.bay b).copy.elapsed + 1).toNat) :
    s.tickBay b = (s.bayChange b ((s.bay b).copy.ticked s.ice.limit) [7, 0]).raise .stall := by
  obtain ⟨fitted, state⟩ := running
  simp only [State.tickBay, BayRecord.ticked, fitted, state, reached, beq_self_eq_true, Bool.and_self, if_true]

/-- The three ways a bay goes at a tick (R162). -/
theorem State.tickBay_cases (s : State) (b : Fin 6) :
    (¬ s.dispenses b ∧ s.tickBay b = s) ∨
      (s.dispenses b ∧ s.tickBay b = s.bayChange b ((s.bay b).copy.ticked s.ice.limit) [7]) ∨
      (s.dispenses b ∧
        s.tickBay b = (s.bayChange b ((s.bay b).copy.ticked s.ice.limit) [7, 0]).raise .stall) := by
  by_cases running : s.dispenses b
  · by_cases reached : s.ice.limit.toNat ≤ ((s.bay b).copy.elapsed + 1).toNat
    · exact .inr (.inr ⟨running, State.tickBay_stalls running reached⟩)
    · exact .inr (.inl ⟨running, State.tickBay_counts running reached⟩)
  · exact .inl ⟨running, State.tickBay_resting running⟩

theorem State.tickBay_copy :
    ((s.tickBay b).bay b).copy =
      if s.dispenses b then (s.bay b).copy.ticked s.ice.limit else (s.bay b).copy := by
  rcases s.tickBay_cases b with ⟨resting, tick⟩ | ⟨running, tick⟩ | ⟨running, tick⟩ <;> rw [tick]
  · rw [if_neg resting]
  · rw [if_pos running, State.bayChange_copy]
  · rw [if_pos running, State.raise_bay, State.bayChange_copy]

theorem OffIce.tickBay (s : State) (b : Fin 6) : OffIce s (s.tickBay b) := by
  rcases s.tickBay_cases b with ⟨-, tick⟩ | ⟨-, tick⟩ | ⟨-, tick⟩ <;> rw [tick]
  · exact OffIce.frame.refl s
  · exact OffIce.frame.bayChange s _ _ _
  · exact OffIce.frame.trans (OffIce.frame.bayChange s _ _ _) (OffIce.frame.raise _ _)

theorem BayKept.tickBay {d : Fin 6} (other : b ≠ d) (s : State) : BayKept b s (s.tickBay d) := by
  rcases s.tickBay_cases d with ⟨-, tick⟩ | ⟨-, tick⟩ | ⟨-, tick⟩ <;> rw [tick]
  · exact .refl b s
  · exact .bayChange other s _ (by decide)
  · exact (BayKept.bayChange other s _ (by decide)).trans (.raise _ _)

/-! ## The six bays -/

theorem OffIce.tickBays (s : State) : OffIce s s.tickBays := by
  have two (u : State) (c d : Fin 6) : OffIce u ((u.tickBay c).tickBay d) :=
    OffIce.frame.trans (OffIce.tickBay u c) (OffIce.tickBay _ d)
  exact OffIce.frame.trans (OffIce.frame.trans (two s 0 1) (two _ 2 3)) (two _ 4 5)

/-- Each bay has its own tick, from a state that shows the bay as the tick found it. -/
theorem State.tickBays_at (s : State) (b : Fin 6) :
    ∃ u, BayKept b s u ∧ BayKept b (u.tickBay b) s.tickBays :=
  six_bays (f := State.tickBay) (fun u _ other => BayKept.tickBay other u) s

theorem BayKept.dispenses {t : State} (h : BayKept b s t) : t.dispenses b ↔ s.dispenses b := by
  rw [State.dispenses, State.dispenses, h.bayFitted, h.bay]

theorem State.tickBays_copy (s : State) (b : Fin 6) :
    (s.tickBays.bay b).copy =
      if s.dispenses b then (s.bay b).copy.ticked s.ice.limit else (s.bay b).copy := by
  obtain ⟨u, before, after⟩ := s.tickBays_at b
  rw [after.bay, State.tickBay_copy]
  simp only [State.dispenses, before.bayFitted, before.bay, before.limit]

theorem State.tickBays_stall (running : s.dispenses b)
    (reached : s.ice.limit.toNat ≤ ((s.bay b).copy.elapsed + 1).toNat) : s.tickBays.noticed .stall = true := by
  obtain ⟨u, before, after⟩ := s.tickBays_at b
  rw [State.tickBay_stalls (before.dispenses.2 running) (by rw [before.limit, before.bay]; exact reached)] at after
  exact after.off.noticed _ (State.raise_noticed _ _)

end Sys2Proof.Machine
end

section
/-! The second tick and the crystal in every part state (R162, R169, R172, R174, R176, R177). -/

namespace Sys2Proof.Machine

variable {s : State}

/-! ## The schedule -/

/-- What the matcher leaves alone: all but the marks of the schedule, the close request, the tariff band and the
notices; and a notice that stands goes on standing. -/
structure MatcherKept (s t : State) : Prop where
  engine : t.engine = s.engine
  desk : t.desk = s.desk
  weigh : t.weigh = s.weigh
  tags : t.tags = s.tags
  bays : t.ice.bays = s.ice.bays
  clock : t.clock = { s.clock with
    matched := t.clock.matched, previous := t.clock.previous, request := t.clock.request }
  noticed : ∀ n : Notice, s.noticed n = true → t.noticed n = true

namespace MatcherKept

theorem refl (s : State) : MatcherKept s s := ⟨rfl, rfl, rfl, rfl, rfl, rfl, fun _ h => h⟩

theorem trans {t u : State} (h : MatcherKept s t) (k : MatcherKept t u) : MatcherKept s u :=
  ⟨k.engine.trans h.engine, k.desk.trans h.desk, k.weigh.trans h.weigh, k.tags.trans h.tags,
    k.bays.trans h.bays, by rw [k.clock, h.clock], fun n hn => k.noticed n (h.noticed n hn)⟩

theorem bay {t : State} (h : MatcherKept s t) (b : Fin 6) : t.bay b = s.bay b := by
  simp only [State.bay, h.bays]

theorem scheduleAction (s : State) (k : Fin 4) : MatcherKept s (s.scheduleAction k) := by
  unfold State.scheduleAction
  split
  · split
    · exact ⟨rfl, rfl, rfl, rfl, rfl, rfl, fun _ h => h⟩
    · exact refl s
  · exact ⟨rfl, rfl, rfl, rfl, rfl, rfl, fun _ h => h⟩
  · exact ⟨rfl, rfl, rfl, rfl, rfl, rfl, fun _ h => h⟩
  · exact ⟨rfl, rfl, rfl, rfl, rfl, rfl, (s.raise_stations _).noticed⟩

theorem matchEntry (s : State) (k : Fin 4) : MatcherKept s (s.matchEntry k) := by
  have mark (u : State) (v : Vector Bool 4) :
      MatcherKept u { u with clock := { u.clock with previous := v } } :=
    ⟨rfl, rfl, rfl, rfl, rfl, rfl, fun _ h => h⟩
  have hit (u : State) (v : Vector Bool 4) :
      MatcherKept u { u with clock := { u.clock with matched := v } } :=
    ⟨rfl, rfl, rfl, rfl, rfl, rfl, fun _ h => h⟩
  unfold State.matchEntry
  dsimp only
  split
  · exact ((hit s _).trans (scheduleAction _ k)).trans (mark _ _)
  · exact mark s _

theorem matchSchedule (s : State) : MatcherKept s s.matchSchedule :=
  (((matchEntry s 0).trans (matchEntry _ 1)).trans (matchEntry _ 2)).trans (matchEntry _ 3)

end MatcherKept

theorem State.scheduleAction_marks (s : State) (k : Fin 4) :
    (s.scheduleAction k).clock.matched = s.clock.matched ∧
      (s.scheduleAction k).clock.previous = s.clock.previous := by
  unfold State.scheduleAction
  split
  · split <;> exact ⟨rfl, rfl⟩
  all_goals exact ⟨rfl, rfl⟩

theorem State.matchEntry_schedule (s : State) (k : Fin 4) : (s.matchEntry k).clock.schedule = s.clock.schedule := by
  rw [(MatcherKept.matchEntry s k).clock]

theorem State.matchEntry_time (s : State) (k : Fin 4) : (s.matchEntry k).clock.time = s.clock.time := by
  rw [(MatcherKept.matchEntry s k).clock]

/-- An entry's previous match after the matcher has taken an entry (R177). -/
theorem State.matchEntry_previous (s : State) (k j : Fin 4) :
    (s.matchEntry k).clock.previous.get j =
      if j = k then entryMatches (s.clock.schedule.get k) s.clock.time else s.clock.previous.get j := by
  have kept : (s.matchEntry k).clock.previous =
      s.clock.previous.set k (entryMatches (s.clock.schedule.get k) s.clock.time) := by
    unfold State.matchEntry
    dsimp only
    split
    · rw [(State.scheduleAction_marks _ k).2]
    · rfl
  rw [kept, bank_get_set]

/-- An entry's matched flag after the matcher has taken an entry (R177). -/
theorem State.matchEntry_matched (s : State) (k j : Fin 4) :
    (s.matchEntry k).clock.matched.get j =
      if j = k then s.clock.matched.get k || entryMatches (s.clock.schedule.get k) s.clock.time
      else s.clock.matched.get j := by
  unfold State.matchEntry
  dsimp only
  split
  · next hit => rw [(State.scheduleAction_marks _ k).1, bank_get_set, hit, Bool.or_true]
  · next miss =>
    rw [Bool.eq_false_iff.2 miss, Bool.or_false]
    split
    · next same => rw [same]
    · rfl

/-- The marks of every entry once the matcher has taken the four (R177). -/
theorem State.matchSchedule_marks (s : State) (k : Fin 4) :
    s.matchSchedule.clock.previous.get k = entryMatches (s.clock.schedule.get k) s.clock.time ∧
      s.matchSchedule.clock.matched.get k =
        (s.clock.matched.get k || entryMatches (s.clock.schedule.get k) s.clock.time) := by
  simp only [State.matchSchedule, State.matchEntry_previous, State.matchEntry_matched, State.matchEntry_schedule,
    State.matchEntry_time]
  match k with
  | 0 | 1 | 2 | 3 => exact ⟨rfl, rfl⟩

/-! ## Hall time -/

/-- Hall time one second on, with CLOCK_FAIL at its wrap under main power (R169, R172). -/
def State.advanced (s : State) : State :=
  ({ s with clock := s.clock.advance }).raiseIf (s.clock.wraps && s.powered) .clockFail

theorem State.advanced_clock (s : State) : s.advanced.clock = s.clock.advance := State.raiseIf_clock _ _ _

theorem State.advanced_bay (s : State) (b : Fin 6) : s.advanced.bay b = s.bay b := State.raiseIf_bay _ _ _ _

theorem State.advanced_bayFitted (s : State) (b : Fin 6) : s.advanced.bayFitted b = s.bayFitted b := by
  simp only [State.bayFitted, State.advanced_bay]
  rw [State.advanced, State.raiseIf_profile]

theorem State.advanced_limit (s : State) : s.advanced.ice.limit = s.ice.limit := by
  rw [State.advanced, State.raiseIf_ice]

/-- Ticks come while the clock has power, its hold is off and the crystal runs (R169, R172). -/
theorem State.ticking_iff :
    s.ticking = true ↔
      (s.part ≠ .unpowered ∨ s.clock.backupLost = false) ∧ s.clock.hold = false ∧ s.clock.crystal = true := by
  simp [State.ticking, State.clockPowered, State.powered, HallClock.ticks]

theorem State.ticking_eq_false
    (still : s.clock.hold = true ∨ s.clock.crystal = false ∨
      (s.part = .unpowered ∧ s.clock.backupLost = true)) :
    s.ticking = false := by
  refine Bool.eq_false_iff.2 fun ticks => ?_
  obtain ⟨supplied, free, runs⟩ := State.ticking_iff.1 ticks
  rcases still with held | stopped | ⟨off, lost⟩
  · rw [free] at held; cases held
  · rw [runs] at stopped; cases stopped
  · rcases supplied with on | kept
    · exact on off
    · rw [kept] at lost; cases lost

theorem State.tick_still (still : s.ticking = false) : s.tick = s := by
  simp only [State.tick, still, Bool.false_eq_true, if_false]

/-- A tick of a part that is not RUNNING moves hall time alone (R169). -/
theorem State.tick_idle (ticks : s.ticking = true) (idle : s.part ≠ .running) : s.tick = s.advanced := by
  simp only [State.tick, ticks, if_true, State.raiseIf_part, idle, if_false, State.advanced]

/-- A tick of a RUNNING part: hall time, the bays, the schedule (R162, R169, R177). -/
theorem State.tick_running (ticks : s.ticking = true) (running : s.part = .running) :
    s.tick = s.advanced.tickBays.matchSchedule := by
  simp only [State.tick, ticks, if_true, State.raiseIf_part, running, State.advanced]

/-- The clock of a RUNNING part after a tick, but for the marks of the schedule and the close request. -/
theorem State.tick_clock (ticks : s.ticking = true) (running : s.part = .running) :
    s.tick.clock = { s.clock.advance with
      matched := s.tick.clock.matched, previous := s.tick.clock.previous, request := s.tick.clock.request } := by
  rw [State.tick_running ticks running, (MatcherKept.matchSchedule _).clock, (OffIce.tickBays _).clock,
    State.advanced_clock]

/-- The bay copies of a RUNNING part after a tick (R162). -/
theorem State.tick_copy (ticks : s.ticking = true) (running : s.part = .running) (b : Fin 6) :
    (s.tick.bay b).copy =
      if s.dispenses b then (s.bay b).copy.ticked s.ice.limit else (s.bay b).copy := by
  rw [State.tick_running ticks running, (MatcherKept.matchSchedule _).bay, State.tickBays_copy]
  simp only [State.dispenses, State.advanced_bayFitted, State.advanced_bay, State.advanced_limit]

/-- The marks of the schedule after a tick (R177). -/
theorem State.tick_marks (ticks : s.ticking = true) (running : s.part = .running) (k : Fin 4) :
    s.tick.clock.previous.get k = entryMatches (s.clock.schedule.get k) s.tick.clock.time ∧
      s.tick.clock.matched.get k =
        (s.clock.matched.get k || entryMatches (s.clock.schedule.get k) s.tick.clock.time) := by
  have time : s.tick.clock.time = s.advanced.tickBays.clock.time := by
    rw [State.tick_clock ticks running, (OffIce.tickBays _).clock, State.advanced_clock]
  have marks := s.advanced.tickBays.matchSchedule_marks k
  rw [time, State.tick_running ticks running]
  rw [(OffIce.tickBays _).clock, State.advanced_clock] at marks ⊢
  exact marks

/-- The tick at which a dispensing bay reaches the limit is the one that STALL_TIMEOUT stands for (R162, log 10). -/
theorem State.stallTick_reached {b : Fin 6} (running : s.part = .running) (dispenses : s.dispenses b)
    (reached : s.ice.limit.toNat ≤ ((s.bay b).copy.elapsed + 1).toNat) : s.stallTick b = s.tick := by
  obtain ⟨fitted, state⟩ := dispenses
  refine if_pos ?_
  simp only [State.stallsNext, running, fitted, state, decide_eq_true reached, beq_self_eq_true, decide_true,
    Bool.and_self]

theorem State.tick_stall {b : Fin 6} (ticks : s.ticking = true) (running : s.part = .running)
    (dispenses : s.dispenses b) (reached : s.ice.limit.toNat ≤ ((s.bay b).copy.elapsed + 1).toNat) :
    s.tick.noticed .stall = true := by
  rw [State.tick_running ticks running]
  refine (MatcherKept.matchSchedule _).noticed _ (State.tickBays_stall (b := b) ?_ ?_)
  · rw [State.dispenses, State.advanced_bayFitted, State.advanced_bay]
    exact dispenses
  · rw [State.advanced_limit, State.advanced_bay]
    exact reached

/-! ## The crystal -/

theorem State.powered_of_running (running : s.part = .running) : s.powered = true := by
  simp [State.powered, running]

/-- The crystal stops at a count, which sets the clock-fail flag and raises CLOCK_FAIL (R172, log 9). -/
theorem State.stopCrystal_running (running : s.part = .running) (runs : s.clock.crystal = true)
    (free : s.clock.hold = false) (count : Nat) :
    s.stopCrystal count = ({ s with clock := { s.clock with
      crystal := false, fail := true, prescaler := count } }).raise .clockFail := by
  simp only [State.stopCrystal, State.clockPowered, State.powered_of_running running, runs, free, Bool.true_or,
    Bool.and_self, if_true, Bool.false_eq_true, if_false, State.raiseIf]

theorem State.startCrystal_running (running : s.part = .running) :
    s.startCrystal = { s with clock := { s.clock with crystal := true } } := by
  simp only [State.startCrystal, State.clockPowered, State.powered_of_running running, Bool.true_or, if_true]

/-! ## The obligation -/

/-- Settles O37: no tick, a tick of hall time alone, or a tick of the clock, the bays and the schedule. -/
theorem ticksAndCrystal : Obligations.TicksAndCrystal := by
  unfold Obligations.TicksAndCrystal
  intro s
  refine ⟨fun idle => ⟨fun b => ?early, fun still => ?still, fun free runs supplied => ?time⟩, fun running =>
    ⟨fun free runs => ?ticks, fun still => ?held, fun count runs free => ?stops, ?returns⟩⟩
  case early =>
    have none : s.stallTick b = s := if_neg (by simp [idle])
    exact congrArg _ none
  case still => exact congrArg _ (State.tick_still (State.ticking_eq_false still))
  case time =>
    refine congrArg _ ((State.tick_idle (State.ticking_iff.2 ⟨supplied, free, runs⟩) idle).trans ?_)
    rw [State.advanced, State.raiseIf, State.powered]
    exact if_congr (by simp) rfl rfl
  case ticks =>
    have ticks : s.ticking = true := State.ticking_iff.2 ⟨.inl (by rw [running]; decide), free, runs⟩
    have clock := State.tick_clock ticks running
    have matcher := MatcherKept.matchSchedule s.advanced.tickBays
    have off := OffIce.tickBays s.advanced
    rw [← State.tick_running ticks running] at matcher
    refine ⟨s.tick, rfl, by rw [clock]; rfl, by rw [clock]; rfl, by rw [clock]; rfl, by rw [clock]; rfl,
      s.tick_engine, ?_, ?_, ?_, s.tick_shell.shadows, State.tick_marks ticks running, fun b => ?_,
      fun b fitted dispensing reached => ⟨?_, ?_⟩⟩
    · exact (matcher.weigh.trans off.weigh).trans (State.raiseIf_weigh _ _ _)
    · exact (matcher.tags.trans off.tags).trans (State.raiseIf_tags _ _ _)
    · exact (matcher.desk.trans off.desk).trans (State.raiseIf_desk _ _ _)
    · exact State.tick_copy ticks running b
    · exact congrArg _ (State.stallTick_reached running ⟨fitted, dispensing⟩ reached)
    · exact State.tick_stall ticks running ⟨fitted, dispensing⟩ reached
  case held => exact congrArg _ (State.tick_still (State.ticking_eq_false (still.imp_right .inl)))
  case stops => exact congrArg _ (State.stopCrystal_running running runs free _)
  case returns => exact congrArg _ (State.startCrystal_running running)

end Sys2Proof.Machine
end

section
/-! Intake of REQUEST and DONE (R154 to R156, R159): what it leaves at the bay, in the bay's record and of the
trigger's own word, whether at the trigger's write or once a held trigger is taken. -/

namespace Sys2Proof.Machine

variable {s : State} {b : Fin 6}

/-! ## The record of a bay that changes -/

/-- The bay record that a change leaves in the store: the record's words at the places, the old ones elsewhere. -/
def State.changedRecord (s : State) (b : Fin 6) (r : BayRecord) (places : List Nat) : BayRecord :=
  bayOfWords ((List.range 8).map fun i =>
    if i ∈ places then r.word i else s.store.word (s.bayAddr b.val + 4 * i))

theorem Memory.words_eight (m : Memory) (a : Nat) :
    m.words a 8 = (List.range 8).map fun i => m.word (a + 4 * i) := rfl

theorem BayRecord.headWord_state (r : BayRecord) : field r.headWord 0 3 = r.state :=
  congrArg BayRecord.state (bayOfWords_words r)

theorem BayRecord.headWord_unsure (r : BayRecord) : r.headWord.getLsbD 8 = r.unsure :=
  congrArg BayRecord.unsure (bayOfWords_words r)

/-- The requests of a change that is not guarded, beside one word of a path (R79, R149). -/
theorem State.bayRequests_free (free : s.guarded (.bay b.val) = false) (r : BayRecord) (places : List Nat) :
    s.bayRequests b r places = requests (.inner .ice) (bayWordWrites (s.bayAddr b.val) r places) := by
  simp only [State.bayRequests, free, Bool.false_eq_true, if_false]

/-- The store of a change that is not guarded, once its words and one word of a path beside them are served: the
places of the record, and that word. -/
theorem State.serve_bayRequests (free : s.guarded (.bay b.val) = false) (fuse : s.store.fuse = none)
    (r : BayRecord) {places : List Nat} (inside : ∀ i ∈ places, i < 8) (who : Grantee) {a : Nat} (v : Word)
    (apart : a + 4 ≤ s.bayAddr b.val ∨ s.bayAddr b.val + 32 ≤ a) :
    (s.serve (s.bayRequests b r places ++ [(who, a, v)])).bayRecord b.val = s.changedRecord b r places ∧
      (s.serve (s.bayRequests b r places ++ [(who, a, v)])).store.word a = v := by
  have asked (q : Request) : q ∈ s.bayRequests b r places ++ [(who, a, v)] ↔
      (∃ i ∈ places, q = (.inner .ice, s.bayAddr b.val + 4 * i, r.word i)) ∨ q = (who, a, v) := by
    simp [State.bayRequests_free free, requests, bayWordWrites, eq_comm]
  refine ⟨?_, State.serve_word fuse (by simp) fun q mem => ?_⟩
  · have addr (t : State) (same : t.profile = s.profile) : t.bayAddr b.val = s.bayAddr b.val := by
      simp only [State.bayAddr, State.base, same]
    rw [State.bayRecord, addr _ (State.serve_profile _ _), State.changedRecord, Memory.words_eight]
    refine congrArg bayOfWords (List.map_congr_left fun i mem => ?_)
    have small : i < 8 := List.mem_range.1 mem
    split
    · next place =>
      have requested := (asked _).2 (.inl ⟨i, place, rfl⟩)
      refine State.serve_word fuse (List.mem_map.2 ⟨_, requested, rfl⟩) fun q mem => ?_
      rcases (asked q).1 mem with ⟨j, -, rfl⟩ | rfl
      · by_cases same : i = j
        · exact same ▸ .refl _
        · exact .of_apart (by dsimp only; omega)
      · exact .of_apart (by dsimp only; omega)
    · next absent =>
      refine (s.serve_kept (n := 4) fun q mem => ?_).word (Nat.le_refl _) (Nat.le_refl _)
      rcases (asked q).1 mem with ⟨j, place, rfl⟩ | rfl
      · have other : i ≠ j := fun same => absent (same ▸ place)
        dsimp only
        omega
      · dsimp only
        omega
  · rcases (asked q).1 mem with ⟨j, place, rfl⟩ | rfl
    · have := inside j place
      exact .of_apart (by dsimp only; omega)
    · exact .refl _

/-! ## What intake leaves -/

/-- What the intake of a trigger at bay b leaves: the bay's channel, the bay's record, and the trigger's own word v
at address a; and no change of the engine, the queue, the other bays and the other stations. -/
structure TakenIn (b : Fin 6) (a : Nat) (v : Word) (s t : State) (c : BayChannel) (r : BayRecord) : Prop where
  engine : t.engine = s.engine
  tags : t.tags = s.tags
  weigh : t.weigh = s.weigh
  desk : t.desk = s.desk
  bay : t.bay b = c
  others : ∀ d : Fin 6, d ≠ b → t.bay d = s.bay d
  record : s.store.fuse = none → t.bayRecord b.val = r
  word : s.store.fuse = none → t.store.word a = v

namespace TakenIn

variable {t : State} {a : Nat} {v : Word} {c : BayChannel} {r : BayRecord}

/-- The trigger's write is answered. -/
theorem answer (h : TakenIn b a v s t c r) (p : PortId) (x : Answer) : TakenIn b a v s (t.answer p x) c r where
  engine := (State.answer_engine t p x).trans h.engine
  tags := (State.answer_tags t p x).trans h.tags
  weigh := (State.answer_weigh t p x).trans h.weigh
  desk := (State.answer_desk t p x).trans h.desk
  bay := (State.answer_bay t p x b).trans h.bay
  others d other := (State.answer_bay t p x d).trans (h.others d other)
  record fuse := by cases p <;> exact h.record fuse
  word fuse := by rw [State.answer_store]; exact h.word fuse

/-- Intake at a trigger's write begins with the port's snapshot invalid. -/
theorem of_dropSnapshot {p : PortId} (h : TakenIn b a v (s.dropSnapshot p) t c r) : TakenIn b a v s t c r := by
  cases p <;> exact ⟨h.engine, h.tags, h.weigh, h.desk, h.bay, h.others, h.record, h.word⟩

/-- Intake of a held trigger begins with the trigger off the bay's list. -/
theorem of_setBay {x : BayChannel} (h : TakenIn b a v (s.setBay b x) t c r) : TakenIn b a v s t c r :=
  ⟨h.engine, h.tags, h.weigh, h.desk, h.bay,
    fun d other => (h.others d other).trans (by rw [State.bay_setBay, if_neg other]), h.record, h.word⟩

/-- Intake of a REQUEST begins with the bay's STATUS. -/
theorem of_bayStatus {x : Status} (h : TakenIn b a v (s.bayStatus b x) t c r) : TakenIn b a v s t c r :=
  ⟨h.engine, h.tags, h.weigh, h.desk, h.bay,
    fun d other => (h.others d other).trans (by rw [State.bayStatus_bay, if_neg other]), h.record, h.word⟩

end TakenIn

section Intake

variable (who : Grantee) {a : Nat} (v : Word) (apart : a + 4 ≤ s.bayAddr b.val ∨ s.bayAddr b.val + 32 ≤ a)

/-- A STATUS alone, with the trigger's own word. -/
theorem State.bayStatus_takenIn (st : Status) :
    TakenIn b a v s ((s.bayStatus b st).serve [(who, a, v)]) { s.bay b with status := st }
      (((s.bayStatus b st).serve [(who, a, v)]).bayRecord b.val) where
  engine := by simp
  tags := by rw [State.serve_tags]; rfl
  weigh := by rw [State.serve_weigh]; rfl
  desk := by rw [State.serve_desk]; rfl
  bay := by simp
  others d other := by simp [other]
  record _ := rfl
  word fuse := by
    rw [State.serve_one]
    exact Memory.word_putWord_same fuse a v

include apart

/-- The bay's record stays when the trigger's own word alone is written. -/
theorem State.bayStatus_bayRecord (st : Status) :
    ((s.bayStatus b st).serve [(who, a, v)]).bayRecord b.val = s.bayRecord b.val :=
  (BayKept.serve (s.bayStatus b st) (rs := [(who, a, v)]) fun q mem => by
    cases List.mem_singleton.1 mem
    exact apart).bayRecord

/-- The Ice Unit's change of a bay's record, not guarded, with the trigger's own word beside it (R79, R149). -/
theorem State.bayChange_takenIn (free : s.guarded (.bay b.val) = false) (r : BayRecord) {places : List Nat}
    (inside : ∀ i ∈ places, i < 8) :
    TakenIn b a v s (s.bayChange b r places [(who, a, v)]) { s.bay b with copy := r }
      (s.changedRecord b r places) := by
  have off := OffIce.frame.bayChange s b r places [(who, a, v)]
  have guarded : (s.setBayCopy b r).guarded (.bay b.val) = s.guarded (.bay b.val) := by
    simp only [State.guarded, State.setBayCopy_engine]
  have addr : (s.setBayCopy b r).bayAddr b.val = s.bayAddr b.val := by
    simp only [State.bayAddr, State.base, (s.setBayCopy_shell b r).profile]
  have store := State.setBayCopy_store s b r
  have change : s.bayChange b r places [(who, a, v)] =
      (s.setBayCopy b r).serve ((s.setBayCopy b r).bayRequests b r places ++ [(who, a, v)]) := by
    simp only [State.bayChange, State.bayTransition_free free, State.bayRequests, guarded, addr]
  have served (fuse : s.store.fuse = none) := State.serve_bayRequests (s := s.setBayCopy b r) (guarded.trans free)
    (store ▸ fuse) r inside who v (addr ▸ apart)
  have record : (s.setBayCopy b r).changedRecord b r places = s.changedRecord b r places := by
    simp only [State.changedRecord, addr, store]
  refine ⟨s.bayChange_engine b r places _, off.tags, off.weigh, off.desk, ?_, fun d other => ?_, fun fuse => ?_,
    fun fuse => ?_⟩
  · rw [change, State.serve_bay, State.setBayCopy_bay, if_pos rfl]
  · rw [change, State.serve_bay, State.setBayCopy_bay, if_neg other]
  · rw [change, (served fuse).1, record]
  · rw [change, (served fuse).2]

end Intake

/-! ## REQUEST -/

section Request

variable (b) (sh : BayShadow) (beside : List Request)

theorem State.takeRequest_setup (setup : s.engine.mode = .setup) :
    s.takeRequest b sh beside =
      (s.bayStatus b ⟨.refused, some .hallSetup, none, none, false, 0⟩).serve beside := if_pos setup

theorem State.takeRequest_bayBusy (trading : s.engine.mode = .trading) (busy : (s.bay b).copy.state ≠ bayIdle) :
    s.takeRequest b sh beside =
      (s.bayStatus b ⟨.refused, some .bayBusy, none, none, false, 0⟩).serve beside := by
  rw [State.takeRequest, trading]
  exact if_pos busy

theorem State.takeRequest_full (trading : s.engine.mode = .trading) (idle : (s.bay b).copy.state = bayIdle)
    (full : 12 ≤ s.engine.queue.length) :
    s.takeRequest b sh beside = (s.bayStatus b ⟨.busy, none, none, none, false, 0⟩).serve beside := by
  rw [State.takeRequest, trading, idle, State.admits, decide_eq_false (Nat.not_lt.2 full)]
  rfl

/-- The hall once a REQUEST is taken, before its posting joins the queue (R156). -/
def State.requested (s : State) (b : Fin 6) (sh : BayShadow) (beside : List Request) : State :=
  (s.bayStatus b ⟨.taken, none, none, none, false, 0⟩).bayChange b (requestRecord (s.bay b).copy sh s.tariff)
    [1, 2, 3, 4, 5, 7, 0] beside

theorem State.takeRequest_taken (trading : s.engine.mode = .trading) (idle : (s.bay b).copy.state = bayIdle)
    (room : s.engine.queue.length < 12) :
    s.takeRequest b sh beside = (s.requested b sh beside).enqueue (s.holdPosting b sh) := by
  rw [State.takeRequest, trading, State.admits, decide_eq_true room, idle, State.requested]
  rfl

/-- A taken REQUEST writes every word of the record but its start time (R156). -/
theorem State.changedRecord_request (s : State) (b : Fin 6) (c : BayRecord) (sh : BayShadow) (rate : Word) :
    s.changedRecord b (requestRecord c sh rate) [1, 2, 3, 4, 5, 7, 0] =
      { s.bayRecord b.val with
        state := bayHoldPending, unsure := c.unsure, boat := sh.boat, requested := sh.kg, rate := rate,
        heldCost := sh.kg * rate, delivered := 0, elapsed := 0 } := by
  have state := BayRecord.headWord_state (requestRecord c sh rate)
  have unsure := BayRecord.headWord_unsure (requestRecord c sh rate)
  simpa [State.changedRecord, State.bayRecord, Memory.words_eight, bayOfWords, List.range_succ, BayRecord.word,
    BayRecord.words, requestRecord] using And.intro state unsure

theorem State.requested_takenIn (free : s.guarded (.bay b.val) = false) (who : Grantee) {a : Nat} (v : Word)
    (apart : a + 4 ≤ s.bayAddr b.val ∨ s.bayAddr b.val + 32 ≤ a) :
    TakenIn b a v s (s.requested b sh [(who, a, v)])
      { s.bay b with
        status := ⟨.taken, none, none, none, false, 0⟩
        copy := requestRecord (s.bay b).copy sh s.tariff }
      { s.bayRecord b.val with
        state := bayHoldPending, unsure := (s.bay b).copy.unsure, boat := sh.boat, requested := sh.kg,
        rate := s.tariff, heldCost := sh.kg * s.tariff, delivered := 0, elapsed := 0 } := by
  have change := State.bayChange_takenIn (s := s.bayStatus b ⟨.taken, none, none, none, false, 0⟩) who v apart
    ((State.bayStatus_guarded _ _ _).trans free) (requestRecord (s.bay b).copy sh s.tariff)
    (places := [1, 2, 3, 4, 5, 7, 0]) (by decide)
  rw [State.changedRecord_request, State.bayStatus_bay, if_pos rfl] at change
  exact change.of_bayStatus

end Request

/-! ## DONE -/

section Done

variable (b) (sh : BayShadow) (beside : List Request)

theorem State.takeDone_refused (dispensing : (s.bay b).copy.state ≠ bayDispensing)
    (stalled : (s.bay b).copy.state ≠ bayStalled) :
    s.takeDone b sh beside =
      (s.bayStatus b ⟨.refused, some .notDispensing, none, none, false, 0⟩).serve beside :=
  if_neg (not_or.2 ⟨dispensing, stalled⟩)

/-- The record a taken DONE writes (R159). -/
abbrev doneRecord (c : BayRecord) (sh : BayShadow) : BayRecord :=
  { c with delivered := sh.delivered, state := baySettlePending }

/-- The hall once a DONE is taken, its ICE_SETTLE pending in the channel (R159). -/
def State.doneTaken (s : State) (b : Fin 6) (sh : BayShadow) (beside : List Request) : State :=
  (s.setBay b { s.bay b with pending := some (s.settlePosting b (doneRecord (s.bay b).copy sh)) }).bayChange b
    (doneRecord (s.bay b).copy sh) [5, 0] beside

theorem State.takeDone_taken
    (dispenses : (s.bay b).copy.state = bayDispensing ∨ (s.bay b).copy.state = bayStalled) :
    s.takeDone b sh beside = s.doneTaken b sh beside := if_pos dispenses

/-- A taken DONE writes the record's delivered kg and its state word (R159). -/
theorem State.changedRecord_done (s : State) (b : Fin 6) (c : BayRecord) (sh : BayShadow) :
    s.changedRecord b (doneRecord c sh) [5, 0] =
      { s.bayRecord b.val with state := baySettlePending, unsure := c.unsure, delivered := sh.delivered } := by
  have state := BayRecord.headWord_state (doneRecord c sh)
  have unsure := BayRecord.headWord_unsure (doneRecord c sh)
  simpa [State.changedRecord, State.bayRecord, Memory.words_eight, bayOfWords, List.range_succ, BayRecord.word,
    BayRecord.words] using And.intro state unsure

theorem State.doneTaken_takenIn (free : s.guarded (.bay b.val) = false) (who : Grantee) {a : Nat} (v : Word)
    (apart : a + 4 ≤ s.bayAddr b.val ∨ s.bayAddr b.val + 32 ≤ a) :
    TakenIn b a v s (s.doneTaken b sh [(who, a, v)])
      { s.bay b with
        copy := doneRecord (s.bay b).copy sh
        pending := some (s.settlePosting b (doneRecord (s.bay b).copy sh)) }
      { s.bayRecord b.val with
        state := baySettlePending, unsure := (s.bay b).copy.unsure, delivered := sh.delivered } := by
  have change := State.bayChange_takenIn
    (s := s.setBay b { s.bay b with pending := some (s.settlePosting b (doneRecord (s.bay b).copy sh)) }) who v apart
    free (doneRecord (s.bay b).copy sh) (places := [5, 0]) (by decide)
  rw [State.changedRecord_done, State.bay_setBay, if_pos rfl] at change
  exact change.of_setBay

end Done

end Sys2Proof.Machine
end

section
/-! REQUEST and DONE at a port, held bay triggers, and due writes of bay records (R149, R155, R156, R159). -/

namespace Sys2Proof.Machine

variable {s : State} {p : PortId} {b : Fin 6} {d : Bool} {v : Word}

/-! ## The words of the triggers -/

/-- The trigger word of a bay's slot: DONE or REQUEST (chapter 11). -/
def triggerWord (b : Fin 6) (isDone : Bool) : SpecialWord := if isDone then .done b else .request b

/-- The offset of a trigger word in the QUAYSIDE book (chapter 11). -/
def triggerOffset (b : Fin 6) (isDone : Bool) : Nat := (if isDone then 0x530 else 0x52C) + 64 * b.val

theorem specialWordAt_trigger :
    ∀ (b : Fin 6) (d : Bool), specialWordAt 5 (triggerOffset b d) = triggerWord b d := by decide

theorem triggerOffset_limit : ∀ (b : Fin 6) (d : Bool), triggerOffset b d + 4 ≤ bookLimit 5 := by decide

theorem triggerOffset_aligned : ∀ (b : Fin 6) (d : Bool), triggerOffset b d % 4 = 0 := by decide

theorem triggerOffset_small (b : Fin 6) (d : Bool) : triggerOffset b d < 262144 := by
  have limit := triggerOffset_limit b d
  have := bookLimit_le 5
  omega

/-- A bay's trigger words lie behind its record. -/
theorem State.triggerOffset_apart (s : State) (b : Fin 6) (d : Bool) :
    s.base 5 + triggerOffset b d + 4 ≤ s.bayAddr b.val ∨
      s.bayAddr b.val + 32 ≤ s.base 5 + triggerOffset b d := by
  cases d <;> simp only [triggerOffset, State.bayAddr] <;> right <;> split <;> omega

theorem State.triggerAddr_eq (s : State) (b : Fin 6) (d : Bool) :
    s.triggerAddr b d = s.base 5 + triggerOffset b d := by
  unfold State.triggerAddr triggerOffset State.bayAddr
  split <;> omega

theorem State.effect_trigger (s : State) (p : PortId) (b : Fin 6) (d : Bool) (v : Word) (rs : List Request) :
    s.effect p (triggerWord b d) v rs = s.deliverBay p b d v rs := by
  cases d <;> rfl

/-- The one check of a trigger at a fitted bay that can fail is that of its shadows (R154). -/
theorem State.trigger_passes (fitted : s.bayFitted b = true) (range : s.takesValue (triggerWord b d) v = true) :
    firstFail (s.wordChecks (triggerWord b d) v) = none := by
  have station : s.wordFitted (triggerWord b d) = true := by cases d <;> exact fitted
  simp only [State.wordChecks, range, station]
  cases d <;> rfl

/-! ## The trigger's write -/

section Write

variable (own : s.owns p 5) (checks : firstFail (s.wordChecks (triggerWord b d) v) = none)
include own checks

/-- A trigger whose bay's record is guarded is held: no answer, and no store access (R155). -/
theorem State.writeTrigger_held (guarded : s.guarded (.bay b.val) = true) :
    s.writeWord p (portAddr 5 (triggerOffset b d)) v =
      ((s.dropSnapshot p).setBay b { s.bay b with
        held := (s.bay b).held ++ [⟨p, d, s.shadows.bay.get b, v⟩] }).setWait p (.bay b) := by
  have offset : (⟨portAddr (5 : Fin 7) (triggerOffset b d), .word, some v⟩ : Access).offset = triggerOffset b d :=
    addrOffset_portAddr _ _ (triggerOffset_small b d)
  have delivered (rs : List Request) : (s.dropSnapshot p).effect p (triggerWord b d) v rs =
      ((s.dropSnapshot p).setBay b { s.bay b with
        held := (s.bay b).held ++ [⟨p, d, s.shadows.bay.get b, v⟩] }).setWait p (.bay b) := by
    have guarded' : (s.dropSnapshot p).guarded (.bay b.val) = true := by
      rw [State.guarded, State.dropSnapshot_engine]
      exact guarded
    rw [State.effect_trigger, State.deliverBay, if_pos guarded', State.dropSnapshot_bay, State.dropSnapshot_shadows]
    rfl
  refine (State.write_arrives (book := 5) own (triggerOffset_limit b d) (triggerOffset_aligned b d)
    (triggerOffset_small b d)).trans ?_
  rw [specialWordAt_trigger, checks]
  simp only [State.writeSpecial, offset, specialWordAt_trigger, delivered]
  refine if_pos ?_
  rw [State.setWait, State.path_setPath, if_pos rfl]
  rfl

/-- A trigger whose bay's record is not guarded goes to intake, and its write is answered DONE (R155). -/
theorem State.writeTrigger_taken (free : s.guarded (.bay b.val) = false) :
    s.writeWord p (portAddr 5 (triggerOffset b d)) v =
      ((s.dropSnapshot p).takeBayTrigger b d (s.shadows.bay.get b)
        [(s.grantee p, s.base 5 + triggerOffset b d, v)]).answer p .done := by
  have delivered (rs : List Request) : (s.dropSnapshot p).effect p (triggerWord b d) v rs =
      (s.dropSnapshot p).takeBayTrigger b d (s.shadows.bay.get b) rs := by
    have free' : (s.dropSnapshot p).guarded (.bay b.val) ≠ true := by
      rw [State.guarded, State.dropSnapshot_engine]
      exact Bool.eq_false_iff.1 free
    rw [State.effect_trigger, State.deliverBay, if_neg free', State.dropSnapshot_shadows]
  refine (State.stored_write (book := 5) rfl own (specialWordAt_trigger b d) (triggerOffset_limit b d)
    (triggerOffset_aligned b d) (triggerOffset_small b d) (by cases d <;> rfl) checks ?_).trans ?_
  · rw [delivered, (State.takeBayTrigger_shell _ _ _ _ _).path]
  · rw [delivered]

/-- A trigger that intake refuses: its word stands, the bay's STATUS is set, and its write is answered DONE. -/
theorem State.writeTrigger_refused (free : s.guarded (.bay b.val) = false) {st : Status}
    (refused : ∀ rs, (s.dropSnapshot p).takeBayTrigger b d (s.shadows.bay.get b) rs =
      ((s.dropSnapshot p).bayStatus b st).serve rs) :
    s.writeWord p (portAddr 5 (triggerOffset b d)) v =
      ((s.wroteWord p 5 (triggerOffset b d) v).setBay b { s.bay b with status := st }).indicate (bayPlace b) := by
  have apart : Apart fun u => u.bayStatus b st := fun _ _ _ _ _ => rfl
  have same : (s.wroteWord p 5 (triggerOffset b d) v).bay b = s.bay b := by simp [State.wroteWord]
  rw [State.writeTrigger_taken own checks free, refused, State.serve_one, apart.wrote, ← same]
  rfl

end Write

theorem State.enqueue_answer (s : State) (q : Posting) (p : PortId) (x : Answer) :
    (s.enqueue q).answer p x = (s.answer p x).enqueue q := by
  unfold State.enqueue
  rw [State.answer_engine]
  split <;> cases p <;> rfl

theorem State.answer_done (s : State) (p : PortId) :
    ((s.answer p .done).path p).answer = .done ∧ ((s.answer p .done).path p).wait = .free := by
  rw [State.answer, State.path_setPath, if_pos rfl]
  exact ⟨rfl, rfl⟩

/-- Settles O28: the write of a REQUEST is held, refused by intake, or taken with its posting. -/
theorem bayRequestIntake : Obligations.BayRequestIntake := by
  unfold Obligations.BayRequestIntake
  intro s p b v own fitted boat least most sh c
  have checks : firstFail (s.wordChecks (triggerWord b false) v) = none :=
    State.trigger_passes fitted (by simp [triggerWord, State.takesValue, inRange, boat, least, most])
  refine ⟨fun guarded => congrArg _ (State.writeTrigger_held own checks guarded), fun free => ?_⟩
  have bay : (s.dropSnapshot p).bay b = s.bay b := State.dropSnapshot_bay s p b
  have engine : (s.dropSnapshot p).engine = s.engine := State.dropSnapshot_engine s p
  refine ⟨fun setup => ?setup, fun trading busy => ?bayBusy, fun trading idle full => ?full,
    fun trading idle room => ?taken⟩
  case setup =>
    exact congrArg _ (State.writeTrigger_refused own checks free fun rs =>
      State.takeRequest_setup b _ rs (engine ▸ setup))
  case bayBusy =>
    exact congrArg _ (State.writeTrigger_refused own checks free fun rs =>
      State.takeRequest_bayBusy b _ rs (engine ▸ trading) (bay ▸ busy))
  case full =>
    exact congrArg _ (State.writeTrigger_refused own checks free fun rs =>
      State.takeRequest_full b _ rs (engine ▸ trading) (bay ▸ idle) (engine ▸ full))
  case taken =>
    have written := State.writeTrigger_taken own checks free
    have taken := State.takeRequest_taken b sh [(s.grantee p, s.base 5 + triggerOffset b false, v)]
      (s := s.dropSnapshot p) (engine ▸ trading) (bay ▸ idle) (engine ▸ room)
    have leaves := ((State.requested_takenIn (s := s.dropSnapshot p) b sh (by rw [State.guarded, engine]; exact free)
      (s.grantee p) v (by cases p <;> exact s.triggerOffset_apart b false)).of_dropSnapshot).answer p .done
    have posting : (s.dropSnapshot p).holdPosting b sh = s.holdPosting b sh := by cases p <;> rfl
    have same : (s.dropSnapshot p).bayRecord b.val = s.bayRecord b.val := by cases p <;> rfl
    have tariff : (s.dropSnapshot p).tariff = s.tariff := by cases p <;> rfl
    rw [bay, same, tariff] at leaves
    refine ⟨_, congrArg Host.Outcome.next (written.trans ?_), leaves.engine, leaves.tags, leaves.weigh, leaves.desk,
      (State.answer_done _ p).1, leaves.bay, leaves.others, fun fuse => ⟨leaves.record fuse, leaves.word fuse⟩⟩
    rw [posting] at taken
    exact (congrArg (State.answer · p .done) taken).trans (State.enqueue_answer _ _ _ _)

/-- Settles O29: the write of a DONE is held, refused by intake, or taken with its posting pending. -/
theorem bayDoneIntake : Obligations.BayDoneIntake := by
  unfold Obligations.BayDoneIntake
  intro s p b v own fitted most sh c
  have checks : firstFail (s.wordChecks (triggerWord b true) v) = none :=
    State.trigger_passes fitted (by simp [triggerWord, State.takesValue, inRange, most])
  refine ⟨fun guarded => congrArg _ (State.writeTrigger_held own checks guarded), fun free => ?_⟩
  have bay : (s.dropSnapshot p).bay b = s.bay b := State.dropSnapshot_bay s p b
  refine ⟨fun dispenses => ?taken, fun dispensing stalled => ?refused⟩
  case taken =>
    have written := State.writeTrigger_taken own checks free
    have taken := State.takeDone_taken b sh [(s.grantee p, s.base 5 + triggerOffset b true, v)]
      (s := s.dropSnapshot p) (bay ▸ dispenses)
    have leaves := ((State.doneTaken_takenIn (s := s.dropSnapshot p) b sh
      (by rw [State.guarded, State.dropSnapshot_engine]; exact free) (s.grantee p) v
      (by cases p <;> exact s.triggerOffset_apart b true)).of_dropSnapshot).answer p .done
    have posting (r : BayRecord) : (s.dropSnapshot p).settlePosting b r = s.settlePosting b r := by cases p <;> rfl
    have same : (s.dropSnapshot p).bayRecord b.val = s.bayRecord b.val := by cases p <;> rfl
    rw [bay, same, posting] at leaves
    exact ⟨_, congrArg Host.Outcome.next (written.trans (congrArg (State.answer · p .done) taken)), leaves.engine,
      leaves.weigh, leaves.tags, leaves.desk, (State.answer_done _ p).1, leaves.bay, leaves.others,
      fun fuse => ⟨leaves.record fuse, leaves.word fuse⟩⟩
  case refused =>
    exact congrArg _ (State.writeTrigger_refused own checks free fun rs =>
      State.takeDone_refused b _ rs (bay ▸ dispensing) (bay ▸ stalled))

/-! ## Held triggers -/

/-- The first held trigger of a bay whose record is not guarded leaves the bay and goes to intake (R155). -/
theorem State.takeHeld_cons {h : HeldTrigger} {hs : List HeldTrigger} (free : s.guarded (.bay b.val) = false)
    (held : (s.bay b).held = h :: hs) :
    s.takeHeld b =
      ((s.setBay b { s.bay b with held := hs }).takeBayTrigger b h.isDone h.shadow
        [(s.grantee h.port, s.base 5 + triggerOffset b h.isDone, h.data)]).answer h.port .done := by
  have addr : (s.setBay b { s.bay b with held := hs }).triggerAddr b h.isDone =
      s.base 5 + triggerOffset b h.isDone := State.triggerAddr_eq _ b h.isDone
  have side : (s.setBay b { s.bay b with held := hs }).grantee h.port = s.grantee h.port := by
    rw [State.grantee, State.setBay_side]
    rfl
  simp only [State.takeHeld, held, free, Bool.false_eq_true, if_false, State.finishHeld, addr, side]

theorem State.takeHeld_guarded (guarded : s.guarded (.bay b.val) = true) : s.takeHeld b = s := by
  rw [State.takeHeld, guarded]
  split <;> rfl

/-! ## Due writes -/

theorem BayRecord.words_eq (r : BayRecord) : r.words = (List.range 8).map r.word := rfl

/-- A due write puts the Ice Unit's copy into the store (R155). -/
theorem State.writeBack_bayRecord (fuse : s.store.fuse = none) :
    (s.writeBack b).bayRecord b.val = (s.bay b).copy := by
  have places : ∀ i < 8, i ∈ [1, 2, 3, 4, 5, 6, 7, 0] := by decide
  have due (w : Nat × Word) : w ∈ s.dueWords b ↔
      (∃ i ∈ [1, 2, 3, 4, 5, 6, 7, 0], w = (s.bayAddr b.val + 4 * i, (s.bay b).copy.word i)) ∧
        s.store.word w.1 ≠ w.2 := by
    simp only [State.dueWords, bayWordWrites, List.mem_filter, List.mem_map, bne_iff_ne, eq_comm (a := w)]
  have word (i : Nat) (small : i < 8) :
      (s.store.putAll (s.dueWords b)).word (s.bayAddr b.val + 4 * i) = (s.bay b).copy.word i := by
    refine Memory.word_putAll fuse (fun w mem => ?_) ?_
    · obtain ⟨⟨j, -, rfl⟩, -⟩ := (due w).1 mem
      by_cases same : i = j
      · exact same ▸ .refl _
      · exact .of_apart (by dsimp only; omega)
    · by_cases stands : s.store.word (s.bayAddr b.val + 4 * i) = (s.bay b).copy.word i
      · exact .inl stands
      · exact .inr ((due _).2 ⟨⟨i, places i small, rfl⟩, stands⟩)
  have words : (s.store.putAll (s.dueWords b)).words (s.bayAddr b.val) 8 = (s.bay b).copy.words := by
    rw [Memory.words_eight, BayRecord.words_eq]
    exact List.map_congr_left fun i mem => word i (List.mem_range.1 mem)
  exact (congrArg bayOfWords words).trans (bayOfWords_words _)

theorem State.writeBackStep_due (free : s.guarded (.bay b.val) = false) (due : (s.bay b).writeDue = true) :
    s.writeBackStep b = s.writeBack b := by
  rw [State.writeBackStep, due, free]
  rfl

theorem State.writeBackStep_guarded (guarded : s.guarded (.bay b.val) = true) : s.writeBackStep b = s := by
  rw [State.writeBackStep, guarded, Bool.not_true, Bool.and_false]
  rfl

/-! ## The obligation -/

/-- Settles O43: a held trigger goes the ways of its own write, and a due write puts the copy into the store. -/
theorem bayBackgroundSteps : Obligations.BayBackgroundSteps := by
  unfold Obligations.BayBackgroundSteps
  intro s b
  refine ⟨fun guarded => ⟨?waits, ?undone⟩, fun free due fuse => ?writeBack, fun h hs free held => ?held⟩
  case waits => exact congrArg _ (State.takeHeld_guarded guarded)
  case undone => exact congrArg _ (State.writeBackStep_guarded guarded)
  case writeBack =>
    refine ⟨s.writeBack b, congrArg _ (State.writeBackStep_due free due), State.writeBack_bayRecord fuse, ?_,
      s.writeBack_engine b⟩
    rw [State.writeBack, State.bay_setBay, if_pos rfl]
  case held =>
    intro c ends refused
    have own : (s.setBay b c).bay b = c := by rw [State.bay_setBay, if_pos rfl]
    have state : ((s.setBay b c).bay b).copy.state = c.copy.state := congrArg (fun x => x.copy.state) own
    have apart := s.triggerOffset_apart b h.isDone
    have taken := State.takeHeld_cons free held
    have ended {t : State} {x : BayChannel} {r : BayRecord}
        (leaves : TakenIn b (s.base 5 + triggerOffset b h.isDone) h.data (s.setBay b c) t x r) :
        ends (t.answer h.port .done) :=
      have kept := leaves.of_setBay.answer h.port .done
      ⟨kept.engine, kept.tags, kept.weigh, kept.desk, kept.others, (State.answer_done _ _).1,
        (State.answer_done _ _).2, kept.word⟩
    have refuses {st : Status} (intake : ∀ rs, (s.setBay b c).takeBayTrigger b h.isDone h.shadow rs =
        ((s.setBay b c).bayStatus b st).serve rs) : refused st := by
      have leaves := State.bayStatus_takenIn (s := s.setBay b c) (b := b) (s.grantee h.port)
        (a := s.base 5 + triggerOffset b h.isDone) h.data st
      rw [own] at leaves
      refine ⟨_, congrArg Host.Outcome.next (taken.trans (congrArg (State.answer · h.port .done) (intake _))),
        ended leaves, (leaves.answer h.port .done).bay, ?_, ?_⟩
      · have record := State.bayStatus_bayRecord (s := s.setBay b c) (s.grantee h.port) h.data apart st
        refine Eq.trans ?_ record
        cases h.port <;> rfl
      · rw [State.answer_notices, State.serve_notices]
        exact State.bayStatus_indicated _ b st
    refine ⟨fun done => ?done, fun request => ?request⟩
    case done =>
      have intake (rs : List Request) : (s.setBay b c).takeBayTrigger b h.isDone h.shadow rs =
          (s.setBay b c).takeDone b h.shadow rs := if_pos done
      refine ⟨fun dispenses => ?_, fun dispensing stalled => refuses fun rs =>
        (intake rs).trans (State.takeDone_refused b _ rs (state.trans_ne dispensing) (state.trans_ne stalled))⟩
      have leaves := State.doneTaken_takenIn (s := s.setBay b c) b h.shadow free (s.grantee h.port) h.data apart
      rw [own] at leaves
      exact ⟨_, congrArg Host.Outcome.next (taken.trans (congrArg (State.answer · h.port .done)
          ((intake _).trans (State.takeDone_taken b h.shadow _ (by rw [state]; exact dispenses))))),
        ended leaves, (leaves.answer h.port .done).bay, (leaves.answer h.port .done).record⟩
    case request =>
      have intake (rs : List Request) : (s.setBay b c).takeBayTrigger b h.isDone h.shadow rs =
          (s.setBay b c).takeRequest b h.shadow rs := if_neg (Bool.eq_false_iff.1 request)
      refine ⟨fun setup => refuses fun rs => (intake rs).trans (State.takeRequest_setup b _ rs setup),
        fun trading busy => refuses fun rs =>
          (intake rs).trans (State.takeRequest_bayBusy b _ rs trading (state.trans_ne busy)),
        fun trading idle full => refuses fun rs =>
          (intake rs).trans (State.takeRequest_full b _ rs trading (state.trans idle) full),
        fun trading idle room => ?_⟩
      have leaves := State.requested_takenIn (s := s.setBay b c) b h.shadow free (s.grantee h.port) h.data apart
      rw [own] at leaves
      exact ⟨_, congrArg Host.Outcome.next (taken.trans ((congrArg (State.answer · h.port .done)
          ((intake _).trans (State.takeRequest_taken b h.shadow _ trading (state.trans idle) room))).trans
            (State.enqueue_answer _ _ _ _))),
        ended leaves, (leaves.answer h.port .done).bay, (leaves.answer h.port .done).record⟩

end Sys2Proof.Machine
end

section
/-! Writes of CLOCK_CONTROL, CLOCK_DATE and CLOCK_TIME (R170, R171, R173). -/

namespace Sys2Proof.Machine

variable {s : State} {p : PortId} {v : Word}

/-! ## CLOCK_CONTROL -/

theorem State.takeHold_on (free : s.clock.hold = false) :
    s.takeHold true = ({ s with clock := { s.clock with
      hold := true, prescaler := 16384, fail := true } }).raise .clockFail := by
  simp only [State.takeHold, free, Bool.not_false, Bool.and_self, if_true]

theorem State.takeHold_off (s : State) :
    s.takeHold false = { s with clock := { s.clock with hold := false } } := rfl

/-- Hold written as it stands changes nothing (R170). -/
theorem State.takeHold_same (s : State) : s.takeHold s.clock.hold = s := by
  refine (if_neg ?_).trans rfl
  rw [Bool.and_not_self]
  exact Bool.false_ne_true

/-- The matched flags that the requests of a CLOCK_CONTROL word leave set (R173, log 50). -/
def HallClock.keptMatches (c : HallClock) (v : Word) : Vector Bool 4 :=
  mapBank (fun k m => m && !v.getLsbD (matchedPlace k)) c.matched

theorem HallClock.keptMatches_get (c : HallClock) {v data : Word}
    (same : ∀ k : Fin 4, v.getLsbD (matchedPlace k) = data.getLsbD (matchedPlace k)) (k : Fin 4) :
    (c.keptMatches v).get k = (c.matched.get k && !data.getLsbD (matchedPlace k)) := by
  rw [HallClock.keptMatches, mapBank_get, same]

/-- A bit set in the word outside their places leaves the requests of the matched flags (log 11, log 50). -/
theorem HallClock.keptMatches_or (c : HallClock) (data : Word) {bit : Word}
    (apart : ∀ k : Fin 4, bit.getLsbD (matchedPlace k) = false) (k : Fin 4) :
    (c.keptMatches (data ||| bit)).get k = (c.matched.get k && !data.getLsbD (matchedPlace k)) :=
  c.keptMatches_get (fun j => by rw [BitVec.getLsbD_or, apart, Bool.or_false]) k

/-- So does a bit cleared outside their places. -/
theorem HallClock.keptMatches_and (c : HallClock) (data : Word) {bits : Word}
    (apart : ∀ k : Fin 4, bits.getLsbD (matchedPlace k) = true) (k : Fin 4) :
    (c.keptMatches (data &&& bits)).get k = (c.matched.get k && !data.getLsbD (matchedPlace k)) :=
  c.keptMatches_get (fun j => by rw [BitVec.getLsbD_and, apart, Bool.and_true]) k

/-- The word of CLOCK_HOLD_ON asks for hold (log 11). -/
theorem holdOnWord_hold (data : Word) : (data ||| 1#32).getLsbD 0 = true := by
  rw [BitVec.getLsbD_or]; exact Bool.or_true _

/-- The word of CLOCK_HOLD_OFF releases hold and keeps the clear-fail request (log 11). -/
theorem holdOffWord_bits (data : Word) :
    (data &&& 0xFFFFFFFE#32).getLsbD 0 = false ∧ (data &&& 0xFFFFFFFE#32).getLsbD 1 = data.getLsbD 1 := by
  rw [BitVec.getLsbD_and, BitVec.getLsbD_and]; exact ⟨Bool.and_false _, Bool.and_true _⟩

/-- The word of CLEAR_FAIL keeps the hold value and asks for the clear (log 11). -/
theorem clearFailWord_bits (data : Word) :
    (data ||| 2#32).getLsbD 0 = data.getLsbD 0 ∧ (data ||| 2#32).getLsbD 1 = true := by
  rw [BitVec.getLsbD_or, BitVec.getLsbD_or]; exact ⟨Bool.or_false _, Bool.or_true _⟩

/-- Hold turned on (R170); the flag it sets is not cleared in the same write (R173). -/
theorem State.clockControlWrite_holds (on : v.getLsbD 0 = true) (free : s.clock.hold = false) :
    s.clockControlWrite v = ({ s with clock := { s.clock with
      hold := true, prescaler := 16384, fail := true, matched := s.clock.keptMatches v } }).raise .clockFail := by
  simp only [State.clockControlWrite, on, State.takeHold_on free, State.raise, Bool.not_true, Bool.and_false,
    Bool.false_and, Bool.not_false, Bool.and_true]
  rfl

/-- Hold written as it stands leaves the clock but for the requests (R170, R173). -/
theorem State.clockControlWrite_same (same : v.getLsbD 0 = s.clock.hold) :
    s.clockControlWrite v = { s with clock := { s.clock with
      matched := s.clock.keptMatches v
      fail := s.clock.fail && !(v.getLsbD 1 && !s.clock.hold && s.clock.crystal) } } := by
  simp only [State.clockControlWrite, same, State.takeHold_same, HallClock.keptMatches]

/-- Hold written off: a clear-fail request is judged with hold off (R170, R173). -/
theorem State.clockControlWrite_off (off : v.getLsbD 0 = false) :
    s.clockControlWrite v = { s with clock := { s.clock with
      hold := false
      matched := s.clock.keptMatches v
      fail := s.clock.fail && !(v.getLsbD 1 && s.clock.crystal) } } := by
  simp only [State.clockControlWrite, off, State.takeHold_off, HallClock.keptMatches, Bool.not_false, Bool.and_true]

theorem State.clockControlWrite_apart (v : Word) : Apart fun u => u.clockControlWrite v := by
  intro u m a x y
  have hold : (u.rewired m a x y).takeHold (v.getLsbD 0) = (u.takeHold (v.getLsbD 0)).rewired m a x y := by
    unfold State.takeHold
    rw [apply_ite (fun t : State => t.rewired m a x y)]
    rfl
  simp only [State.clockControlWrite, hold]
  rfl

/-- No write of CLOCK_CONTROL fails a check of its word (R170). -/
theorem State.clockControl_written (own : s.owns p 0) (v : Word) :
    s.writeWord p (portAddr 0 0x010) v = (s.clockControlWrite v).wrote p :=
  State.live_write_apart (w := .clockControl) (book := 0) rfl own rfl (by decide) rfl rfl rfl rfl
    (State.clockControlWrite_apart v)

/-! ## CLOCK_DATE and CLOCK_TIME -/

section Setting

variable {off : Nat} {w : SpecialWord} (setting : w = .clockDate ∨ w = .clockTime)
include setting

/-- The checks of a setting that can fail: its value, then hold (R171). -/
theorem State.setting_checks (s : State) (v : Word) :
    firstFail (s.wordChecks w v) =
      if s.takesValue w v then if s.clock.hold then none else some .clockRunning else some .badValue := by
  rcases setting with rfl | rfl
  all_goals
    simp only [State.wordChecks, firstFail, SpecialWord.writable, SpecialWord.setupOnly, SpecialWord.needsHold,
      State.wordFitted, State.slotFree, State.quietAllows, State.formatAllows]
    cases State.takesValue s _ v <;> cases s.clock.hold <;> rfl

variable (own : s.owns p 0) (place : specialWordAt 0 off = w) (limit : off + 4 ≤ 4096) (aligned : off % 4 = 0)
include own place limit aligned

/-- A bad value faults BAD_VALUE, held or not (R171). -/
theorem State.setting_badValue (bad : s.takesValue w v = false) :
    s.writeWord p (portAddr 0 off) v = s.faultAccess p ⟨portAddr 0 off, .word, some v⟩ .badValue :=
  State.write_faults (book := 0) rfl own place limit aligned (by omega)
    (by rw [State.setting_checks setting, bad]; rfl)

/-- A good value faults CLOCK_RUNNING with hold off (R171). -/
theorem State.setting_clockRunning (good : s.takesValue w v = true) (free : s.clock.hold = false) :
    s.writeWord p (portAddr 0 off) v = s.faultAccess p ⟨portAddr 0 off, .word, some v⟩ .clockRunning :=
  State.write_faults (book := 0) rfl own place limit aligned (by omega)
    (by rw [State.setting_checks setting, good, free]; rfl)

/-- A good value sets a held clock (R171). -/
theorem State.setting_taken (good : s.takesValue w v = true) (held : s.clock.hold = true) :
    s.writeWord p (portAddr 0 off) v = (s.blockEffect w v).wrote p := by
  have checks : firstFail (s.wordChecks w v) = none := by
    rw [State.setting_checks setting, good, held]; rfl
  rcases setting with rfl | rfl
  all_goals exact State.live_write_apart (book := 0) rfl own place limit aligned rfl rfl checks fun _ _ _ _ _ => rfl

end Setting

/-! ## The obligation -/

/-- Settles O16: CLOCK_CONTROL by what its word makes of hold, and the two settings by their checks. -/
theorem clockWrites : Obligations.ClockWrites := by
  unfold Obligations.ClockWrites
  intro s p data own
  have written {v : Word} {t : State} (effect : s.clockControlWrite v = t) :
      (.next (s.writeWord p (portAddr 0 0x010) v) : Host.Outcome State Fault Refusal) = .next (t.wrote p) :=
    congrArg _ ((State.clockControl_written own v).trans (congrArg (State.wrote · p) effect))
  refine ⟨fun free => ?holds, fun held => ?stays, ?off, fun free off => ?clears, fun same unasked => ?matched,
    fun bad => ?badDate, fun good => ⟨fun held => ?date, fun free => ?dateRuns⟩,
    fun bad => ?badTime, fun good rest => ⟨fun held => ?time, fun free => ?timeRuns⟩⟩
  case holds =>
    exact ⟨_, written (State.clockControlWrite_holds (holdOnWord_hold data) free),
      s.clock.keptMatches_or data (by decide)⟩
  case stays =>
    refine ⟨_, written ((State.clockControlWrite_same ((holdOnWord_hold data).trans held.symm)).trans ?_),
      s.clock.keptMatches_or data (bit := 1#32) (by decide)⟩
    rw [held, Bool.not_true, Bool.and_false, Bool.false_and, Bool.not_false, Bool.and_true]
  case off =>
    obtain ⟨off, asks⟩ := holdOffWord_bits data
    have released := State.clockControlWrite_off (s := s) off
    rw [asks] at released
    exact ⟨_, written released, s.clock.keptMatches_and data (by decide)⟩
  case clears =>
    obtain ⟨hold, asks⟩ := clearFailWord_bits data
    refine ⟨_, written ((State.clockControlWrite_same (hold.trans (off.trans free.symm))).trans ?_),
      s.clock.keptMatches_or data (bit := 2#32) (by decide)⟩
    rw [asks, free, Bool.not_false, Bool.and_self, Bool.true_and]
  case matched =>
    refine ⟨_, written ((State.clockControlWrite_same same).trans ?_), s.clock.keptMatches_get fun _ => rfl⟩
    rw [unasked, Bool.false_and, Bool.false_and, Bool.not_false, Bool.and_true]
  case badDate => exact congrArg _ (State.setting_badValue (.inl rfl) own rfl (by decide) rfl bad)
  case date => exact congrArg _ (State.setting_taken (.inl rfl) own rfl (by decide) rfl good held)
  case dateRuns => exact congrArg _ (State.setting_clockRunning (.inl rfl) own rfl (by decide) rfl good free)
  case badTime =>
    have bad : s.takesValue .clockTime data = false := by rw [State.takesValue, bad, Bool.false_and]
    exact congrArg _ (State.setting_badValue (.inr rfl) own rfl (by decide) rfl bad)
  all_goals have good : s.takesValue .clockTime data = true := by simp only [State.takesValue, good, rest]; rfl
  case time => exact congrArg _ (State.setting_taken (.inr rfl) own rfl (by decide) rfl good held)
  case timeRuns => exact congrArg _ (State.setting_clockRunning (.inr rfl) own rfl (by decide) rfl good free)

end Sys2Proof.Machine
end

section
/-! What the schedule does at a tick (R177 to R179): each entry's action, and the four in their order. -/

namespace Sys2Proof.Machine

variable {s : State} {j k : Fin 4}

/-! ## One action -/

/-- The band that a tariff entry names (R178). -/
def entryBand (w : Word) : Band := if field w 24 2 = 1 then .a else .b

/-- The four actions by their codes (chapter 11). -/
theorem entryAction_cases : ∀ a : BitVec 2, a = 0 ∨ (a = 1 ∨ a = 2) ∨ a = 3 := by decide

theorem State.scheduleAction_dayClose (code : field (s.clock.schedule.get k) 24 2 = 0) :
    s.scheduleAction k = if s.mayRequest k then
      { s with clock := { s.clock with request := .waiting s.closeRequest } } else s := by
  simp only [State.scheduleAction, code]; rfl

theorem State.scheduleAction_tariff
    (code : field (s.clock.schedule.get k) 24 2 = 1 ∨ field (s.clock.schedule.get k) 24 2 = 2) :
    s.scheduleAction k = { s with ice := { s.ice with band := entryBand (s.clock.schedule.get k) } } := by
  rcases code with code | code <;> simp only [State.scheduleAction, entryBand, code] <;> rfl

theorem State.scheduleAction_notice (code : field (s.clock.schedule.get k) 24 2 = 3) :
    s.scheduleAction k = s.raise .schedule := by
  simp only [State.scheduleAction, code]; rfl

/-- A state with other matched flags. -/
def State.withMatched (s : State) (m : Vector Bool 4) : State := { s with clock := { s.clock with matched := m } }

/-- An action neither looks at the matched flags nor changes them. -/
theorem State.scheduleAction_withMatched (s : State) (k : Fin 4) (m : Vector Bool 4) :
    (s.withMatched m).scheduleAction k = (s.scheduleAction k).withMatched m := by
  rcases entryAction_cases (field (s.clock.schedule.get k) 24 2) with code | code | code
  · rw [State.scheduleAction_dayClose code, State.scheduleAction_dayClose (s := s.withMatched m) code,
      apply_ite (State.withMatched · m)]
    rfl
  · rw [State.scheduleAction_tariff code, State.scheduleAction_tariff (s := s.withMatched m) code]
    rfl
  · rw [State.scheduleAction_notice code, State.scheduleAction_notice (s := s.withMatched m) code]
    rfl

/-! ## One entry -/

theorem State.matchEntry_hit (hit : entryMatches (s.clock.schedule.get k) s.clock.time = true) :
    s.matchEntry k = { s.scheduleAction k with clock := { (s.scheduleAction k).clock with
      matched := s.clock.matched.set k true, previous := s.clock.previous.set k true } } := by
  have marked := s.scheduleAction_withMatched k (s.clock.matched.set k true)
  simp only [State.withMatched] at marked
  simp only [State.matchEntry, hit, if_true, marked, (State.scheduleAction_marks s k).2]

theorem State.matchEntry_miss (miss : entryMatches (s.clock.schedule.get k) s.clock.time = false) :
    s.matchEntry k = { s with clock := { s.clock with previous := s.clock.previous.set k false } } := by
  simp only [State.matchEntry, miss, Bool.false_eq_true, if_false]

/-- An entry that hands a band to the Ice Unit at a time (R178). -/
abbrev EntryTariff (w : Word) (t : TimeOfDay) : Prop :=
  entryMatches w t = true ∧ (field w 24 2 = 1 ∨ field w 24 2 = 2)

/-- An entry that raises SCHEDULE at a time (R178). -/
abbrev EntryNotice (w : Word) (t : TimeOfDay) : Prop := entryMatches w t = true ∧ field w 24 2 = 3

/-- An entry that forms a request when none stands (R179). -/
abbrev State.entryCloses (s : State) (k : Fin 4) : Prop :=
  let w := s.clock.schedule.get k
  entryMatches w s.clock.time = true ∧ field w 24 2 = 0 ∧ s.engine.mode = .trading ∧ field w 0 8 ≠ 255 ∧
    field w 8 8 ≠ 255 ∧ s.clock.previous.get k = false

theorem State.mayRequest_iff (hit : entryMatches (s.clock.schedule.get k) s.clock.time = true)
    (code : field (s.clock.schedule.get k) 24 2 = 0) :
    s.mayRequest k = true ↔ s.clock.request = .none ∧ s.entryCloses k := by
  simp only [State.mayRequest, State.entryCloses, hit, code, Bool.and_eq_true, decide_eq_true_eq, bne_iff_ne,
    Bool.not_eq_true', true_and]
  tauto

/-- What one entry does at a tick to the band, the notices and the request (R178, R179). -/
structure EntryActs (s : State) (k : Fin 4) (t : State) : Prop where
  band : t.ice.band = if EntryTariff (s.clock.schedule.get k) s.clock.time then
    entryBand (s.clock.schedule.get k) else s.ice.band
  notices : t.notices = if EntryNotice (s.clock.schedule.get k) s.clock.time then
    (s.raise .schedule).notices else s.notices
  request : t.clock.request = if s.clock.request = .none ∧ s.entryCloses k then
    .waiting s.closeRequest else s.clock.request

/-- The action of an entry that matches, by its code. -/
theorem State.scheduleAction_acts (hit : entryMatches (s.clock.schedule.get k) s.clock.time = true) :
    EntryActs s k (s.scheduleAction k) := by
  rcases entryAction_cases (field (s.clock.schedule.get k) 24 2) with close | tariff | notice
  · rw [State.scheduleAction_dayClose close]
    by_cases may : s.mayRequest k = true
    · rw [if_pos may]
      exact ⟨by simp [close], by simp [close], (if_pos ((State.mayRequest_iff hit close).1 may)).symm⟩
    · rw [if_neg may]
      exact ⟨by simp [close], by simp [close], (if_neg (may ∘ (State.mayRequest_iff hit close).2)).symm⟩
  · rw [State.scheduleAction_tariff tariff]
    have other : field (s.clock.schedule.get k) 24 2 ≠ 3 ∧ field (s.clock.schedule.get k) 24 2 ≠ 0 := by
      rcases tariff with code | code <;> rw [code] <;> decide
    exact ⟨(if_pos ⟨hit, tariff⟩).symm, (if_neg fun notice => other.1 notice.2).symm,
      (if_neg fun close => other.2 close.2.2.1).symm⟩
  · rw [State.scheduleAction_notice notice]
    exact ⟨by simp [notice], (if_pos ⟨hit, notice⟩).symm, by simp [notice]⟩

theorem State.matchEntry_acts (s : State) (k : Fin 4) : EntryActs s k (s.matchEntry k) := by
  by_cases hit : entryMatches (s.clock.schedule.get k) s.clock.time = true
  · rw [State.matchEntry_hit hit]
    obtain ⟨band, notices, request⟩ := State.scheduleAction_acts hit
    exact ⟨band, notices, request⟩
  · rw [State.matchEntry_miss (Bool.eq_false_iff.2 hit)]
    exact ⟨(if_neg (hit ·.1)).symm, (if_neg (hit ·.1)).symm, (if_neg (hit ·.2.1)).symm⟩

/-- An entry leaves what the conditions of the others look at: their words, the time, the mode, their previous
matches (R179). -/
theorem State.matchEntry_closes (other : j ≠ k) : (s.matchEntry k).entryCloses j ↔ s.entryCloses j := by
  simp only [State.entryCloses, State.matchEntry_schedule, State.matchEntry_time, State.matchEntry_previous,
    (MatcherKept.matchEntry s k).engine, if_neg other]

/-- An entry leaves what a request would carry: the day and the stamp (R179). -/
theorem State.matchEntry_closeRequest (s : State) (k : Fin 4) : (s.matchEntry k).closeRequest = s.closeRequest := by
  have kept := MatcherKept.matchEntry s k
  simp only [State.closeRequest, State.stamp, kept.engine]
  rw [kept.clock]

/-! ## The four entries -/

theorem mem_entries : ∀ k : Fin 4, k ∈ ([0, 1, 2, 3] : List (Fin 4)) := by decide

/-- The band after the four entries: the highest tariff entry that matches stands (R177). -/
theorem State.matchSchedule_band (s : State) :
    let tariff (k : Fin 4) : Prop := EntryTariff (s.clock.schedule.get k) s.clock.time
    s.matchSchedule.ice.band =
      if tariff 3 then entryBand (s.clock.schedule.get 3)
      else if tariff 2 then entryBand (s.clock.schedule.get 2)
      else if tariff 1 then entryBand (s.clock.schedule.get 1)
      else if tariff 0 then entryBand (s.clock.schedule.get 0) else s.ice.band := by
  simp only [State.matchSchedule, (State.matchEntry_acts _ _).band, State.matchEntry_schedule, State.matchEntry_time]

theorem State.matchSchedule_band_highest (tariff : EntryTariff (s.clock.schedule.get k) s.clock.time)
    (highest : ∀ j, k < j → ¬ EntryTariff (s.clock.schedule.get j) s.clock.time) :
    s.matchSchedule.ice.band = entryBand (s.clock.schedule.get k) := by
  rw [State.matchSchedule_band]
  match k with
  | 3 => rw [if_pos tariff]
  | 2 => rw [if_neg (highest 3 (by decide)), if_pos tariff]
  | 1 => rw [if_neg (highest 3 (by decide)), if_neg (highest 2 (by decide)), if_pos tariff]
  | 0 =>
    rw [if_neg (highest 3 (by decide)), if_neg (highest 2 (by decide)), if_neg (highest 1 (by decide)),
      if_pos tariff]

theorem State.matchSchedule_band_none (none : ∀ k, ¬ EntryTariff (s.clock.schedule.get k) s.clock.time) :
    s.matchSchedule.ice.band = s.ice.band := by
  rw [State.matchSchedule_band, if_neg (none 3), if_neg (none 2), if_neg (none 1), if_neg (none 0)]

/-- SCHEDULE after some entries: it stood, or one of them raised it (R178). -/
theorem State.matchEntries_noticed (s : State) (ks : List (Fin 4)) :
    (ks.foldl State.matchEntry s).noticed .schedule = true ↔
      s.noticed .schedule = true ∨ ∃ k ∈ ks, EntryNotice (s.clock.schedule.get k) s.clock.time := by
  induction ks generalizing s with
  | nil => simp
  | cons k ks ih =>
    have head : (s.matchEntry k).noticed .schedule = true ↔
        s.noticed .schedule = true ∨ EntryNotice (s.clock.schedule.get k) s.clock.time := by
      have notices := (s.matchEntry_acts k).notices
      by_cases rings : EntryNotice (s.clock.schedule.get k) s.clock.time
      · rw [if_pos rings] at notices
        rw [State.noticed, notices]
        exact ⟨fun _ => .inr rings, fun _ => State.raise_noticed s .schedule⟩
      · rw [if_neg rings] at notices
        rw [State.noticed, notices]
        exact ⟨.inl, fun stands => stands.resolve_right rings⟩
    rw [List.foldl_cons, ih, head, State.matchEntry_schedule, State.matchEntry_time, List.exists_mem_cons_iff,
      or_assoc]

/-- A request that stands is left, and no entry that may not forms one (R179). -/
theorem State.matchEntries_request_stays {ks : List (Fin 4)} (distinct : ks.Nodup)
    (still : s.clock.request ≠ .none ∨ ∀ k ∈ ks, ¬ s.entryCloses k) :
    (ks.foldl State.matchEntry s).clock.request = s.clock.request := by
  induction ks generalizing s with
  | nil => rfl
  | cons k ks ih =>
    obtain ⟨absent, rest⟩ := List.nodup_cons.1 distinct
    have head : (s.matchEntry k).clock.request = s.clock.request := by
      rw [(s.matchEntry_acts k).request, if_neg]
      rintro ⟨none, closes⟩
      exact still.elim (· none) (· k List.mem_cons_self closes)
    rw [List.foldl_cons, ih rest, head]
    rw [head]
    exact still.imp_right fun closes j mem =>
      mt (State.matchEntry_closes (ne_of_mem_of_not_mem mem absent)).1 (closes j (List.mem_cons_of_mem k mem))

/-- The first entry that may forms the request; the later ones find it standing (R179). -/
theorem State.matchEntries_request_forms {ks : List (Fin 4)} (distinct : ks.Nodup) (none : s.clock.request = .none)
    (closes : ∃ k ∈ ks, s.entryCloses k) :
    (ks.foldl State.matchEntry s).clock.request = .waiting s.closeRequest := by
  induction ks generalizing s with
  | nil => simp at closes
  | cons k ks ih =>
    obtain ⟨absent, rest⟩ := List.nodup_cons.1 distinct
    have head := (s.matchEntry_acts k).request
    rw [List.foldl_cons]
    by_cases first : s.entryCloses k
    · rw [if_pos ⟨none, first⟩] at head
      rw [State.matchEntries_request_stays rest (.inl (by simp [head])), head]
    · rw [if_neg (first ·.2), none] at head
      obtain ⟨j, mem, later⟩ := (List.exists_mem_cons_iff _ _ _).1 closes |>.resolve_left first
      rw [ih rest head ⟨j, mem, (State.matchEntry_closes (ne_of_mem_of_not_mem mem absent)).2 later⟩,
        State.matchEntry_closeRequest]

theorem State.matchSchedule_noticed (s : State) :
    s.matchSchedule.noticed .schedule = true ↔
      s.noticed .schedule = true ∨ ∃ k, EntryNotice (s.clock.schedule.get k) s.clock.time :=
  (s.matchEntries_noticed [0, 1, 2, 3]).trans
    (or_congr_right ⟨fun ⟨k, _, rings⟩ => ⟨k, rings⟩, fun ⟨k, rings⟩ => ⟨k, mem_entries k, rings⟩⟩)

theorem State.matchSchedule_request_stays (still : s.clock.request ≠ .none ∨ ∀ k, ¬ s.entryCloses k) :
    s.matchSchedule.clock.request = s.clock.request :=
  State.matchEntries_request_stays (ks := [0, 1, 2, 3]) (by decide) (still.imp_right fun closes k _ => closes k)

theorem State.matchSchedule_request_forms (none : s.clock.request = .none) (closes : ∃ k, s.entryCloses k) :
    s.matchSchedule.clock.request = .waiting s.closeRequest :=
  State.matchEntries_request_forms (ks := [0, 1, 2, 3]) (by decide) none
    (closes.imp fun k forms => ⟨mem_entries k, forms⟩)

/-! ## The tick before the matcher -/

/-- A notice raised leaves the flags outside its own (R198). -/
theorem State.raise_noticed_apart (s : State) {m n : Notice} (apart : m.mask &&& n.mask = 0#10) :
    (s.raise m).noticed n = s.noticed n := by
  have flags : (s.notices.flags ||| m.mask) &&& n.mask = s.notices.flags &&& n.mask := by
    ext i small
    have bit : (m.mask &&& n.mask)[i] = false := by rw [apart]; exact BitVec.getElem_zero small
    rw [BitVec.getElem_and] at bit
    rw [BitVec.getElem_and, BitVec.getElem_or, Bool.and_or_distrib_right, bit, Bool.or_false, BitVec.getElem_and]
  exact congrArg (· != 0) flags

theorem State.bayChange_flags (s : State) (b : Fin 6) (r : BayRecord) (places : List Nat) :
    (s.bayChange b r places).notices.flags = s.notices.flags := by
  have copied : (s.setBayCopy b r).notices.flags = s.notices.flags := by
    rw [State.setBayCopy, State.indicateIf]
    split <;> rfl
  rw [State.bayChange, State.serve_notices, State.bayTransition]
  dsimp only
  split
  · rw [State.setBay_notices, copied]
  · exact copied

/-- The band and the SCHEDULE notice, on which the entries act, as they were. -/
structure SameActs (s t : State) : Prop where
  band : t.ice.band = s.ice.band
  noticed : t.noticed .schedule = s.noticed .schedule

theorem SameActs.trans {t u : State} (h : SameActs s t) (k : SameActs t u) : SameActs s u :=
  ⟨k.band.trans h.band, k.noticed.trans h.noticed⟩

theorem State.tickBay_sameActs (s : State) (b : Fin 6) : SameActs s (s.tickBay b) := by
  have change (r : BayRecord) (places : List Nat) : SameActs s (s.bayChange b r places) :=
    ⟨(s.bayChange_fixtures b r places []).band, by rw [State.noticed, State.bayChange_flags]; rfl⟩
  rcases s.tickBay_cases b with ⟨-, tick⟩ | ⟨-, tick⟩ | ⟨-, tick⟩ <;> rw [tick]
  · exact ⟨rfl, rfl⟩
  · exact change _ _
  · exact (change _ _).trans ⟨rfl, State.raise_noticed_apart _ (by decide)⟩

theorem State.tickBays_sameActs (s : State) : SameActs s s.tickBays :=
  (((((s.tickBay_sameActs 0).trans (State.tickBay_sameActs _ 1)).trans (State.tickBay_sameActs _ 2)).trans
    (State.tickBay_sameActs _ 3)).trans (State.tickBay_sameActs _ 4)).trans (State.tickBay_sameActs _ 5)

theorem State.advanced_sameActs (s : State) : SameActs s s.advanced := by
  refine ⟨by rw [State.advanced, State.raiseIf_ice], ?_⟩
  rw [State.advanced, State.raiseIf]
  split
  · exact State.raise_noticed_apart _ (by decide)
  · rfl

/-- The matcher of a RUNNING part finds hall time advanced, and the band and SCHEDULE as they were (R169, R177). -/
theorem State.tick_matches (ticks : s.ticking = true) (running : s.part = .running) :
    ∃ u : State, s.tick = u.matchSchedule ∧ u.clock = s.clock.advance ∧ u.engine = s.engine ∧ SameActs s u :=
  ⟨s.advanced.tickBays, State.tick_running ticks running,
    by rw [(OffIce.tickBays _).clock, State.advanced_clock],
    by rw [State.tickBays_engine, State.advanced, State.raiseIf_engine],
    s.advanced_sameActs.trans s.advanced.tickBays_sameActs⟩

/-! ## The obligation -/

/-- Settles O38: the four entries act on the state that the tick's hall time and its bays leave. -/
theorem scheduleActions : Obligations.ScheduleActions := by
  unfold Obligations.ScheduleActions
  intro s running free runs
  have ticks : s.ticking = true := State.ticking_iff.2 ⟨.inl (by rw [running]; decide), free, runs⟩
  have hall := State.tick_clock ticks running
  refine ⟨s.tick, rfl, ?_⟩
  obtain ⟨u, tick, clock, engine, before⟩ := State.tick_matches ticks running
  have request : u.clock.request = s.clock.request := by rw [clock]; rfl
  have closes (k : Fin 4) : u.entryCloses k ↔
      entryMatches (s.clock.schedule.get k) s.clock.time.next.1 = true ∧ field (s.clock.schedule.get k) 24 2 = 0 ∧
        s.engine.mode = .trading ∧ field (s.clock.schedule.get k) 0 8 ≠ 255 ∧
        field (s.clock.schedule.get k) 8 8 ≠ 255 ∧ s.clock.previous.get k = false := by
    rw [State.entryCloses, engine, clock]
    rfl
  have highest (k : Fin 4) := State.matchSchedule_band_highest (s := u) (k := k)
  have none := State.matchSchedule_band_none (s := u)
  have noticed := u.matchSchedule_noticed
  rw [clock] at highest none noticed
  rw [before.noticed] at noticed
  rw [tick] at hall ⊢
  refine ⟨fun k tariff above => highest k tariff above, fun still => (none still).trans before.band,
    fun ⟨k, rings⟩ => noticed.2 (.inr ⟨k, rings⟩), fun silent => ?silent,
    fun stands => ?stands, fun absent still => ?still, fun absent ⟨k, forms⟩ => ?forms⟩
  case silent =>
    refine Bool.eq_iff_iff.2 (noticed.trans ⟨fun raised => raised.resolve_right ?_, .inl⟩)
    rintro ⟨k, hit, code⟩
    exact silent k hit code
  case stands => exact (State.matchSchedule_request_stays (.inl (request ▸ stands))).trans request
  case still =>
    exact (State.matchSchedule_request_stays (.inr fun k => mt (closes k).1 (still k))).trans (request.trans absent)
  case forms =>
    rw [State.matchSchedule_request_forms (request.trans absent) ⟨k, (closes k).2 forms⟩, State.closeRequest,
      State.stamp, engine, clock, hall]
    rfl

end Sys2Proof.Machine
end

section
/-! The account records of a close (R186 to R188): what its entries leave of them, and the roll of one account. -/

namespace Sys2Proof.Machine

/-! ## Words that an entry leaves -/

/-- An entry leaves each word of a record that none of its images names, other than the engine record. -/
theorem State.writeEntry_word {r : Profile} {u : State} (ready : Ready r u) {e : JournalEntry}
    (new : EngineRecord) {x : RecordId} (placed : x.placed) (record : x ≠ .engine)
    (others : ∀ i ∈ e.images, x ∉ i.targets) {a : Nat} (low : (u.recordSpan x).1 ≤ a)
    (high : a + 4 ≤ (u.recordSpan x).1 + (u.recordSpan x).2) :
    (u.writeEntry e new).store.word a = u.store.word a := by
  rw [State.writeEntry_store, Memory.word_putAll_apart ready.fuse]
  intro w hw
  have entry := State.recordSpan_entry ready.profile ready.valid placed u.engine.copy.head
  have engine := State.recordSpan_apart ready.profile ready.valid placed (y := .engine) trivial record
  have span : u.recordSpan .engine = (u.engineAddr, 16) := rfl
  rw [span] at engine
  rcases State.entryWrites_range hw with range | ⟨i, hi, range⟩ | range
  · omega
  · have apart := imageWrites_apart (List.mem_flatMap.2 ⟨i, hi, range⟩) (a := (u.recordSpan x).1)
      (n := (u.recordSpan x).2) fun j hj y hy placedY =>
        State.recordSpan_apart ready.profile ready.valid placedY placed fun eq => others j hj (eq ▸ hy)
    omega
  · omega

/-! ## Account records -/

/-- The day-open balance of an account as the store holds it (R1). -/
def State.openingBalance (s : State) (n : Nat) : Word := s.store.word (s.accountAddr n + 0x14)

/-- Two states hold one account record (R1). -/
structure SameAccount (s t : State) (n : Nat) : Prop where
  account : t.account n = s.account n
  opening : t.openingBalance n = s.openingBalance n

/-- An account record is its words. -/
theorem SameAccount.of_words {s t : State} {n : Nat} (address : t.accountAddr n = s.accountAddr n)
    (words : ∀ k : Nat, k < 16 → t.store.word (s.accountAddr n + 4 * k) = s.store.word (s.accountAddr n + 4 * k)) :
    SameAccount s t n := by
  refine ⟨?_, by rw [State.openingBalance, address]; exact words 5 (by decide)⟩
  have w0 := words 0 (by decide)
  have w1 := words 1 (by decide)
  have w2 := words 2 (by decide)
  have w3 := words 3 (by decide)
  have w4 := words 4 (by decide)
  have w6 := words 6 (by decide)
  have w7 := words 7 (by decide)
  have w8 := words 8 (by decide)
  have w9 := words 9 (by decide)
  have w10 := words 10 (by decide)
  simp only [Nat.reduceMul, Nat.add_zero] at w0 w1 w2 w3 w4 w6 w7 w8 w9 w10
  simp only [State.account, address, accountOf, w0, w1, w2, w3, w4, w6, w7, w8, w9, w10]

theorem WritesBooks.account {bs : List (Fin 7)} {s t : State} {r : Profile} (writes : WritesBooks bs s t)
    (ready : Ready r s) (other : 1 ∉ bs) {n : Nat} (h : n < 256) : SameAccount s t n :=
  .of_words (by simp only [State.accountAddr, writes.base]) fun _ hk =>
    ready.kept writes other (s.accountWord_inBook h hk)

/-- An entry leaves the account records that none of its images names. -/
theorem State.writeEntry_account {r : Profile} {u : State} (ready : Ready r u) {e : JournalEntry}
    (new : EngineRecord) {n : Nat} (h : n < 256) (others : ∀ i ∈ e.images, RecordId.account n ∉ i.targets) :
    SameAccount u (u.writeEntry e new) n := by
  have span : u.recordSpan (.account n) = (u.accountAddr n, 64) := rfl
  refine .of_words (by simp only [State.accountAddr, (u.writeEntry_shell e new).base]) fun k hk =>
    State.writeEntry_word ready new (x := .account n) h nofun others ?_ ?_ <;> rw [span] <;> omega

/-! ## A withdrawal at the boat's account -/

/-- An account but for its count of lots on the floor, the one field that a close's withdrawals change. -/
def AccountImage.butFloor (a : AccountImage) : AccountImage := { a with floor := 0 }

/-- A withdrawal's images name no account but its boat's. -/
theorem State.withdrawImages_account {s : State} {slot n : Nat} (ne : n ≠ (s.lot slot).boat.toNat)
    {reason : BitVec 2} {i : Image} (h : i ∈ s.withdrawImages slot reason) : RecordId.account n ∉ i.targets := by
  simp only [State.withdrawImages, accountImages_one, List.mem_append, List.mem_singleton] at h
  rcases h with (rfl | rfl) | crates
  · simpa [Image.targets] using ne
  · simp [lotImage, Image.targets]
  · unfold keepGroup at crates
    split at crates
    · cases crates
    · cases List.mem_singleton.1 crates
      simp [Image.targets]

/-- A withdrawal changes of the accounts the boat's count of lots on the floor alone (R118, R186). -/
theorem State.writeEntry_withdraw_account {r : Profile} {u : State} (ready : Ready r u) {e : JournalEntry}
    (new : EngineRecord) {slot : Nat} {reason : BitVec 2} (images : e.images = u.withdrawImages slot reason)
    {n : Nat} (h : n < 256) : ((u.writeEntry e new).account n).butFloor = (u.account n).butFloor := by
  by_cases boat : n = (u.lot slot).boat.toNat
  · have records : ∀ i ∈ e.images, RecordId.engine ∉ i.targets := by
      rw [images]; exact fun i hi => State.withdrawImages_records hi
    have stands := State.entryWrites_stand ready.profile ready.valid ready.fuse records
      (by rw [images]; exact u.withdrawImages_apart slot reason) new
    have mine : Image.account (u.lot slot).boat { u.account n with floor := (u.account n).floor - 1 } ∈
        e.images := by
      rw [images, State.withdrawImages, accountImages_one, BitVec.ofNat_toNat, BitVec.setWidth_eq, ← boat]
      simp
    have written := stands.image _ mine
    rw [← State.writeEntry_store] at written
    have address : (u.writeEntry e new).accountAddr n = u.accountAddr (u.lot slot).boat.toNat := by
      simp only [State.accountAddr, (u.writeEntry_shell e new).base, boat]
    obtain ⟨account, -⟩ := accountOf_writes written
    rw [State.account, address, account]
    rfl
  · rw [(State.writeEntry_account ready new h fun i hi =>
      State.withdrawImages_account boat (images ▸ hi)).account]

/-! ## The roll of an account -/

/-- An account rolled into the day after a day (R187). -/
def AccountImage.rolled (a : AccountImage) (day : Word) : AccountImage :=
  { a with day := dayAfter day, landed := 0, sales := 0, ice := 0 }

/-- The words of a roll, in the order of the record. -/
theorem mem_rollWrites {a : Nat} {i : AccountImage} {day : Word} {w : Nat × Word} :
    w ∈ rollWrites a i day ↔ w ∈ (a + 0x04, dayAfter day) :: (a + 0x14, i.balance) ::
      [(a + 0x20, 0), (a + 0x24, 0), (a + 0x28, 0)] := by
  simp only [rollWrites, List.mem_cons, List.not_mem_nil, or_false]
  tauto

theorem rollWrites_agree {a : Nat} {i : AccountImage} {day : Word} {v w : Nat × Word}
    (hv : v ∈ rollWrites a i day) (hw : w ∈ rollWrites a i day) : Agree v w := by
  rw [mem_rollWrites] at hv hw
  exact Ascending.agree (by simp [Ascending]) hv hw

/-- The state that the roll of account n leaves (R187). -/
def State.rollAccount (u : State) (n : Nat) (day : Word) : State :=
  u.write (.inner .engine) (rollWrites (u.accountAddr n) (u.account n) day)

section Roll
variable {u : State} (fuse : u.store.fuse = none) (n : Nat) (day : Word)

theorem State.rollAccount_shell (u : State) : SameShell u (u.rollAccount n day) := u.write_shell _ _

theorem State.rollAccount_store (u : State) :
    (u.rollAccount n day).store = u.store.putAll (rollWrites (u.accountAddr n) (u.account n) day) :=
  State.write_store ..

include fuse

/-- An account rolled: the next day, its totals zero, its balance the day-open balance (R187). -/
theorem State.rollAccount_rolled :
    (u.rollAccount n day).account n = (u.account n).rolled day ∧
      (u.rollAccount n day).openingBalance n = (u.account n).balance := by
  have written {w : Nat × Word} (hw : w ∈ rollWrites (u.accountAddr n) (u.account n) day) :
      (u.rollAccount n day).store.word w.1 = w.2 := by
    rw [State.rollAccount_store]
    exact Memory.word_putAll fuse (fun v hv => rollWrites_agree hw hv) (.inr hw)
  have kept {k : Nat} (off : k = 0x00 ∨ k = 0x08 ∨ k = 0x0C ∨ k = 0x10 ∨ k = 0x18 ∨ k = 0x1C) :
      (u.rollAccount n day).store.word (u.accountAddr n + k) = u.store.word (u.accountAddr n + k) := by
    rw [State.rollAccount_store, Memory.word_putAll_apart fuse]
    intro w hw
    simp only [rollWrites, List.mem_cons, List.not_mem_nil, or_false] at hw
    rcases hw with rfl | rfl | rfl | rfl | rfl <;> dsimp only <;> omega
  have address : (u.rollAccount n day).accountAddr n = u.accountAddr n := rfl
  have dayWord := written (w := (u.accountAddr n + 0x04, dayAfter day)) (by simp [rollWrites])
  have opening := written (w := (u.accountAddr n + 0x14, (u.account n).balance)) (by simp [rollWrites])
  have landed := written (w := (u.accountAddr n + 0x20, 0)) (by simp [rollWrites])
  have sales := written (w := (u.accountAddr n + 0x24, 0)) (by simp [rollWrites])
  have ice := written (w := (u.accountAddr n + 0x28, 0)) (by simp [rollWrites])
  refine ⟨?_, by rw [State.openingBalance, address]; exact opening⟩
  have head := kept (k := 0) (by decide)
  rw [Nat.add_zero] at head
  rw [State.account, address]
  simp only [accountOf, AccountImage.rolled, State.account, head, dayWord, landed, sales, ice,
    kept (k := 0x08) (by decide), kept (k := 0x0C) (by decide), kept (k := 0x10) (by decide),
    kept (k := 0x18) (by decide), kept (k := 0x1C) (by decide)]

/-- The roll of an account leaves the others (R187). -/
theorem State.rollAccount_other {m : Nat} (ne : m ≠ n) : SameAccount u (u.rollAccount n day) m := by
  refine .of_words rfl fun k hk => ?_
  rw [State.rollAccount_store, Memory.word_putAll_apart fuse]
  intro w hw
  obtain ⟨low, high⟩ := rollWrites_range hw
  simp only [State.accountAddr] at *
  omega

omit fuse in
theorem State.rollAccount_books (u : State) (h : n < 256) : WritesBooks [1] u (u.rollAccount n day) := by
  refine .of_putAll (u.rollAccount_shell n day).profile (u.rollAccount_store n day) fun w hw => ?_
  obtain ⟨low, high⟩ := rollWrites_range hw
  have limit : bookLimit 1 = 16384 := rfl
  simp only [State.accountAddr] at low high
  exact ⟨by omega, by omega⟩

end Roll

end Sys2Proof.Machine
end

section
/-! The run of a close with tail writes that may come within it (R185 to R189): what such a tail write leaves, and
the invariant that every step of the close keeps. -/

namespace Sys2Proof.Machine

/-! ## The JOURNAL_FULL notice -/

theorem State.writeEntry_journalFull (s : State) (e : JournalEntry) (new : EngineRecord) :
    (s.writeEntry e new).noticed .journalFull = s.noticed .journalFull := by
  have images (u : State) (seq : Word) (is : List Image) : (u.writeImages seq is).notices = u.notices := by
    induction is generalizing u with
    | nil => rfl
    | cons i is ih => exact ih _
  unfold State.writeEntry
  dsimp only
  rw [State.raise_noticed_apart _ (by decide)]
  split
  · rfl
  · exact congrArg (fun n : Notices => n.flags &&& Notice.journalFull.mask != 0) (images _ _ _)

theorem State.endPosting_journalFull (s : State) : s.endPosting.noticed .journalFull = s.noticed .journalFull := by
  unfold State.endPosting State.takeNext
  split
  · exact State.raise_noticed_apart _ (by decide)
  · split <;> rfl

theorem State.faultAccess_journalFull (s : State) (p : PortId) (a : Access) (r : FaultReason) :
    (s.faultAccess p a r).noticed .journalFull = s.noticed .journalFull := by
  have latched : (s.latchFault p a r).noticed .journalFull = s.noticed .journalFull := by
    unfold State.latchFault
    split
    · rfl
    · exact State.raise_noticed_apart _ (by decide)
  simpa only [State.faultAccess, State.noticed, State.answer_notices] using latched

/-! ## A tail write within a close -/

/-- A step that leaves the close it falls within all but the tail: the engine's other registers, the records and
the JOURNAL_FULL notice (R189). -/
structure TailStep (s t : State) : Prop where
  only : TailOnly s t
  books : WritesBooks [0] s t
  clean : s.store.bad = [] → t.store.bad = []
  quiet : t.noticed .journalFull = s.noticed .journalFull

theorem TailStep.refl (s : State) : TailStep s s :=
  ⟨.refl s, .of_putAll (ws := []) rfl rfl (fun _ h => by cases h), id, rfl⟩

/-- A tail write of the office's free port, taken or faulted (R42). -/
theorem State.arriveTail_step {r : Profile} {s : State} (ready : Ready r s) {p : PortId} (own : s.owns p 0)
    (running : s.engine.state ≠ .journalWait) (w : Word) : TailStep s (s.arriveTail (p, w)) := by
  obtain ⟨-, -, store⟩ := State.arriveTail_owned own running w
  refine ⟨State.arriveTail_only running (p, w), (State.arriveTail_owned_books ready own w running).1,
    fun clean => ?_, ?_⟩
  · rw [store]
    split
    · exact Memory.putAll_clean clean _
    · exact clean
  · cases accepted : s.tailAccepted w with
    | true =>
      rw [State.arriveTail_taken own accepted, State.setTail_eq]
      simp [State.noticed, State.wroteWord]
    | false => rw [State.arriveTail_refused own accepted, State.faultAccess_journalFull]

/-! ## The course of the tail -/

/-- A close from `s` with what comes between its entries. `course j` says how tail and paths stand once `j` of the
times at which a tail write may fall are past: before any lot is withdrawn, and after each withdrawal (R189). It
holds at the outset, every step of the close itself keeps it, and it leaves a journal slot for each entry. -/
structure Course (s : State) (between : Between) (course : Nat → State → Prop) : Prop where
  start : ∀ {u : State}, SameShell s u → u.engine.tail = s.engine.tail → course 0 u
  kept : ∀ {j : Nat} {u v : State}, course j u → SameShell u v → v.engine.tail = u.engine.tail → course j v
  next : ∀ {r : Profile} {j : Nat} {u : State}, Ready r u → course j u → j ≤ s.floorLots 2048 →
    u.engine.state = .closingDay → u.engine.copy.head = s.engine.copy.head + BitVec.ofNat 32 j →
    TailStep u (between (.withdrawn j) u) ∧ course (j + 1) (between (.withdrawn j) u)
  room : ∀ {j : Nat} {u : State}, course (j + 1) u → j ≤ s.floorLots 2048 →
    u.engine.copy.head = s.engine.copy.head + BitVec.ofNat 32 j → u.journalFull = false

/-! ## The invariant -/

/-- A close of `day` from `s` that has gone through `n` lot slots and `m` accounts, its course at `here`: its lots
are withdrawn, its accounts rolled, and of what the close looks at no more has changed (R184 to R187). -/
structure CloseReached (r : Profile) (s : State) (day : Word) (here : State → Prop) (n m : Nat) (u : State) :
    Prop where
  ready : Ready r u
  clean : u.store.bad = []
  state : u.engine.state = .closingDay
  copy : u.engine.copy =
    { s.engine.copy with
      head := s.engine.copy.head + BitVec.ofNat 32 (s.floorLots n), dayState := dayClosing }
  course : here u
  quiet : u.noticed .journalFull = s.noticed .journalFull
  lots : ∀ slot : Nat, slot < 2048 → (u.lot slot).state =
    if slot < n ∧ (s.lot slot).state = lotOnFloor then lotWithdrawn else (s.lot slot).state
  unrolled : ∀ a : Nat, a < 256 → m ≤ a ∨ (s.account a).rolls day = false →
    (u.account a).butFloor = (s.account a).butFloor
  rolled : ∀ a : Nat, a < m → a < 256 → (s.account a).rolls day = true →
    (u.account a).butFloor = ((s.account a).rolled day).butFloor ∧ u.openingBalance a = (s.account a).balance

namespace CloseReached
variable {r : Profile} {s u v : State} {day : Word} {here there : State → Prop} {n m : Nat}

/-- A step that writes no lot and no account record, and no engine register that a close looks at. -/
theorem of_books {bs : List (Fin 7)} (h : CloseReached r s day here n m u) (writes : WritesBooks bs u v)
    (others : 1 ∉ bs ∧ 2 ∉ bs) (clean : v.store.bad = []) (state : v.engine.state = u.engine.state)
    (copy : v.engine.copy = u.engine.copy) (quiet : v.noticed .journalFull = u.noticed .journalFull)
    (course : there v) : CloseReached r s day there n m v := by
  obtain ⟨no1, no2⟩ := others
  have account {a : Nat} (ha : a < 256) : SameAccount u v a := writes.account h.ready no1 ha
  exact
    { ready := h.ready.of_books writes
      clean
      state := state.trans h.state
      copy := copy.trans h.copy
      course
      quiet := quiet.trans h.quiet
      lots := fun slot hs => (writes.lot h.ready no2 hs).trans (h.lots slot hs)
      unrolled := fun a ha still => by rw [(account ha).account, h.unrolled a ha still]
      rolled := fun a ham ha rolls => by
        rw [(account ha).account, (account ha).opening]
        exact h.rolled a ham ha rolls }

theorem failing (h : CloseReached r s day here n m u) (a k : Nat) : u.store.failing a k = false := by
  simp [Memory.failing, h.clean]

theorem recordFails (h : CloseReached r s day here n m u) (x : RecordId) : u.recordFails x = false := h.failing _ _

theorem anyFails (h : CloseReached r s day here n m u) (xs : List RecordId) : u.anyFails xs = false := by
  simp [State.anyFails, h.recordFails]

theorem rollReadFails (h : CloseReached r s day here n m u) (a : Nat) : u.rollReadFails a = false := by
  rw [State.rollReadFails, h.failing, h.failing, Bool.or_self]

end CloseReached

/-! ## Steps of a close -/

theorem State.under_shell (s : State) (g : List RecordId) (a : Arbiter) : SameShell s (s.under g a) :=
  ⟨rfl, rfl, rfl, rfl, rfl, rfl, rfl, rfl, rfl, rfl⟩

section Steps
variable {r : Profile} {s u : State} {day : Word} {between : Between} {course : Nat → State → Prop}
  (follows : Course s between course) {n m j : Nat}
include follows

namespace CloseReached

/-- A step that moves the guard and the arbiter alone. -/
theorem under (h : CloseReached r s day (course j) n m u) (g : List RecordId) (a : Arbiter) :
    CloseReached r s day (course j) n m (u.under g a) :=
  h.of_books (.of_store rfl rfl) (by decide) h.clean rfl rfl rfl (follows.kept h.course (u.under_shell g a) rfl)

theorem guarded (h : CloseReached r s day (course j) n m u) (g : List RecordId) (who : Grantee) :
    CloseReached r s day (course j) n m ((u.withGuard g).granted who) :=
  h.under follows g _

theorem released (h : CloseReached r s day (course j) n m u) : CloseReached r s day (course j) n m u.releaseStep :=
  h.under follows _ u.arbiter

theorem placed (h : CloseReached r s day (course j) n m u) (a : Nat) (ks : List (BitVec 12)) :
    CloseReached r s day (course j) n m (u.placeGuard (.account a :: crateIds ks)) := by
  have placed : u.placeGuard (.account a :: crateIds ks) =
      u.under (distinct (u.engine.guard ++ .account a :: crateIds ks)) u.arbiter := by
    show (u.settleDue (crateIds ks)).withGuard _ = _
    rw [State.settleDue_crates]
    rfl
  rw [placed]
  exact h.under follows _ _

/-- What comes between the entries when so many lots are withdrawn (R189). -/
theorem passes (h : CloseReached r s day (course (s.floorLots n)) n m u) (hn : n ≤ 2048) :
    CloseReached r s day (course (s.floorLots n + 1)) n m (between (.withdrawn (s.floorLots n)) u) := by
  obtain ⟨step, past⟩ :=
    follows.next h.ready h.course (s.floorLots_mono hn) h.state (by rw [h.copy])
  exact h.of_books step.books (by decide) (step.clean h.clean) step.only.state (by rw [step.only.engine])
    step.quiet past

/-- Each entry of the close finds a free slot (R186, R188). -/
theorem not_full (h : CloseReached r s day (course (s.floorLots n + 1)) n m u) (hn : n ≤ 2048) :
    u.journalFull = false :=
  follows.room h.course (s.floorLots_mono hn) (by rw [h.copy])

/-- A lot on the floor withdrawn: the close has gone one slot on (R186). -/
theorem withdraw (h : CloseReached r s day (course j) n 0 u) (hn : n < 2048)
    (floor : (s.lot n).state = lotOnFloor) {e : JournalEntry} {reason : BitVec 2}
    (images : e.images = u.withdrawImages n reason) :
    CloseReached r s day (course j) (n + 1) 0 (u.writeWithdrawal e) := by
  have count : s.floorLots (n + 1) = s.floorLots n + 1 := by rw [State.floorLots_succ, if_pos floor]
  have shell : SameShell u (u.writeWithdrawal e) := u.writeWithdrawal_shell e
  have store : (u.writeWithdrawal e).store = u.store.putAll (u.entryWrites e u.engine.copy.step) :=
    State.writeEntry_store _ _ _
  have engine : (u.writeWithdrawal e).engine = { u.engine with copy := u.engine.copy.step, guard := [.engine] } := by
    simp [State.writeWithdrawal, State.releaseStep]
  exact
    { ready := ⟨shell.profile.trans h.ready.profile, h.ready.valid, by
        rw [store]; exact Memory.putAll_fuse h.ready.fuse _⟩
      clean := by rw [store]; exact Memory.putAll_clean h.clean _
      state := by rw [engine]; exact h.state
      copy := by
        rw [engine]
        simp only [EngineRecord.step, h.copy, count, BitVec.ofNat_add, BitVec.add_assoc]
        rfl
      course := follows.kept h.course shell (by rw [engine])
      quiet := (u.writeEntry_journalFull e _).trans h.quiet
      lots := fun slot hs => by
        show ((u.writeEntry e u.engine.copy.step).lot slot).state = _
        by_cases eq : slot = n
        · rw [eq, State.writeEntry_withdraw h.ready _ hn images, if_pos ⟨Nat.lt_succ_self _, floor⟩]
        · have earlier : slot < n + 1 ↔ slot < n := by omega
          rw [State.writeEntry_lot h.ready _ hs fun i hi => State.withdrawImages_lot hn eq (images ▸ hi),
            h.lots slot hs]
          simp only [earlier]
      unrolled := fun a ha still =>
        (State.writeEntry_withdraw_account h.ready _ images ha).trans (h.unrolled a ha still)
      rolled := fun a none => absurd none (Nat.not_lt_zero a) }

omit follows in
/-- A slot that holds no lot on the floor is passed (R185). -/
theorem passSlot {here : State → Prop} (h : CloseReached r s day here n m u) (off : (s.lot n).state ≠ lotOnFloor) :
    CloseReached r s day here (n + 1) m u := by
  have count : s.floorLots (n + 1) = s.floorLots n := by rw [State.floorLots_succ, if_neg off]; rfl
  refine { h with copy := by rw [count]; exact h.copy, lots := fun slot hs => ?_ }
  rw [h.lots slot hs]
  by_cases e : slot = n
  · rw [e, if_neg fun c => off c.2, if_neg fun c => off c.2]
  · have : slot < n + 1 ↔ slot < n := by omega
    simp only [this]

/-- An account in use that stands at the day is rolled (R187). -/
theorem roll (h : CloseReached r s day (course j) n m u) (hm : m < 256) (rolls : (s.account m).rolls day = true) :
    CloseReached r s day (course j) n (m + 1) (u.rollAccount m day) := by
  have books := u.rollAccount_books m day hm
  have store := u.rollAccount_store m day
  have other {a : Nat} (ne : a ≠ m) := State.rollAccount_other h.ready.fuse m day ne
  have still := h.unrolled m hm (.inl (Nat.le_refl m))
  exact
    { ready := h.ready.of_books books
      clean := by rw [store]; exact Memory.putAll_clean h.clean _
      state := h.state
      copy := h.copy
      course := follows.kept h.course (u.rollAccount_shell m day) rfl
      quiet := h.quiet
      lots := fun slot hs => (books.lot h.ready (by decide) hs).trans (h.lots slot hs)
      unrolled := fun a ha unrolled => by
        have ne : a ≠ m := by
          rintro rfl
          rcases unrolled with late | off
          · omega
          · rw [rolls] at off; cases off
        rw [(other ne).account, h.unrolled a ha (unrolled.imp_left fun late => by omega)]
      rolled := fun a ham ha rolls => by
        by_cases eq : a = m
        · obtain ⟨account, opening⟩ := State.rollAccount_rolled h.ready.fuse m day
          rw [eq, account, opening]
          exact ⟨congrArg (·.rolled day) still, (congrArg AccountImage.balance still :)⟩
        · rw [(other eq).account, (other eq).opening]
          exact h.rolled a (by omega) ha rolls }

omit follows in
/-- Any other account is left (R187). -/
theorem passAccount {here : State → Prop} (h : CloseReached r s day here n m u)
    (off : (s.account m).rolls day = false) : CloseReached r s day here n (m + 1) u := by
  refine { h with
    unrolled := fun a ha still => h.unrolled a ha (still.imp_left fun late => by omega)
    rolled := fun a ham ha rolls => h.rolled a ?_ ha rolls }
  have : a ≠ m := by
    rintro rfl
    rw [rolls] at off
    cases off
  omega

/-! ## Phases B and C -/

/-- Phase B goes through every slot from the `n`th on, and then phase C follows (R185, R186). -/
theorem withdrawLots (k : Nat) (h : CloseReached r s day (course (s.floorLots n + 1)) n 0 u)
    (left : n + k = 2048) {c : CloseWork} (lots : c.lots = s.floorLots n) :
    ∃ v d, u.withdrawLots c between k = v.rollAccounts d 256 ∧
      CloseReached r s day (course (s.floorLots 2048 + 1)) 2048 0 v ∧ SameClose c d := by
  induction k generalizing n u c with
  | zero =>
    obtain rfl : n = 2048 := left
    exact ⟨u, c, rfl, h, .refl c⟩
  | succ k ih =>
    have slot : 2047 - k = n := by omega
    have guarded := h.guarded follows [.engine, .lot n] (.inner .engine)
    rw [State.withdrawLots, slot]
    dsimp only
    generalize (u.withGuard [.engine, .lot n]).granted (.inner .engine) = g at guarded ⊢
    have state : (g.lot n).state = (s.lot n).state := by
      rw [guarded.lots n (by omega), if_neg fun c => Nat.lt_irrefl n c.1]
    rw [guarded.recordFails, if_neg Bool.false_ne_true, state]
    by_cases floor : (s.lot n).state = lotOnFloor
    · have count : s.floorLots (n + 1) = s.floorLots n + 1 := by rw [State.floorLots_succ, if_pos floor]
      have placed := guarded.placed follows (g.lot n).boat.toNat (g.lot n).crates
      rw [if_pos floor, placed.anyFails, if_neg Bool.false_ne_true, placed.not_full follows (by omega),
        if_neg Bool.false_ne_true, State.withdrawOne, lots]
      have written := placed.withdraw follows (by omega) floor (reason := withdrawnByClose)
        (e := c.withdrawal (g.lot n).number _) rfl
      rw [← count] at written ⊢
      obtain ⟨v, d, run, reached, same⟩ := ih (written.passes follows (by omega)) (by omega)
        (c := { c with lots := s.floorLots (n + 1) }) rfl
      exact ⟨v, d, run, reached, ⟨same.source, same.day, same.reports⟩⟩
    · have count : s.floorLots (n + 1) = s.floorLots n := by rw [State.floorLots_succ, if_neg floor]; rfl
      rw [if_neg floor]
      have passed := (guarded.passSlot floor).released follows
      rw [← count] at passed
      exact ih passed (by omega) (lots.trans count.symm)

/-- Phase C goes through every account from the `m`th on, and then phase D follows (R187). -/
theorem rollAccounts (k : Nat) (h : CloseReached r s day (course j) n m u) (left : m + k = 256) {c : CloseWork}
    (same : c.day = day) :
    ∃ v d, u.rollAccounts c k = v.finishClose d ∧ CloseReached r s day (course j) n 256 v ∧ SameClose c d := by
  induction k generalizing m u c with
  | zero =>
    obtain rfl : m = 256 := left
    exact ⟨u, c, rfl, h, .refl c⟩
  | succ k ih =>
    subst same
    have account : 255 - k = m := by omega
    have guarded := h.guarded follows [.engine, .account m] (.inner .engine)
    rw [State.rollAccounts, account]
    dsimp only
    generalize (u.withGuard [.engine, .account m]).granted (.inner .engine) = g at guarded ⊢
    have still : (g.account m).rolls c.day = (s.account m).rolls c.day :=
      congrArg (·.rolls c.day) (guarded.unrolled m (by omega) (.inl (Nat.le_refl m)))
    rw [guarded.rollReadFails, if_neg Bool.false_ne_true, still]
    cases rolls : (s.account m).rolls c.day with
    | true =>
      rw [if_pos rfl]
      obtain ⟨v, d, run, reached, kept⟩ := ih ((guarded.roll follows (by omega) rolls).released follows) (by omega)
        (c := { c with sold := c.sold + (g.account m).soldBy }) rfl
      exact ⟨v, d, run, reached, ⟨kept.source, kept.day, kept.reports⟩⟩
    | false =>
      rw [if_neg Bool.false_ne_true]
      exact ih ((guarded.passAccount rolls).released follows) (by omega) rfl

end CloseReached

end Steps

end Sys2Proof.Machine
end

section
/-! DAY_CLOSE (R183 to R189): phases A and D around the run of the close, alone and with a tail write within it. -/

namespace Sys2Proof.Machine

/-! ## Phase D -/

/-- An entry without record images writes its slot and the engine record alone (R47). -/
theorem State.writeEntry_bare_books (s : State) {e : JournalEntry} (bare : e.images = []) (new : EngineRecord) :
    WritesBooks [4, 0] s (s.writeEntry e new) := by
  let slot : State := { s with store := s.store.putAll (s.openWrites e new entryDone) }
  have opened : WritesBooks [4] s slot := .of_putAll rfl rfl fun w hw => by
    have range := State.openWrites_range hw
    have book := s.entryAddr_book s.engine.copy.head
    have limit : bookLimit 4 = 65536 := rfl
    exact ⟨by omega, by omega⟩
  have store : (s.writeEntry e new).store = slot.store.putAll (engineWrites s.engineAddr s.engine.copy new) := by
    rw [State.writeEntry_store, State.entryWrites_bare s bare, Memory.putAll_append]
  refine opened.trans (.of_putAll (s.writeEntry_shell e new).profile store fun w hw => ?_)
  have range := engineWrites_range hw
  have base := opened.base 0
  have limit : bookLimit 0 = 4096 := rfl
  simp only [State.engineAddr] at range
  exact ⟨by omega, by omega⟩

theorem State.writeClosed_books (s : State) (c : CloseWork) : WritesBooks [4, 0] s (s.writeClosed c) := by
  have entry := s.writeEntry_bare_books (e := c.closedEntry none) rfl (s.openedRecord c)
  refine entry.trans (.of_store ?_ ?_)
  · exact (s.writeClosed_shell c).profile.trans entry.profile.symm
  · rw [State.writeClosed_eq, State.endPosting_store, State.closeReported_store, State.closedBook,
      State.raise_store, State.withGuard_store]

theorem State.writeClosed_tail (s : State) (c : CloseWork) : (s.writeClosed c).engine.tail = s.engine.tail := by
  rw [State.writeClosed_eq, State.endPosting_engine_frame, State.closeReported_engine, State.closedBook_engine]

/-- The report of a close goes to the desk or to the schedule, and leaves JOURNAL_FULL (R20). -/
theorem State.closeReported_journalFull (s : State) {c : CloseWork}
    (source : c.source = .desk ∨ c.source = .schedule) (seq : Word) :
    (s.closeReported c seq).noticed .journalFull = s.noticed .journalFull := by
  unfold State.closeReported
  split
  · have posted : c.posting.source = c.source := rfl
    rcases source with desk | schedule
    · simp only [State.report, posted, desk, State.reportDesk]
      exact State.raise_noticed_apart _ (by decide)
    · simp only [State.report, posted, schedule]
      rfl
  · rfl

theorem State.writeClosed_journalFull (s : State) {c : CloseWork}
    (source : c.source = .desk ∨ c.source = .schedule) :
    (s.writeClosed c).noticed .journalFull = s.noticed .journalFull := by
  rw [State.writeClosed_eq, State.endPosting_journalFull, State.closeReported_journalFull _ source,
    State.closedBook, State.raise_noticed_apart _ (by decide)]
  simpa only [State.noticed, State.withGuard_notices] using
    s.writeEntry_journalFull (c.closedEntry none) (s.openedRecord c)

/-- What the close of `day` from `s` leaves at its end: the next day open, each lot on the floor withdrawn and each
account of the day rolled (R185 to R188). -/
structure NextDay (s : State) (day : Word) (t : State) : Prop where
  copy : t.engine.copy =
    { s.engine.copy with
      head := s.engine.copy.head + BitVec.ofNat 32 (s.floorLots 2048 + 1), day := dayAfter day, dayState := dayOpen }
  guard : t.engine.guard = []
  noticed : t.noticed .dayClosed = true
  quiet : t.noticed .journalFull = s.noticed .journalFull
  lots : ∀ slot : Nat, slot < 2048 → (t.lot slot).state =
    if (s.lot slot).state = lotOnFloor then lotWithdrawn else (s.lot slot).state
  unrolled : ∀ a : Nat, a < 256 → (s.account a).rolls day = false →
    (t.account a).butFloor = (s.account a).butFloor
  rolled : ∀ a : Nat, a < 256 → (s.account a).rolls day = true →
    (t.account a).butFloor = ((s.account a).rolled day).butFloor ∧ t.openingBalance a = (s.account a).balance

/-- Phase D ends a close that has gone through every lot and every account (R188). -/
theorem CloseReached.writeClosed {r : Profile} {s u : State} {here : State → Prop} {c : CloseWork}
    (h : CloseReached r s c.day here 2048 256 u) (source : c.source = .desk ∨ c.source = .schedule) :
    NextDay s c.day (u.writeClosed c) := by
  obtain ⟨copy, guard, noticed, -⟩ := u.writeClosed_ends c
  have books := u.writeClosed_books c
  have account {a : Nat} (ha : a < 256) : SameAccount u (u.writeClosed c) a :=
    books.account h.ready (by decide) ha
  exact
    { copy := by
        rw [copy]
        simp only [h.copy, BitVec.ofNat_add, BitVec.add_assoc]
        rfl
      guard
      noticed
      quiet := (u.writeClosed_journalFull source).trans h.quiet
      lots := fun slot hs => by
        rw [books.lot h.ready (by decide) hs, h.lots slot hs]
        simp only [hs, true_and]
      unrolled := fun a ha off => by rw [(account ha).account, h.unrolled a ha (.inr off)]
      rolled := fun a ha rolls => by
        rw [(account ha).account, (account ha).opening]
        exact h.rolled a ha ha rolls }

/-! ## Phase A, and the whole close -/

/-- The state in which a DAY_CLOSE has written CLOSING, before its phase B (R184). -/
def State.closeEntered (s : State) (g : List RecordId) (a : Arbiter) : State :=
  ((s.under g a).setEngineRecord { s.engine.copy with dayState := dayClosing }).enterClose

theorem State.closeEntered_shell (s : State) (g : List RecordId) (a : Arbiter) : SameShell s (s.closeEntered g a) :=
  ((s.under_shell g a).trans (State.setEngineRecord_shell _ _)).trans (State.engine_shell _ _)

theorem State.closeEntered_books (s : State) (g : List RecordId) (a : Arbiter) :
    WritesBooks [0] s (s.closeEntered g a) :=
  ((WritesBooks.of_store (s := s) (t := s.under g a) rfl rfl).trans (State.setEngineRecord_books _ _)).trans
    (.of_store rfl rfl)

section Close
variable {r : Profile} {s : State} (ready : Ready r s) (clean : s.store.bad = []) {between : Between}
  {course : Nat → State → Prop} (follows : Course s between course) (g : List RecordId) (a : Arbiter)
include ready clean follows

/-- After phase A the close has gone through no lot and no account (R184). -/
theorem CloseReached.entered :
    CloseReached r s s.engine.copy.day (course 0) 0 0 (s.closeEntered g a) := by
  have books := s.closeEntered_books g a
  exact
    { ready := ready.of_books books
      clean := Memory.putAll_clean clean _
      state := rfl
      copy := by
        rw [show s.floorLots 0 = 0 from rfl, BitVec.add_zero]
        rfl
      course := follows.start (s.closeEntered_shell g a) rfl
      quiet := rfl
      lots := fun slot hs => by
        rw [books.lot ready (by decide) hs, if_neg fun h => Nat.not_lt_zero _ h.1]
      unrolled := fun n hn _ => by rw [(books.account ready (by decide) hn).account]
      rolled := fun n none => absurd none (Nat.not_lt_zero n) }

/-- A DAY_CLOSE whose reads are good and whose entries find room runs to its end, whatever tail writes its course
allows for (R184 to R189). -/
theorem State.beginClose_opens {p : Posting} (source : p.source = .desk ∨ p.source = .schedule) :
    NextDay s s.engine.copy.day ((s.under g a).beginClose (s.newClose p) between) ∧
      course (s.floorLots 2048 + 1) ((s.under g a).beginClose (s.newClose p) between) := by
  have entered : CloseReached r s s.engine.copy.day (course (s.floorLots 0 + 1)) 0 0
      (between (.withdrawn 0) (s.closeEntered g a)) :=
    (CloseReached.entered ready clean follows g a).passes follows (Nat.zero_le _)
  obtain ⟨v, d, phaseB, withdrawn, same⟩ :=
    entered.withdrawLots follows 2048 (Nat.zero_add _) (c := s.newClose p) rfl
  obtain ⟨u, e, phaseC, reached, same'⟩ := withdrawn.rollAccounts follows 256 (Nat.zero_add _) same.day
  have run : (s.under g a).beginClose (s.newClose p) between = u.writeClosed e := by
    show (between (.withdrawn 0) (s.closeEntered g a)).withdrawLots (s.newClose p) between 2048 = _
    rw [phaseB, phaseC, State.finishClose, reached.not_full follows (Nat.le_refl _), if_neg Bool.false_ne_true]
  have day : e.day = s.engine.copy.day := same'.day.trans same.day
  have origin : e.source = p.source := same'.source.trans same.source
  rw [run, ← day]
  rw [← day] at reached
  exact ⟨reached.writeClosed (by rw [origin]; exact source),
    follows.kept reached.course (u.writeClosed_shell e) (u.writeClosed_tail e)⟩

end Close

/-! ## The courses -/

theorem State.journalFull_of_room {u : State} (room : (u.engine.copy.head - u.engine.tail).toNat < 256) :
    u.journalFull = false := by
  simp only [State.journalFull, beq_eq_false_iff_ne, ne_eq]
  intro full
  rw [full] at room
  exact absurd room (by decide)

/-- The head stands as much further from the tail as it has moved, while that is no turn of the words. -/
theorem toNat_advance_sub {a b : Word} {j : Nat} (small : (a - b).toNat + j < 4294967296) :
    (a + BitVec.ofNat 32 j - b).toNat = (a - b).toNat + j := by
  bv_omega

/-- Without a tail write, and with room for all its entries, a close finds a slot for each (R186, R188). -/
theorem undisturbed_course {s : State} (room : s.ClosesInRoom) :
    Course s undisturbed fun _ u => u.engine.tail = s.engine.tail where
  start _ tail := tail
  kept held _ tail := tail.trans held
  next _ held _ _ _ := ⟨.refl _, held⟩
  room held count head := by
    unfold State.ClosesInRoom at room
    apply State.journalFull_of_room
    rw [head, held, toNat_advance_sub (by omega)]
    omega

/-- The course of one tail write, made when `k` lots are withdrawn: the part's shell and tail before it, and after
it the tail and the answer that it leaves. -/
structure TailAt (s : State) (k : Nat) (tail : Word) (o : PortId) (answer : Answer) (j : Nat) (u : State) : Prop where
  before : j ≤ k → SameShell s u ∧ u.engine.tail = s.engine.tail
  after : k < j → u.engine.tail = tail ∧ (u.path o).answer = answer

/-- A tail write of the office within a close, with room for the entries before it by the old tail and for those
after it by the new one (R42, R189). -/
theorem tailAt_course {s : State} {o : PortId} (own : s.owns o 0) {k : Nat} {w tail : Word} {answer : Answer}
    (old : (s.engine.copy.head - s.engine.tail).toNat + k ≤ 256)
    (outcome : ∀ u : State, u.engine.copy.head = s.engine.copy.head + BitVec.ofNat 32 k →
      u.engine.tail = s.engine.tail → (if u.tailAccepted w then w else u.engine.tail) = tail ∧
        (if u.tailAccepted w then Answer.done else .fault .badValue) = answer)
    (new : (s.engine.copy.head + BitVec.ofNat 32 k - tail).toNat + (s.floorLots 2048 - k) < 256) :
    Course s (tailsBetween [(.withdrawn k, o, w)]) (TailAt s k tail o answer) where
  start shell same := ⟨fun _ => ⟨shell, same⟩, fun late => absurd late (Nat.not_lt_zero _)⟩
  kept held shell same :=
    ⟨fun early => by
      obtain ⟨before, tail⟩ := held.before early
      exact ⟨before.trans shell, same.trans tail⟩,
    fun late => by
      obtain ⟨tail, answer⟩ := held.after late
      exact ⟨same.trans tail, by rw [shell.path]; exact answer⟩⟩
  next {r j u} ready held count closing head := by
    rw [tailsBetween_single]
    by_cases now : j = k
    · subst now
      obtain ⟨shell, same⟩ := held.before (Nat.le_refl j)
      have owned := State.owns_of_shell shell own
      have running : u.engine.state ≠ .journalWait := by rw [closing]; nofun
      obtain ⟨tail', answer', -⟩ := State.arriveTail_owned owned running w
      obtain ⟨tailIs, answerIs⟩ := outcome u head same
      rw [if_pos rfl]
      exact ⟨State.arriveTail_step ready owned running w,
        fun early => absurd early (Nat.not_succ_le_self j),
        fun _ => ⟨tail'.trans tailIs, answer'.trans answerIs⟩⟩
    · rw [if_neg fun point => now (RunPoint.withdrawn.inj point).symm]
      exact ⟨.refl u, fun early => held.before (by omega), fun late => held.after (by omega)⟩
  room {j u} held count head := by
    apply State.journalFull_of_room
    rw [head]
    by_cases early : j + 1 ≤ k
    · obtain ⟨-, same⟩ := held.before early
      rw [same, toNat_advance_sub (by omega)]
      omega
    · obtain ⟨same, -⟩ := held.after (by omega)
      have further : s.engine.copy.head + BitVec.ofNat 32 j =
          s.engine.copy.head + BitVec.ofNat 32 k + BitVec.ofNat 32 (j - k) := by
        rw [BitVec.add_assoc, ← BitVec.ofNat_add, Nat.add_sub_cancel' (by omega)]
      rw [same, further, toNat_advance_sub (by omega)]
      omega

/-! ## The posting in hand -/

section Posting
variable {s : State} {p : Posting}

/-- DAY_CLOSE comes from the desk or from the schedule (R12). -/
theorem Posting.source_of_dayClose (h : p.kindOf = some .dayClose) : p.source = .desk ∨ p.source = .schedule := by
  have mem := List.mem_of_find?_eq_some h
  cases source : p.source with
  | desk => exact .inl rfl
  | schedule => exact .inr rfl
  | _ => simp [source, kindsOf] at mem

variable (applies : s.applies .dayClose p) (day : p.params.w0 = s.engine.copy.day) (given : s.engine.copy.day ≠ 0)
  (clean : s.store.bad = [])
include applies day given clean

/-- A DAY_CLOSE of the engine's day passes its checks (R183). -/
theorem State.examine_dayClose :
    s.examine p .dayClose (dayClosePlan p) =
      .closing (s.under (s.judgedGuard (dayClosePlan p)) ⟨.office, .cache⟩) (s.newClose p) := by
  obtain ⟨-, fmt, mode, -, due⟩ := applies
  have good : s.anyFails [.engine] = false := by simp [State.anyFails, State.recordFails, Memory.failing, clean]
  have verdict : (dayClosePlan p).verdict s = .close := by
    rw [dayClosePlan_verdict, day]
    exact checked_accepts (by simpa [firstFail] using given) _
  have judged : s.judged .dayClose (dayClosePlan p) = .close := by
    have first : (dayClosePlan p).first = [] := rfl
    have more : (dayClosePlan p).more s = [] := rfl
    rw [State.judged, first, more, good, State.modeJudged, mode, verdict]
    rfl
  rw [State.examine_eq fmt due fun _ _ => ⟨rfl, rfl⟩, judged]
  rfl

theorem exec_dayClose_closes :
    exec .dayClose s = .next ((s.under (s.judgedGuard (dayClosePlan p)) ⟨.office, .cache⟩).beginClose
      (s.newClose p) undisturbed) := by
  obtain ⟨hand, -⟩ := id applies
  have closes : s.applyRow .dayClose dayClosePlan = (s.under (s.judgedGuard (dayClosePlan p))
      ⟨.office, .cache⟩).beginClose (s.newClose p) undisturbed := by
    rw [State.applyRow_hand hand, State.applyPlan, State.examine_dayClose applies day given clean]
    rfl
  exact congrArg Host.Outcome.next closes

/-- A tail write that carries the DAY_CLOSE in hand (R189, log 49). -/
theorem exec_tailWrite_dayClose (o : PortId) (w : Word) (point : RunPoint) :
    exec (.tailWrite o ⟨w, some ⟨.inHand, point, []⟩⟩) s =
      .next ((s.under (s.judgedGuard (dayClosePlan p)) ⟨.office, .cache⟩).beginClose (s.newClose p)
        (tailsBetween [(point, o, w)])) := by
  obtain ⟨hand, -⟩ := id applies
  have noFormat : s.inHand .format = none := by
    obtain ⟨applying, taken, kind⟩ := State.inHand_eq_some hand
    simp [State.inHand, applying, taken, kind]
  show Host.Outcome.next (s.postingWithin (tailsBetween [(point, o, w)])) = _
  rw [State.postingWithin, noFormat, hand]
  simp only [State.closeWithin, State.examine_dayClose applies day given clean]

end Posting

/-! ## The obligation -/

theorem AccountImage.rolls_iff (a : AccountImage) (day : Word) :
    a.rolls day = true ↔ a.kind ≠ kindUnused ∧ a.day = day := by
  simp [AccountImage.rolls]

/-- Accounts that agree but for their lots on the floor agree in the day, the totals and the balance. -/
theorem AccountImage.totals_of_butFloor {a b : AccountImage} (h : a.butFloor = b.butFloor) :
    a.day = b.day ∧ a.landed = b.landed ∧ a.sales = b.sales ∧ a.ice = b.ice ∧ a.balance = b.balance :=
  ⟨(congrArg AccountImage.day h :), (congrArg AccountImage.landed h :), (congrArg AccountImage.sales h :),
    (congrArg AccountImage.ice h :), (congrArg AccountImage.balance h :)⟩

/-- Settles O52: every step of the close keeps one invariant, with no tail write and with one that falls between
its entries. -/
theorem dayCloseOpensNextDay : Obligations.DayCloseOpensNextDay := by
  unfold Obligations.DayCloseOpensNextDay
  intro s p r day lots applies named given profile valid fuse clean opened
  have ready : Ready r s := ⟨profile, valid, fuse⟩
  have source := Posting.source_of_dayClose (State.inHand_eq_some applies.1).2.2
  constructor
  · intro room
    refine ⟨_, exec_dayClose_closes applies named given clean, ?_⟩
    obtain ⟨next, -⟩ := State.beginClose_opens ready clean (undisturbed_course room)
      (s.judgedGuard (dayClosePlan p)) ⟨.office, .cache⟩ source
    generalize State.beginClose _ _ _ = t at next ⊢
    refine ⟨next.copy, next.guard, next.noticed, next.lots, fun n hn => ⟨fun stands => ?_, fun stays => ?_⟩⟩
    · obtain ⟨account, opening⟩ := next.rolled n hn ((AccountImage.rolls_iff _ _).2 stands)
      obtain ⟨day', landed, sales, ice, balance⟩ := AccountImage.totals_of_butFloor account
      exact ⟨day', landed, sales, ice, balance, opening⟩
    · have off : (s.account n).rolls day = false :=
        Bool.eq_false_iff.2 fun rolls => by
          obtain ⟨used, stands⟩ := (AccountImage.rolls_iff _ _).1 rolls
          exact stays.elim used fun ne => ne stands
      exact AccountImage.totals_of_butFloor (next.unrolled n hn off)
  · intro o w k idle office few old head leaves
    have own := State.owns_control idle office
    have leave {tail : Word} {answer : Answer}
        (follows : Course s (tailsBetween [(.withdrawn k, o, w)]) (TailAt s k tail o answer)) :
        leaves tail answer := by
      refine ⟨_, exec_tailWrite_dayClose applies named given clean o w _, ?_⟩
      obtain ⟨next, course⟩ := State.beginClose_opens ready clean follows
        (s.judgedGuard (dayClosePlan p)) ⟨.office, .cache⟩ source
      obtain ⟨tail, answer⟩ := course.after (Nat.lt_succ_of_le few)
      exact ⟨next.copy, tail, answer, next.quiet, next.noticed⟩
    refine ⟨fun accepted room => leave (tailAt_course own old (fun u at_ same => ?_) room),
      fun beyond room => leave (tailAt_course own old (fun u at_ same => ?_) ?_)⟩
    · have taken : u.tailAccepted w = true := by rw [State.tailAccepted, at_, same]; exact decide_eq_true accepted
      simp [taken]
    · have refused : u.tailAccepted w = false := by
        rw [State.tailAccepted, at_, same]
        exact decide_eq_false (Nat.not_le.2 beyond)
      simp [refused, same]
    · have total : s.floorLots 2048 = lots := rfl
      rw [toNat_advance_sub (by omega)]
      omega

end Sys2Proof.Machine
end

section
/-! The trading law (R195): every operation that reaches the hall mode or the engine's format state keeps a
TRADING hall FORMATTED. -/

namespace Sys2Proof.Machine

/-- FORMAT ends FORMATTED, whatever comes between its steps (R32). -/
theorem State.formatHall_isFormatted (s : State) (ps : Params) (st : Stamp) (between : Between) :
    (s.formatHall ps st between).isFormatted = true := rfl

/-- A write that passes its checks passes that of a change to TRADING (R195). -/
theorem State.formatAllows_of_passed {s : State} {d : Side} {book : Fin 7} {a : Access} {v : Word}
    (write : a.write = some v) (passed : firstFail (s.specialChecks d book a) = none) :
    s.formatAllows (specialWordAt book a.offset) v = true := by
  refine firstFail_eq_none.mp passed (_, .notFormatted) ?_
  rw [State.specialChecks, write]
  exact List.mem_append_right _ (List.mem_of_getLast? rfl)

/-- An access that is a REQUEST write stands at the REQUEST word of its bay. -/
theorem Access.word_of_asRequest {a : Access} {b : Fin 6} {v : Word} (h : a.asRequest = some (b, v)) :
    specialWordAt 5 a.offset = .request b := by
  unfold Access.asRequest at h
  split at h
  · split at h
    · next word _ => cases h; exact word
    · cases h
  · cases h

/-- A later state keeps the trading law of an earlier one. -/
structure KeepsTrading (s t : State) : Prop where
  law : TradingLaw s → TradingLaw t

namespace KeepsTrading

variable (s : State)

/-! ## What keeps the law -/

theorem refl : KeepsTrading s s := ⟨id⟩

theorem trans {s t u : State} (h : KeepsTrading s t) (k : KeepsTrading t u) : KeepsTrading s u := ⟨k.law ∘ h.law⟩

/-- The law speaks of the hall mode and of the format state in the engine's copy alone. -/
theorem of_same {s t : State} (mode : t.engine.mode = s.engine.mode)
    (format : t.engine.copy.formatState = s.engine.copy.formatState) : KeepsTrading s t := ⟨fun law trading => by
  rw [State.isFormatted, format]
  exact law (mode ▸ trading)⟩

theorem of_engine {s t : State} (same : t.engine = s.engine) : KeepsTrading s t :=
  of_same (by rw [same]) (by rw [same])

/-- A FORMATTED hall may trade. -/
theorem of_formatted {s t : State} (formatted : t.isFormatted = true) : KeepsTrading s t := ⟨fun _ _ => formatted⟩

/-- A hall in SETUP does not trade. -/
theorem of_setup {s t : State} (setup : t.engine.mode = .setup) : KeepsTrading s t := ⟨fun _ trading => by
  rw [setup] at trading
  cases trading⟩

theorem undisturbed : undisturbed.Within KeepsTrading := fun _ u => refl u

/-! ## Journal and queue -/

theorem setEngineRecord {r : EngineRecord} (format : r.formatState = s.engine.copy.formatState) :
    KeepsTrading s (s.setEngineRecord r) := of_same rfl format

theorem writeEntry (e : JournalEntry) {r : EngineRecord} (format : r.formatState = s.engine.copy.formatState) :
    KeepsTrading s (s.writeEntry e r) := of_same (by simp) (by simp [format])

theorem write (g : Grantee) (ws : List (Nat × Word)) : KeepsTrading s (s.write g ws) := of_engine rfl

theorem withGuard (g : List RecordId) : KeepsTrading s (s.withGuard g) := of_same rfl rfl

theorem guardGranted (g : List RecordId) (w : Grantee) : KeepsTrading s ((s.withGuard g).granted w) :=
  of_same rfl rfl

theorem placeGuard (rs : List RecordId) : KeepsTrading s (s.placeGuard rs) := of_same (by simp) (by simp)

theorem guardRead (rs : List RecordId) (w : Grantee) : KeepsTrading s ((s.placeGuard rs).granted w) :=
  (placeGuard s rs).trans (of_engine rfl)

theorem enqueue (p : Posting) : KeepsTrading s (s.enqueue p) :=
  Frame.ite s (of_same rfl rfl) (of_same rfl rfl)

theorem takeNext : KeepsTrading s s.takeNext := by
  unfold State.takeNext
  split <;> exact of_same rfl rfl

theorem endPosting : KeepsTrading s s.endPosting := Frame.ite s (of_same rfl rfl) (takeNext s)

theorem admitInternal : KeepsTrading s s.admitInternal := by
  unfold State.admitInternal
  split
  · split
    · exact refl s
    · exact trans (of_same (by simp [State.dropWaiting_engine]) (by simp [State.dropWaiting_engine]))
        (enqueue _ _)
  · exact refl s

/-- Redo completes an entry by its engine record image, which carries no format state (R40, R49). -/
theorem redo {t : State} (e : s.redo = some t) : KeepsTrading s t := by
  obtain same | ⟨d, h, n, y, -, redone⟩ := State.redo_engine e
  · exact of_engine same
  · exact of_same (by rw [redone]) (by rw [redone]; rfl)

/-! ## Postings -/

theorem writeDueEntry (d : Due) : KeepsTrading s (s.writeDueEntry d) := by
  have reported : KeepsTrading s (((s.writeEntry d.entry (s.nextRecord d.nextLot)).withGuard []).report
      d.posting d.entry.reason (some s.engine.copy.head) d.value d.entry.images) :=
    (writeEntry s d.entry (r := s.nextRecord d.nextLot) rfl).trans (of_same (by simp) (by simp))
  rw [State.writeDueEntry_eq]
  exact reported.trans (Frame.ite _ (of_same rfl rfl) (endPosting _))

theorem entryDue (d : Due) : KeepsTrading s (s.entryDue d) :=
  Frame.ite s (of_same rfl rfl) (writeDueEntry s d)

theorem refuse (p : Posting) (r : Reason) : KeepsTrading s (s.refuse p r) := entryDue s _

theorem refuseBare (p : Posting) (r : Reason) : KeepsTrading s (s.refuseBare p r) :=
  (of_engine (State.report_engine _ _ _ _ _ _)).trans (endPosting _)

theorem examine (p : Posting) (k : PostKind) (plan : Plan) :
    (s.examine p k plan).Within KeepsTrading s := by
  have guarded (more : List RecordId) : KeepsTrading s
      (((s.placeGuard (.engine :: plan.first)).granted (.inner .engine)).placeGuard more) :=
    (guardRead s _ _).trans (placeGuard _ more)
  unfold State.examine
  split
  · trivial
  · dsimp only
    split
    · exact guardRead s _ _
    · split
      · exact guarded _
      · unfold State.judge
        split
        · exact guarded _
        · split <;> exact guarded _

theorem applyUnknown (p : Posting) : KeepsTrading s (s.applyUnknown p) :=
  Frame.ite s ((guardRead s _ _).trans (refuse _ _ _)) (refuseBare s _ _)

/-! ## FORMAT -/

theorem applyFormat (p : Posting) (between : Between) : KeepsTrading s (s.applyFormat p between) := by
  unfold State.applyFormat
  split
  · exact Frame.ite s ((placeGuard s _).trans (refuse _ _ _)) (refuseBare s _ _)
  · have formatted := State.formatHall_isFormatted s p.params p.stamp between
    exact ((of_formatted formatted).trans (of_engine (State.report_engine _ _ _ _ _ _))).trans (endPosting _)

theorem forceFormat (between : Between) : KeepsTrading s (s.forceFormat between) := by
  have formatted := State.formatHall_isFormatted s Params.zero s.stamp between
  rw [State.forceFormat_eq]
  refine trans (of_formatted ?_) (endPosting _)
  rw [State.isFormatted, State.reportAbandoned_engine]
  exact formatted

theorem formatCommand (between : Between) : KeepsTrading s (s.formatCommand between) :=
  Frame.ite s (forceFormat s between) (refl s)

/-! ## Day close -/

theorem haltClose (c : CloseWork) : KeepsTrading s (s.haltClose c) := of_same rfl rfl

theorem writeStruck (c : CloseWork) : KeepsTrading s (s.writeStruck c) :=
  (writeEntry s (c.closedEntry (some .storeError)) (r := s.engine.copy.step) rfl).trans (haltClose _ c)

theorem strikeClose (c : CloseWork) : KeepsTrading s (s.strikeClose c) :=
  Frame.ite s (of_same rfl rfl) (Frame.ite s (of_same rfl rfl) (writeStruck s c))

theorem holdClose (c : CloseWork) (due : CloseDue) : KeepsTrading s (s.holdClose c due) :=
  Frame.ite s (of_same rfl rfl) (of_same rfl rfl)

theorem writeClosed (c : CloseWork) : KeepsTrading s (s.writeClosed c) := by
  have closed : KeepsTrading s (s.closedBook c) :=
    of_same (by rw [State.closedBook_engine]) (by rw [State.closedBook_engine]; rfl)
  rw [State.writeClosed_eq]
  exact (closed.trans (of_engine (State.closeReported_engine _ _ _))).trans (endPosting _)

theorem finishClose (c : CloseWork) : KeepsTrading s (s.finishClose c) :=
  Frame.ite s (holdClose s c _) (writeClosed s c)

theorem rollAccounts (c : CloseWork) (n : Nat) : KeepsTrading s (s.rollAccounts c n) := by
  induction n generalizing s c with
  | zero => exact finishClose s c
  | succ n ih =>
    unfold State.rollAccounts
    dsimp only
    split
    · exact (guardGranted s _ _).trans (strikeClose _ c)
    · split
      · exact (((guardGranted s _ _).trans (write _ _ _)).trans (withGuard _ _)).trans (ih _ _)
      · exact ((guardGranted s _ _).trans (withGuard _ _)).trans (ih _ c)

section Close
variable {between : Between} (hb : between.Within KeepsTrading)
include hb

theorem withdrawOne (c : CloseWork) (e : JournalEntry) : KeepsTrading s (s.withdrawOne c e between) :=
  ((writeEntry s e (r := s.engine.copy.step) rfl).trans (withGuard _ _)).trans (hb _ _)

theorem withdrawLots (c : CloseWork) (n : Nat) : KeepsTrading s (s.withdrawLots c between n) := by
  induction n generalizing s c with
  | zero => exact rollAccounts s c 256
  | succ n ih =>
    have placed (g rs : List RecordId) :
        KeepsTrading s (((s.withGuard g).granted (.inner .engine)).placeGuard rs) :=
      (guardGranted s _ _).trans (placeGuard _ rs)
    unfold State.withdrawLots
    dsimp only
    split
    · exact (guardGranted s _ _).trans (strikeClose _ c)
    · split
      · split
        · exact (placed _ _).trans (strikeClose _ c)
        · split
          · exact (placed _ _).trans (holdClose _ c _)
          · exact ((placed _ _).trans (withdrawOne _ hb c _)).trans (ih _ _)
      · exact ((guardGranted s _ _).trans (withGuard _ _)).trans (ih _ c)

theorem runClose (c : CloseWork) : KeepsTrading s (s.runClose c between) := by
  have entered : KeepsTrading s s.enterClose := of_same rfl rfl
  exact (entered.trans (hb _ _)).trans (withdrawLots _ hb c 2048)

theorem beginClose (c : CloseWork) : KeepsTrading s (s.beginClose c between) :=
  (setEngineRecord s (r := { s.engine.copy with dayState := dayClosing }) rfl).trans (runClose _ hb c)

theorem closeWithin (p : Posting) : KeepsTrading s (s.closeWithin p between) := by
  have examined := examine s p .dayClose (dayClosePlan p)
  unfold State.closeWithin
  split
  · next e =>
    rw [e] at examined
    exact trans examined (beginClose _ hb _)
  · exact refl s

theorem rerunClose : KeepsTrading s (s.rerunClose between) := by
  unfold State.rerunClose
  split
  · exact runClose s hb _
  · exact refl s

theorem releaseWork : KeepsTrading s (s.releaseWork between) := by
  have freed : KeepsTrading s { s with engine := { s.engine with work := .none } } := of_same rfl rfl
  unfold State.releaseWork
  split
  · exact freed.trans (writeDueEntry _ _)
  · dsimp only
    split
    · exact (freed.trans (withdrawOne _ hb _ _)).trans (withdrawLots _ hb _ _)
    · exact freed.trans (writeClosed _ _)
    · exact freed.trans (writeStruck _ _)
  · exact refl s

theorem journalRelease : KeepsTrading s (s.journalRelease between) := by
  unfold State.journalRelease
  refine Frame.ite s (refl s) ?_
  split
  · exact releaseWork s hb
  · exact releaseWork s hb
  · exact refl s

theorem postingWithin : KeepsTrading s (s.postingWithin between) := by
  unfold State.postingWithin
  split
  · exact Frame.ite s (applyFormat s _ _) (refl s)
  · exact closeWithin s hb _
  · exact refl s

theorem repeatRedo : KeepsTrading s (s.repeatRedo between) := by
  unfold State.repeatRedo
  split
  · exact of_same rfl rfl
  · next t e => exact (redo s e).trans (Frame.ite t (runClose t hb _) (takeNext t))

theorem resumeCommand : KeepsTrading s (s.resumeCommand between) := by
  have resumed : KeepsTrading s { s with engine := { s.engine with halt := none } } := of_same rfl rfl
  unfold State.resumeCommand
  split
  · dsimp only
    split
    · exact resumed.trans (repeatRedo _ hb)
    · exact resumed.trans (runClose _ hb _)
    · exact resumed.trans (takeNext _)
  · exact refl s

end Close

/-! ## Rows of the posting in hand -/

theorem applyPlan (p : Posting) (k : PostKind) (plan : Plan) : KeepsTrading s (s.applyPlan p k plan) := by
  have examined := examine s p k plan
  unfold State.applyPlan
  cases e : s.examine p k plan with
  | bare r => exact refuseBare s p r
  | refused t r => rw [e] at examined; exact trans examined (refuse t p r)
  | accepted t d => rw [e] at examined; exact trans examined (entryDue t d)
  | closing t c => rw [e] at examined; exact trans examined (beginClose t undisturbed c)

theorem applyRow (k : PostKind) (plan : Posting → Plan) : KeepsTrading s (s.applyRow k plan) := by
  unfold State.applyRow
  split
  · exact applyPlan s _ _ _
  · exact refl s

theorem formatRow : KeepsTrading s s.formatRow := by
  unfold State.formatRow
  split
  · exact applyFormat s _ _
  · exact refl s

theorem unknownRow : KeepsTrading s s.unknownRow := by
  unfold State.unknownRow
  split
  · exact Frame.ite s (applyUnknown s _) (refl s)
  · exact refl s

/-! ## Intake -/

theorem takeCommand (v : Word) : KeepsTrading s (s.takeCommand v) := by
  unfold State.takeCommand
  split
  · exact of_engine rfl
  · exact Frame.ite s (takeNext s) (refl s)
  · exact resumeCommand s undisturbed
  · exact formatCommand s _
  · exact refl s

theorem takeCommit (n : Fin 8) : KeepsTrading s (s.takeCommit n) := by
  have answered (t : Status) : KeepsTrading s (s.scaleStatus n t) := of_engine rfl
  have queued (c : ScaleChannel) (p : Posting) : KeepsTrading s ((s.setScale n c).enqueue p) :=
    trans (t := s.setScale n c) (of_engine rfl) (enqueue _ p)
  exact Frame.ite s (answered _) <| Frame.ite s (answered _) <| Frame.ite s (answered _) <|
    Frame.ite s (queued _ _) (answered _)

theorem takeTrigger (slot : Fin 3) (v : Word) : KeepsTrading s (s.takeTrigger slot v) := by
  have queued (t : Status) (p : Posting) : KeepsTrading s ((s.setDesk slot t).enqueue p) :=
    trans (t := s.setDesk slot t) (of_engine rfl) (enqueue _ p)
  exact Frame.ite s (of_engine rfl) (Frame.ite s (queued _ _) (of_engine rfl))

theorem takeRequest (b : Fin 6) (sh : BayShadow) (rs : List Request) :
    KeepsTrading s (s.takeRequest b sh rs) := by
  have answered (t : Status) : KeepsTrading s ((s.bayStatus b t).serve rs) := of_engine (by simp)
  refine Frame.ite s (answered _) (Frame.ite s (answered _) (Frame.ite s ?_ (answered _)))
  exact trans (of_engine (by simp)) (enqueue _ _)

theorem takeBayTrigger (b : Fin 6) (isDone : Bool) (sh : BayShadow) (rs : List Request) :
    KeepsTrading s (s.takeBayTrigger b isDone sh rs) :=
  Frame.ite s (of_engine (by simp)) (takeRequest s b sh rs)

theorem takeHeld (b : Fin 6) : KeepsTrading s (s.takeHeld b) := by
  unfold State.takeHeld
  dsimp only
  split
  · exact refl s
  · next h hs _ =>
    have finished (u : State) : KeepsTrading u (u.finishHeld b h) :=
      (takeBayTrigger u b _ _ _).trans (of_engine (State.answer_engine _ _ _))
    exact Frame.ite s (refl s) (trans (of_engine (by simp)) (finished _))

/-! ## Accesses -/

theorem setCopy (c : ConfigWord) (v : Word) : KeepsTrading s (s.setCopy c v) := by
  cases c with
  | stepMode =>
    obtain ⟨st, w, q, e⟩ := s.setStepMode_eq (v != 0)
    rw [State.setCopy, e]
    exact of_same rfl rfl
  | declareMode => exact of_engine (by simp [State.setCopy])
  | _ => exact of_same rfl rfl

/-- A change to TRADING passes its check in a FORMATTED hall alone (R195). -/
theorem setMode {v : Word} (allowed : s.formatAllows .hallMode v = true) :
    KeepsTrading s { s with engine := { s.engine with mode := hallModeOf v } } := by
  simp only [State.formatAllows, Bool.or_eq_true, decide_eq_true_eq] at allowed
  obtain (same | setup) | formatted := allowed
  · exact of_same same rfl
  · exact of_setup setup
  · exact of_formatted formatted

theorem blockEffect {w : SpecialWord} {v : Word} (allowed : s.formatAllows w v = true) :
    KeepsTrading s (s.blockEffect w v) := by
  cases w with
  | hallMode => exact setMode s allowed
  | command => exact takeCommand s v
  | tail =>
    show KeepsTrading s (s.setTail v)
    rw [State.setTail_eq]
    exact of_same rfl rfl
  | config c => exact setCopy s c v
  | commit n => exact takeCommit s n
  | trigger slot => exact takeTrigger s slot v
  | _ => exact of_engine (by simp [State.blockEffect, State.clearNotices, State.clearIndications,
      State.clockDateWrite, State.clockTimeWrite])

theorem deliverBay (port : PortId) (b : Fin 6) (isDone : Bool) (v : Word) (rs : List Request) :
    KeepsTrading s (s.deliverBay port b isDone v rs) :=
  Frame.ite s (of_engine (by simp)) (takeBayTrigger s b isDone _ rs)

theorem effect (port : PortId) {w : SpecialWord} {v : Word} (allowed : s.formatAllows w v = true)
    (rs : List Request) : KeepsTrading s (s.effect port w v rs) := by
  cases w with
  | quayRestart => exact of_engine (by simp [State.effect])
  | request b => exact deliverBay s port b false v rs
  | done b => exact deliverBay s port b true v rs
  | _ => exact (blockEffect s allowed).trans (of_engine (State.serve_engine _ _))

theorem writeSpecial (p : PortId) (book : Fin 7) (a : Access) {v : Word}
    (allowed : s.formatAllows (specialWordAt book a.offset) v = true) :
    KeepsTrading s (s.writeSpecial p book a v) := by
  have same : (s.dropSnapshot p).formatAllows (specialWordAt book a.offset) v =
      s.formatAllows (specialWordAt book a.offset) v := by cases p <;> rfl
  have taken (rs : List Request) :
      KeepsTrading s ((s.dropSnapshot p).effect p (specialWordAt book a.offset) v rs) :=
    trans (of_engine (State.dropSnapshot_engine _ _)) (effect _ p (same.trans allowed) rs)
  exact Frame.ite s (taken _) ((taken _).trans (of_engine (State.answer_engine _ _ _)))

theorem checkSpecial (p : PortId) (book : Fin 7) (a : Access) :
    KeepsTrading s (s.checkSpecial p book a) := by
  unfold State.checkSpecial
  split
  · exact of_engine (by simp)
  · next passed =>
    split
    · exact of_engine (by simp)
    · next v write => exact writeSpecial s p book a (State.formatAllows_of_passed write passed)

theorem checkAccess (p : PortId) (a : Access) : KeepsTrading s (s.checkAccess p a) := by
  have freed : KeepsTrading s (s.setWait p .free) := of_engine (State.setWait_engine _ _ _)
  unfold State.checkAccess
  dsimp only
  split
  · exact freed.trans (checkSpecial _ p _ a)
  · exact freed.trans (of_engine (by simp))

theorem arrive (p : PortId) (a : Access) : KeepsTrading s (s.arrive p a) := by
  unfold State.arrive
  split
  · split
    · exact refl s
    · exact of_engine (by simp)
    · exact of_engine (by simp)
    · exact checkAccess s p a
  · exact refl s

theorem tailsBetween (tails : List (RunPoint × PortId × Word)) :
    (Machine.tailsBetween tails).Within KeepsTrading := by
  intro point u
  unfold Machine.tailsBetween
  generalize tails.filter _ = ts
  induction ts generalizing u with
  | nil => exact refl u
  | cons t ts ih => exact (arrive u _ _).trans (ih _)

/-! ## Start-up, reset and power -/

theorem bothPorts {f : State → PortId → State} (hf : ∀ u p, KeepsTrading u (f u p)) :
    KeepsTrading s (s.bothPorts f) := (hf s _).trans (hf _ _)

/-- The access that waited through start-up and is taken as a REQUEST writes no hall mode. -/
theorem checkWaitedRequest (p : PortId) {a : Access} {b : Fin 6} {v : Word}
    (request : a.asRequest = some (b, v)) : KeepsTrading s (s.checkWaitedRequest p a v) := by
  unfold State.checkWaitedRequest
  split
  · exact of_engine (by simp)
  · refine writeSpecial s p 5 a ?_
    rw [Access.word_of_asRequest request]
    rfl

theorem checkWaiting (p : PortId) : KeepsTrading s (s.checkWaiting p) := by
  have freed : KeepsTrading s (s.setWait p .free) := of_engine (State.setWait_engine _ _ _)
  unfold State.checkWaiting
  split
  · split
    · next request => exact freed.trans (checkWaitedRequest _ p request)
    · exact checkAccess s p _
  · exact refl s

theorem faultWaiting (p : PortId) : KeepsTrading s (s.faultWaiting p) := by
  unfold State.faultWaiting
  split
  · exact of_engine (by simp)
  · exact refl s

/-- Start-up enters RUNNING in SETUP, whatever its earlier steps have left (R202 step 9). -/
theorem enterRunning_tradingLaw {between : Between} (hb : between.Within KeepsTrading) :
    TradingLaw (s.enterRunning between) := by
  have running : TradingLaw s.setRunning := nofun
  rw [State.enterRunning_eq]
  have rerun : KeepsTrading s.setRunning (s.rerun between) :=
    (of_engine (State.raiseIf_engine _ _ _)).trans (rerunClose _ hb)
  exact (rerun.trans (bothPorts _ checkWaiting)).law running

theorem startWithin {between : Between} (hb : between.Within KeepsTrading) :
    KeepsTrading s (s.startWithin between) := by
  unfold State.startWithin
  split
  · have lost : KeepsTrading s { s with part := .noProfile, profile := none } := of_engine rfl
    exact lost.trans (bothPorts _ faultWaiting)
  · rw [State.startWith_eq]
    exact ⟨fun _ => enterRunning_tradingLaw _ hb⟩

theorem startUp : KeepsTrading s s.startUp := startWithin s undisturbed

/-- A reset leaves SETUP (R195). -/
theorem dropVolatile (u : State) (part : PartState) : KeepsTrading s (u.dropVolatile part) := of_setup rfl

theorem powerOn : KeepsTrading s s.powerOn :=
  Frame.ite s ((dropVolatile s s _).trans (Frame.ite _ (of_engine rfl) (refl _))) (refl s)

theorem powerUp : KeepsTrading s s.powerUp := Frame.ite s ((powerOn s).trans (startUp _)) (refl s)

theorem resetLine (event : ResetEvent) : KeepsTrading s (s.resetLine event) :=
  Frame.ite s ((dropVolatile s _ _).trans (Frame.ite _ (startUp _) (refl _))) (refl s)

theorem powerOff (cut : Cut) : KeepsTrading s (s.powerOff cut) := Frame.ite s (dropVolatile s _ _) (refl s)

theorem commandWithin (p : PortId) {command : State → State} (hc : ∀ u, KeepsTrading u (command u)) :
    KeepsTrading s (s.commandWithin p command) :=
  by
  have answered : KeepsTrading s ((s.dropSnapshot p).answer p .done) := of_engine (by simp)
  exact Frame.ite s (answered.trans (hc _)) (refl s)

theorem runWithin (work : RunWork) {between : Between} (hb : between.Within KeepsTrading) :
    KeepsTrading s (s.runWithin work between) := by
  unfold State.runWithin
  split
  · exact postingWithin s hb
  · exact commandWithin s _ fun u => formatCommand u between
  · exact commandWithin s _ fun u => resumeCommand u hb
  · split
    · exact journalRelease s hb
    · exact refl s
  · exact Frame.ite s ((powerOn s).trans (startWithin _ hb)) (refl s)

theorem writeTail (p : PortId) (event : TailEvent) : KeepsTrading s (s.writeTail p event) := by
  unfold State.writeTail
  split
  · exact arrive s _ _
  · exact runWithin s _ (tailsBetween _)

/-! ## Steps -/

/-- Every command keeps the trading law. -/
theorem exec_keeps {s t : State} (i : Instr) (e : exec i s = .next t) : KeepsTrading s t := by
  cases i
  case powerUp => cases e; exact powerUp s
  case reset event => cases e; exact resetLine s event
  case mainPowerOff cut => cases e; exact powerOff s cut
  case secondTick => cases e; exact of_engine (State.tick_engine s)
  case stallTimeout b => cases e; exact Frame.ite s (of_engine (State.tick_engine s)) (refl s)
  case crystalStop count => cases e; exact Frame.ite s (of_engine (by simp)) (refl s)
  case crystalRunsAgain => cases e; exact Frame.ite s (of_engine rfl) (refl s)
  case backupSupplyLost => cases e; exact Frame.ite s (of_engine rfl) (refl s)
  case descriptorFetchDone book => cases e; exact of_engine (State.endFetch_engine s book)
  case guardedReadResume p => cases e; exact of_engine (State.resumeRead_engine s p)
  case tailWrite p event => cases e; exact writeTail s p event
  case journalWaitRelease => cases e; exact journalRelease s undisturbed
  case bayHeldTrigger b => cases e; exact takeHeld s b
  case bayRecordWriteBack b => cases e; exact Frame.ite s (of_engine (State.writeBack_engine s b)) (refl s)
  case internalAdmission => cases e; exact admitInternal s
  case format => cases e; exact formatRow s
  case unknownKind => cases e; exact unknownRow s
  case openAccount | setCredit | freeze | thaw | closeAccount | transfer | land | sell | withdraw | lend |
      returnCrate | registerCrate | retireCrate | writeOff | iceHold | iceSettle | bayRelease | dayClose =>
    cases e; exact applyRow s _ _
  all_goals cases e; exact arrive s _ _

end KeepsTrading

/-- Settles O7: every command keeps the law, and so does the start-up of a STARTING part. -/
theorem stepKeepsTradingLaw : Obligations.StepKeepsTradingLaw := by
  unfold Obligations.StepKeepsTradingLaw
  intro s t law e
  unfold step at e
  split at e
  · unfold idleStep at e
    split at e
    · cases e; exact (KeepsTrading.startUp s).law law
    · cases e; exact law
  · next c cs _ =>
    have rest : TradingLaw { s with pending := cs } := law
    exact (KeepsTrading.exec_keeps c e).law rest

end Sys2Proof.Machine
end

section
/-! The notice lines (R199, R200): levels over the flags and their enables, through the writes, a reset and a
power-up. -/

namespace Sys2Proof.Machine

variable {s : State} {p : PortId}

/-! ## The lines -/

/-- A line is asserted while one bit stands in both words. -/
theorem masked_ne_zero_iff {n : Nat} (x y : BitVec n) :
    (x &&& y != 0) = true ↔ ∃ i : Nat, i < n ∧ x.getLsbD i = true ∧ y.getLsbD i = true := by
  have zero : x &&& y = 0 ↔ ∀ i : Nat, i < n → ¬ (x.getLsbD i = true ∧ y.getLsbD i = true) := by
    constructor
    · intro e i _ both
      have bit : (x &&& y).getLsbD i = true := by simp [both]
      rw [e] at bit
      simp at bit
    · intro none
      refine BitVec.eq_of_getLsbD_eq fun i hi => ?_
      simpa using none i hi
  simp only [bne_iff_ne, ne_eq, zero, not_forall, not_not, exists_prop]

/-- A flag raised asserts the office line when its enable is set, and no other (R199). -/
theorem State.raise_officeLine (s : State) (n : Notice) :
    (s.raise n).officeLine = (s.officeLine || decide (s.notices.enable &&& n.mask ≠ 0)) := by
  have parts : (s.notices.flags ||| n.mask) &&& s.notices.enable = 0 ↔
      s.notices.flags &&& s.notices.enable = 0 ∧ s.notices.enable &&& n.mask = 0 := by
    rw [BitVec.and_comm, BitVec.and_or_distrib_left, BitVec.and_comm s.notices.flags]
    exact BitVec.or_eq_zero_iff
  rw [Bool.eq_iff_iff]
  simp only [State.officeLine, State.raise, bne_iff_ne, ne_eq, parts, Bool.or_eq_true, decide_eq_true_eq,
    not_and_or]

/-! ## Writes at the ports -/

@[simp] theorem State.wrote_officeLine (s : State) (p : PortId) : (s.wrote p).officeLine = s.officeLine := by
  simp [State.wrote, State.officeLine]
@[simp] theorem State.wrote_quayLine (s : State) (p : PortId) : (s.wrote p).quayLine = s.quayLine := by
  simp [State.wrote, State.quayLine]
@[simp] theorem State.wroteWord_officeLine (s : State) (p : PortId) (book : Fin 7) (off : Nat) (v : Word) :
    (s.wroteWord p book off v).officeLine = s.officeLine := by simp [State.wroteWord, State.officeLine]
@[simp] theorem State.wroteWord_quayLine (s : State) (p : PortId) (book : Fin 7) (off : Nat) (v : Word) :
    (s.wroteWord p book off v).quayLine = s.quayLine := by simp [State.wroteWord, State.quayLine]

/-- An accepted write of the quay enable word: the enables, and the word in the store (R200). -/
theorem exec_quayEnable_written (own : s.owns p 5) (v : Word) :
    exec (.portWrite p (portAddr 5 4) .word v) s = .next
      (({ s with notices := { s.notices with quayEnable := field v 0 26 } }).wroteWord p 5 4 v) := by
  have apart : Apart fun u => u.blockEffect .quayEnable v := fun _ _ _ _ _ => rfl
  have written := State.stored_write_apart (w := .quayEnable) (book := 5) (off := 4) rfl own rfl
    (by decide) rfl (by decide) rfl rfl rfl apart
  exact congrArg _ (written.trans (apart.wroteWord rfl p 5 4 v))

/-- An accepted write of the quay indication word clears the flags written with one (R200). -/
theorem exec_quayIndicationClear_written (own : s.owns p 5) (v : Word) :
    exec (.quayIndicationClear p v) s = .next ((s.clearIndications v).wrote p) :=
  congrArg Host.Outcome.next <|
    State.live_write_apart (w := .quayFlags) (book := 5) rfl own rfl (by decide) rfl rfl rfl rfl
      fun _ _ _ _ _ => rfl

/-! ## Reset and power-up -/

/-- A reset clears every flag and every enable, so that neither line is asserted (R199, R200). -/
theorem State.dropVolatile_lines (s : State) (part : PartState) :
    (s.dropVolatile part).officeLine = false ∧ (s.dropVolatile part).quayLine = false := by
  simp [State.officeLine, State.quayLine, State.dropVolatile, State.reset]

/-- Two states with one quay enable word. -/
def SameQuayEnable (s t : State) : Prop := t.notices.quayEnable = s.notices.quayEnable

theorem SameQuayEnable.frame : Frame SameQuayEnable False where
  refl _ := rfl
  trans h k := Eq.trans k h
  engine _ _ _ _ _ := rfl
  memory _ _ _ := rfl
  ice _ _ := rfl
  raise _ _ := rfl
  indicate _ _ := rfl
  reports := False.elim

/-- The entry to RUNNING with a close that reports nothing leaves the quay enables. -/
theorem SameQuayEnable.rerun (quiet : QuietWork s) : SameQuayEnable s (s.rerun undisturbed) := by
  have set : SameQuayEnable s s.setRunning := rfl
  have raised := frame.raiseIf s.setRunning s.clock.fail .clockFail
  refine frame.trans (frame.trans set raised) (frame.rerunClose _ frame.undisturbed fun c d close reports => ?_)
  rw [State.raiseIf_engine] at close
  rw [quiet c d close] at reports
  cases reports

/-- Start-up of a fresh part leaves no quay enable: step 8 clears them (R200, R202). -/
theorem State.Fresh.startUp_quayEnable (h : s.Fresh) (clear : s.notices.quayEnable = 0) :
    s.startUp.notices.quayEnable = 0 := by
  cases e : s.loadedProfile with
  | none => rw [State.startUp, State.startWithin_noProfile h.free e]; exact clear
  | some p =>
    have fresh := (s.holdProfile p).startSteps_kept.fresh (h.holdProfile p)
    have reset : (s.holdProfile p).startSteps.notices.quayEnable = 0 := rfl
    rw [State.startUp, State.startWithin, e]
    dsimp only
    rw [State.startWith_eq, State.enterRunning_free fresh.free RunKept.frame.undisturbed]
    exact (SameQuayEnable.rerun fresh.quiet).trans reset

theorem State.powerOn_quayEnable (off : s.part = .unpowered) : s.powerOn.notices.quayEnable = 0 := by
  cases lost : s.clock.backupLost with
  | false => rw [State.powerOn_kept off lost]; rfl
  | true => rw [State.powerOn_lost off lost]; rfl

/-- Settles O36: each line is one formula over the notices, of which each write, a reset and a power-up leave
what the statement says. -/
theorem noticeLines : Obligations.NoticeLines := by
  unfold Obligations.NoticeLines
  intro s
  refine ⟨masked_ne_zero_iff _ _, masked_ne_zero_iff _ _, s.raise_officeLine, fun p data own => ⟨?_, ?_⟩,
    fun p data own => ⟨exec_quayEnable_written own data, ?_, ?_⟩, fun powered cut => ?_, fun off => ?_⟩
  · obtain ⟨-, -, written, -⟩ := configurationWrites s p data own
    exact ⟨_, written, State.wroteWord_officeLine .., State.wroteWord_quayLine ..⟩
  · obtain ⟨-, -, -, -, written, -⟩ := liveControlWrites s p data own
    exact ⟨_, written, State.wrote_officeLine .., State.wrote_quayLine ..⟩
  · exact ⟨_, exec_quayEnable_written own data, State.wroteWord_quayLine .., State.wroteWord_officeLine ..⟩
  · exact ⟨_, exec_quayIndicationClear_written own data, State.wrote_quayLine .., State.wrote_officeLine ..⟩
  · have taken : s.cutTaken cut = true := (s.cutTaken_iff cut).2 (.inl powered)
    exact ⟨_, congrArg Host.Outcome.next (State.resetLine_taken taken false), State.dropVolatile_lines _ _⟩
  · refine ⟨s.powerUp, rfl, ?_⟩
    have clear := (State.powerOn_fresh off).startUp_quayEnable (State.powerOn_quayEnable off)
    rw [State.powerUp, if_pos off, State.quayLine, clear]
    simp

end Sys2Proof.Machine
end

section
/-! The canonical store (R52, R79, log 8). The store changes by splices alone: each keeps the canonical form, on a
store whose writes a reset cuts off as on any other, and none lights a fuse. Here the Ice Unit, the journal, the
reports, FORMAT, the close, postings and start-up. -/

namespace Sys2Proof.Machine

/-- A later store is canonical when the earlier one is, and has no fuse when the earlier one has none. The two stand
apart: the work that a reset cuts runs with a fuse. -/
structure KeepsStore (s t : State) : Prop where
  wf : s.store.wf → t.store.wf
  fuse : s.store.fuse = none → t.store.fuse = none

namespace KeepsStore

variable (s : State)

/-! ## What keeps the store -/

theorem refl : KeepsStore s s := ⟨id, id⟩

theorem trans {s t u : State} (h : KeepsStore s t) (k : KeepsStore t u) : KeepsStore s u :=
  ⟨k.wf ∘ h.wf, k.fuse ∘ h.fuse⟩

theorem of_store {s t : State} (same : t.store = s.store) : KeepsStore s t :=
  ⟨fun h => by rwa [same], fun h => by rwa [same]⟩

theorem of_apart {f : State → State} (apart : Apart f) : KeepsStore s (f s) := of_store (apart.store s)

theorem of_putAll {s t : State} {ws : List (Nat × Word)} (written : t.store = s.store.putAll ws) :
    KeepsStore s t :=
  ⟨fun h => by rw [written]; exact Memory.putAll_wf h ws, fun h => by rw [written]; exact Memory.putAll_fuse h ws⟩

theorem of_putBytes {s t : State} {a : Nat} {bs : List Byte} (written : t.store = s.store.putBytes a bs) :
    KeepsStore s t :=
  ⟨fun h => by rw [written]; exact Memory.putBytes_wf h a bs,
    fun h => by rw [written]; exact Memory.putBytes_fuse h a bs⟩

theorem of_clear {s t : State} {a len : Nat} (cleared : t.store = s.store.clear a len) : KeepsStore s t :=
  ⟨fun h => by rw [cleared]; exact Memory.clear_wf h a len,
    fun h => by rw [cleared]; exact Memory.clear_fuse h a len⟩

theorem undisturbed : undisturbed.Within KeepsStore := fun _ u => refl u

theorem foldl {α : Type} {f : State → α → State} (step : ∀ u a, KeepsStore u (f u a)) (as : List α) :
    KeepsStore s (as.foldl f s) := by
  induction as generalizing s with
  | nil => exact refl s
  | cons a as ih => exact (step s a).trans (ih _)

/-! ## Small updates -/

theorem raise (n : Notice) : KeepsStore s (s.raise n) := of_store rfl
theorem granted (g : Grantee) : KeepsStore s (s.granted g) := of_store rfl
theorem withGuard (g : List RecordId) : KeepsStore s (s.withGuard g) := of_store rfl
theorem guardGranted (g : List RecordId) (w : Grantee) : KeepsStore s ((s.withGuard g).granted w) := of_store rfl
theorem setBay (b : Fin 6) (c : BayChannel) : KeepsStore s (s.setBay b c) := of_store rfl
theorem bayStatus (b : Fin 6) (t : Status) : KeepsStore s (s.bayStatus b t) := of_store rfl
theorem write (g : Grantee) (ws : List (Nat × Word)) : KeepsStore s (s.write g ws) := of_putAll rfl

/-! ## Requests and bays -/

theorem serve (rs : List Request) : KeepsStore s (s.serve rs) := by
  obtain ⟨ws, -, written⟩ := s.serve_store rs
  exact of_putAll written

theorem setBayCopy (b : Fin 6) (r : BayRecord) : KeepsStore s (s.setBayCopy b r) :=
  of_store (s.setBayCopy_store b r)

theorem bayTransition (b : Fin 6) (r : BayRecord) : KeepsStore s (s.bayTransition b r) :=
  (setBayCopy s b r).trans (Frame.ite _ (setBay _ b _) (refl _))

theorem bayChange (b : Fin 6) (r : BayRecord) (places : List Nat) (beside : List Request := []) :
    KeepsStore s (s.bayChange b r places beside) := (bayTransition s b r).trans (serve _ _)

theorem stall (b : Fin 6) (places : List Nat) : KeepsStore s (s.stall b places) :=
  (bayChange s b _ places).trans (raise _ _)

theorem writeBack (b : Fin 6) : KeepsStore s (s.writeBack b) := of_putAll rfl

/-! ## The guard -/

theorem settleDue (rs : List RecordId) : KeepsStore s (s.settleDue rs) := by
  induction rs generalizing s with
  | nil => exact refl s
  | cons r rs ih =>
    cases r with
    | bay b =>
      refine trans ?_ (ih _)
      split
      · exact Frame.ite s (writeBack s _) (refl s)
      · exact refl s
    | _ => exact ih s

theorem placeGuard (rs : List RecordId) : KeepsStore s (s.placeGuard rs) := (settleDue s rs).trans (withGuard _ _)

theorem guardRead (rs : List RecordId) (g : Grantee) : KeepsStore s ((s.placeGuard rs).granted g) :=
  (placeGuard s rs).trans (granted _ g)

/-! ## The journal -/

theorem setEngineRecord (r : EngineRecord) : KeepsStore s (s.setEngineRecord r) := of_putAll rfl

theorem writeEntry (e : JournalEntry) (r : EngineRecord) : KeepsStore s (s.writeEntry e r) :=
  of_putAll (s.writeEntry_store e r)

theorem redoEngineImage (is : List Image) : KeepsStore s (s.redoEngineImage is) := by
  unfold State.redoEngineImage
  split
  · exact refl s
  · exact (setEngineRecord s _).trans (of_store (State.raiseIf_store _ _ _))

theorem redo {t : State} (e : s.redo = some t) : KeepsStore s t := by
  have read := granted s (.inner .engine)
  have records : KeepsStore s s.redoRecords := of_putAll s.redoRecords_store
  unfold State.redo at e
  simp only at e
  split at e
  · cases e
  · split at e
    · cases e; exact read
    · split at e
      · cases e; exact records.trans (redoEngineImage _ _)
      · split at e
        · cases e; exact read.trans (redoEngineImage _ _)
        · cases e; exact read

/-! ## Reports -/

theorem settleRefused (b : Fin 6) (p : Posting) (r : Reason) (t : Status) :
    KeepsStore s (s.settleRefused b p r t) := by
  have answered := bayStatus s b t
  unfold State.settleRefused
  dsimp only
  split
  · exact answered.trans (setBay _ b _)
  · exact answered
  · exact answered.trans (stall _ b _)

theorem holdRefused (b : Fin 6) (t : Status) : KeepsStore s (s.holdRefused b t) :=
  (bayStatus s b t).trans (bayChange _ b _ _)

/-- A bay whose own posting is refused is the one report that writes the store (R158, R161). -/
theorem report (p : Posting) (reason : Option Reason) (q v : Option Word) (is : List Image) :
    KeepsStore s (s.report p reason q v is) := by
  cases reason with
  | none => exact of_store (State.report_store (fun _ _ => rfl) q v is)
  | some r =>
    cases source : p.source with
    | bay b =>
      simp only [State.report, source, State.reportBay]
      exact Frame.ite s (holdRefused s b _) (settleRefused s b p r _)
    | _ =>
      refine of_store (State.report_store (fun b bay => ?_) q v is)
      rw [source] at bay
      cases bay

/-! ## The end of a posting -/

theorem endPosting : KeepsStore s s.endPosting := of_store s.endPosting_store

theorem takeNext : KeepsStore s s.takeNext := of_apart s State.takeNext_apart

theorem writeDueEntry (d : Due) : KeepsStore s (s.writeDueEntry d) := by
  have reported : KeepsStore s (((s.writeEntry d.entry (s.nextRecord d.nextLot)).withGuard []).report
      d.posting d.entry.reason (some s.engine.copy.head) d.value d.entry.images) :=
    ((writeEntry s _ _).trans (withGuard _ _)).trans (report _ _ _ _ _ _)
  rw [State.writeDueEntry_eq]
  exact reported.trans (Frame.ite _ (of_store rfl) (endPosting _))

theorem entryDue (d : Due) : KeepsStore s (s.entryDue d) := Frame.ite s (of_store rfl) (writeDueEntry s d)

theorem refuse (p : Posting) (r : Reason) : KeepsStore s (s.refuse p r) := entryDue s _

theorem refuseBare (p : Posting) (r : Reason) : KeepsStore s (s.refuseBare p r) :=
  (report s _ _ _ _ _).trans (endPosting _)

theorem examine (p : Posting) (k : PostKind) (plan : Plan) : (s.examine p k plan).Within KeepsStore s := by
  have guarded (more : List RecordId) : KeepsStore s
      (((s.placeGuard (.engine :: plan.first)).granted (.inner .engine)).placeGuard more) :=
    (guardRead s _ _).trans (placeGuard _ more)
  unfold State.examine
  split
  · trivial
  · dsimp only
    split
    · exact guardRead s _ _
    · split
      · exact guarded _
      · unfold State.judge
        split
        · exact guarded _
        · split <;> exact guarded _

theorem applyUnknown (p : Posting) : KeepsStore s (s.applyUnknown p) :=
  Frame.ite s ((guardRead s _ _).trans (refuse _ _ _)) (refuseBare s _ _)

/-! ## FORMAT -/

/-- Steps 2 to 4: a book cleared, the special accounts written, two books cleared (R32). -/
theorem formatRecords : KeepsStore s s.formatRecords := by
  have accounts : KeepsStore s s.formatAccountBook :=
    trans (t := { s with store := s.store.clear (s.base 1) (bookLimit 1) }) (of_clear rfl)
      (of_putAll (ws := s.formatAccounts) rfl)
  have lots : KeepsStore s.formatAccountBook { s.formatAccountBook with
      store := s.formatAccountBook.store.clear (s.base 2) (bookLimit 2) } := of_clear rfl
  rw [State.formatRecords_eq]
  exact (accounts.trans lots).trans (of_clear rfl)

theorem formatBay (b : Fin 6) : KeepsStore s (s.formatBay b) := of_putAll (s.formatBay_store b)

theorem formatBays : KeepsStore s s.formatBays :=
  (((((formatBay s 0).trans (formatBay _ 1)).trans (formatBay _ 2)).trans (formatBay _ 3)).trans
    (formatBay _ 4)).trans (formatBay _ 5)

theorem formatStores : KeepsStore s s.formatStores := by
  refine trans ?_ (formatBays _)
  refine trans ?_ (of_putAll (State.formatJournal_store _))
  refine trans ?_ (formatRecords _)
  exact trans (t := { s with engine := { s.engine with state := .formatting } }) (of_store rfl) (setEngineRecord _ _)

theorem formatEngine : KeepsStore s s.formatEngine := (setEngineRecord s _).trans (of_putAll s.formatEngine_store)

theorem formatEnd : KeepsStore s s.formatEnd := (setEngineRecord s _).trans (of_store s.formatEnd_store)

section Between
variable {between : Between} (hb : between.Within KeepsStore)
include hb

theorem formatHall (ps : Params) (st : Stamp) : KeepsStore s (s.formatHall ps st between) := by
  have begun : KeepsStore s (between .before7 s.formatStores).formatEngine :=
    ((formatStores s).trans (hb _ _)).trans (formatEngine _)
  exact (((begun.trans (hb _ _)).trans (writeEntry _ _ _)).trans (hb _ _)).trans (formatEnd _)

theorem applyFormat (p : Posting) : KeepsStore s (s.applyFormat p between) := by
  unfold State.applyFormat
  split
  · exact Frame.ite s ((placeGuard s _).trans (refuse _ _ _)) (refuseBare s _ _)
  · exact ((formatHall s hb _ _).trans (report _ _ _ _ _ _)).trans (endPosting _)

theorem forceFormat : KeepsStore s (s.forceFormat between) := by
  have formatted : KeepsStore s { s.formatHall Params.zero s.stamp between with
      engine := { (s.formatHall Params.zero s.stamp between).engine with halt := none, work := .none } } :=
    (formatHall s hb _ _).trans (of_store rfl)
  unfold State.forceFormat
  refine trans ?_ (endPosting _)
  dsimp only
  split
  · exact Frame.ite s (formatted.trans (report _ _ _ _ _ _)) formatted
  · exact formatted

theorem formatCommand : KeepsStore s (s.formatCommand between) := Frame.ite s (forceFormat s hb) (refl s)

end Between

/-! ## Day close -/

theorem haltClose (c : CloseWork) : KeepsStore s (s.haltClose c) := of_store rfl

theorem writeStruck (c : CloseWork) : KeepsStore s (s.writeStruck c) := (writeEntry s _ _).trans (haltClose _ c)

theorem strikeClose (c : CloseWork) : KeepsStore s (s.strikeClose c) :=
  Frame.ite s (of_store rfl) (Frame.ite s (of_store rfl) (writeStruck s c))

theorem holdClose (c : CloseWork) (due : CloseDue) : KeepsStore s (s.holdClose c due) :=
  Frame.ite s (of_store rfl) (of_store rfl)

theorem writeClosed (c : CloseWork) : KeepsStore s (s.writeClosed c) := by
  have closed : KeepsStore s (s.closedBook c) :=
    ((writeEntry s _ _).trans (withGuard _ _)).trans (raise _ _)
  rw [State.writeClosed_eq]
  exact (closed.trans (of_store (State.closeReported_store _ _ _))).trans (endPosting _)

theorem finishClose (c : CloseWork) : KeepsStore s (s.finishClose c) :=
  Frame.ite s (holdClose s c _) (writeClosed s c)

theorem rollAccounts (c : CloseWork) (n : Nat) : KeepsStore s (s.rollAccounts c n) := by
  induction n generalizing s c with
  | zero => exact finishClose s c
  | succ n ih =>
    unfold State.rollAccounts
    dsimp only
    split
    · exact (guardGranted s _ _).trans (strikeClose _ c)
    · split
      · exact (((guardGranted s _ _).trans (write _ _ _)).trans (withGuard _ _)).trans (ih _ _)
      · exact ((guardGranted s _ _).trans (withGuard _ _)).trans (ih _ c)

section Between
variable {between : Between} (hb : between.Within KeepsStore)
include hb

theorem withdrawOne (c : CloseWork) (e : JournalEntry) : KeepsStore s (s.withdrawOne c e between) :=
  ((writeEntry s e _).trans (withGuard _ _)).trans (hb _ _)

theorem withdrawLots (c : CloseWork) (n : Nat) : KeepsStore s (s.withdrawLots c between n) := by
  induction n generalizing s c with
  | zero => exact rollAccounts s c 256
  | succ n ih =>
    have placed (g rs : List RecordId) :
        KeepsStore s (((s.withGuard g).granted (.inner .engine)).placeGuard rs) :=
      (guardGranted s _ _).trans (placeGuard _ rs)
    unfold State.withdrawLots
    dsimp only
    split
    · exact (guardGranted s _ _).trans (strikeClose _ c)
    · split
      · split
        · exact (placed _ _).trans (strikeClose _ c)
        · split
          · exact (placed _ _).trans (holdClose _ c _)
          · exact ((placed _ _).trans (withdrawOne _ hb c _)).trans (ih _ _)
      · exact ((guardGranted s _ _).trans (withGuard _ _)).trans (ih _ c)

theorem runClose (c : CloseWork) : KeepsStore s (s.runClose c between) := by
  have entered : KeepsStore s s.enterClose := of_store rfl
  exact (entered.trans (hb _ _)).trans (withdrawLots _ hb c 2048)

theorem beginClose (c : CloseWork) : KeepsStore s (s.beginClose c between) :=
  (setEngineRecord s _).trans (runClose _ hb c)

theorem closeWithin (p : Posting) : KeepsStore s (s.closeWithin p between) := by
  have examined := examine s p .dayClose (dayClosePlan p)
  unfold State.closeWithin
  split
  · next e =>
    rw [e] at examined
    exact trans examined (beginClose _ hb _)
  · exact refl s

theorem rerunClose : KeepsStore s (s.rerunClose between) := by
  unfold State.rerunClose
  split
  · exact runClose s hb _
  · exact refl s

/-! ## Work that goes on -/

theorem releaseWork : KeepsStore s (s.releaseWork between) := by
  have freed : KeepsStore s { s with engine := { s.engine with work := .none } } := of_store rfl
  unfold State.releaseWork
  split
  · exact freed.trans (writeDueEntry _ _)
  · dsimp only
    split
    · exact (freed.trans (withdrawOne _ hb _ _)).trans (withdrawLots _ hb _ _)
    · exact freed.trans (writeClosed _ _)
    · exact freed.trans (writeStruck _ _)
  · exact refl s

theorem journalRelease : KeepsStore s (s.journalRelease between) := by
  unfold State.journalRelease
  refine Frame.ite s (refl s) ?_
  split
  · exact releaseWork s hb
  · exact releaseWork s hb
  · exact refl s

theorem postingWithin : KeepsStore s (s.postingWithin between) := by
  unfold State.postingWithin
  split
  · exact Frame.ite s (applyFormat s hb _) (refl s)
  · exact closeWithin s hb _
  · exact refl s

theorem repeatRedo : KeepsStore s (s.repeatRedo between) := by
  unfold State.repeatRedo
  split
  · exact of_store rfl
  · next t e => exact (redo s e).trans (Frame.ite t (runClose t hb _) (takeNext t))

theorem resumeCommand : KeepsStore s (s.resumeCommand between) := by
  have resumed : KeepsStore s { s with engine := { s.engine with halt := none } } := of_store rfl
  unfold State.resumeCommand
  split
  · dsimp only
    split
    · exact resumed.trans (repeatRedo _ hb)
    · exact resumed.trans (runClose _ hb _)
    · exact resumed.trans (takeNext _)
  · exact refl s

end Between

/-! ## The posting in hand -/

theorem applyPlan (p : Posting) (k : PostKind) (plan : Plan) : KeepsStore s (s.applyPlan p k plan) := by
  have examined := examine s p k plan
  unfold State.applyPlan
  cases e : s.examine p k plan with
  | bare r => exact refuseBare s p r
  | refused t r => rw [e] at examined; exact trans examined (refuse t p r)
  | accepted t d => rw [e] at examined; exact trans examined (entryDue t d)
  | closing t c => rw [e] at examined; exact trans examined (beginClose t undisturbed c)

theorem applyTaken (p : Posting) : KeepsStore s (s.applyTaken p) := by
  unfold State.applyTaken
  split
  · exact applyUnknown s p
  · next k _ =>
    cases k with
    | format => exact applyFormat s undisturbed p
    | dayClosed => exact refl s
    | _ => exact applyPlan s p _ _

theorem applyRow (k : PostKind) (plan : Posting → Plan) : KeepsStore s (s.applyRow k plan) := by
  unfold State.applyRow
  split
  · exact applyPlan s _ _ _
  · exact refl s

theorem formatRow : KeepsStore s s.formatRow := by
  unfold State.formatRow
  split
  · exact applyFormat s undisturbed _
  · exact refl s

theorem unknownRow : KeepsStore s s.unknownRow := by
  unfold State.unknownRow
  split
  · exact Frame.ite s (applyUnknown s _) (refl s)
  · exact refl s

/-! ## Steps 2 to 8 of start-up -/

theorem load (ws : List (Nat × Word)) : KeepsStore s (s.load ws) := write s _ ws

theorem loadCopies : KeepsStore s s.loadCopies := of_store s.loadCopies_store

theorem loadRecord (r : EngineRecord) : KeepsStore s (s.loadRecord r) := of_store rfl

theorem normaliseWord (c : ConfigWord) : KeepsStore s (s.normaliseWord c) :=
  Frame.ite s ((granted s _).trans (load _ _)) (granted s _)

theorem normaliseDescriptor (slot : Fin 57) : KeepsStore s (s.normaliseDescriptor slot) :=
  Frame.ite s (load s _) (refl s)

theorem normalise : KeepsStore s s.normalise := by
  have words := foldl s normaliseWord configWords
  have descriptors (u : State) := foldl u normaliseDescriptor (List.finRange 57)
  have tail (u : State) : KeepsStore u u.normaliseTail := Frame.ite u (load u _) (refl u)
  exact ((words.trans (descriptors _)).trans (tail _)).trans (loadCopies _)

theorem checkRecord : KeepsStore s s.checkRecord := by
  have defaults (u : State) : KeepsStore u u.defaultConfig :=
    ((load u _).trans (foldl _ (fun v _ => load v _) (List.finRange 57))).trans (loadCopies _)
  unfold State.checkRecord
  dsimp only
  split
  · exact loadRecord s _
  · exact ((load s _).trans (defaults _)).trans (loadRecord _ _)

theorem startRedo : KeepsStore s s.startRedo := by
  unfold State.startRedo
  split
  · split
    · next e => exact redo s e
    · exact of_store rfl
  · exact refl s

theorem fixRecord (b : Fin 6) : KeepsStore s (s.fixRecord b) :=
  (setBay s b _).trans <|
    Frame.ite _ (bayChange _ b _ _) (Frame.ite _ (stall _ b _) (Frame.ite _ (setBay _ b _) (refl _)))

theorem fixBay (b : Fin 6) : KeepsStore s (s.fixBay b) := by
  have zeroed : KeepsStore s (s.zeroBay b) := (write s _ _).trans (setBay _ b _)
  have retired (u : State) : KeepsStore u (u.retireBay b) := (setBay u b _).trans (raise _ _)
  exact Frame.ite s zeroed <| Frame.ite s
    ((granted s _).trans (Frame.ite _ (retired _) (fixRecord _ b))) (refl s)

theorem fixBays : KeepsStore s s.fixBays :=
  (((((fixBay s 0).trans (fixBay _ 1)).trans (fixBay _ 2)).trans (fixBay _ 3)).trans (fixBay _ 4)).trans (fixBay _ 5)

theorem startSteps : KeepsStore s s.startSteps := by
  have again (u : State) : KeepsStore u u.repeatFormat :=
    Frame.ite u ((formatHall u undisturbed _ _).trans (endPosting _)) (refl u)
  have close (u : State) : KeepsStore u u.resumeClose := Frame.ite u (runClose u undisturbed _) (refl u)
  have cleared (u : State) : KeepsStore u { u with
      shadows := Shadows.reset, notices := { u.notices with quayEnable := 0 } } := of_store rfl
  have slots (u : State) : KeepsStore u u.resetSlots := (load u _).trans (cleared _)
  exact (((((((normalise s).trans (checkRecord _)).trans (again _)).trans (startRedo _)).trans (close _)).trans
    (fixBays _)).trans (slots _))

end KeepsStore

end Sys2Proof.Machine
end

section
/-! The canonical store, from the ports to a step (R48, R58, R79, R155, R202): intake, accesses, ticks, start-up, the
work that a reset cuts, and every command. -/

namespace Sys2Proof.Machine

namespace KeepsStore

variable (s : State)

/-! ## Ports -/

theorem setPath (p : PortId) (x : Path) : KeepsStore s (s.setPath p x) := of_store (s.setPath_store p x)
theorem setWait (p : PortId) (w : Wait) : KeepsStore s (s.setWait p w) := of_store (s.setWait_store p w)
theorem answer (p : PortId) (r : Answer) : KeepsStore s (s.answer p r) := of_store (s.answer_store p r)
theorem dropSnapshot (p : PortId) : KeepsStore s (s.dropSnapshot p) := of_store (s.dropSnapshot_store p)
theorem faultAccess (p : PortId) (a : Access) (r : FaultReason) : KeepsStore s (s.faultAccess p a r) :=
  of_store (s.faultAccess_store p a r)

theorem bothPorts {f : State → PortId → State} (hf : ∀ u p, KeepsStore u (f u p)) :
    KeepsStore s (s.bothPorts f) :=
  (hf s _).trans (hf _ _)

/-! ## Intake -/

theorem enqueue (p : Posting) : KeepsStore s (s.enqueue p) := Frame.ite s (of_store rfl) (of_store rfl)

theorem admitInternal : KeepsStore s s.admitInternal := by
  have dropped (i : Fin 11) : KeepsStore s (s.dropWaiting i) := by
    unfold State.dropWaiting
    split
    · exact of_store rfl
    · split
      · exact of_store rfl
      · split <;> exact of_store rfl
  unfold State.admitInternal
  split
  · split
    · exact refl s
    · next i p _ =>
      have moved (u : State) : KeepsStore u { u with engine := { u.engine with pointer := afterPosition i } } :=
        of_store rfl
      exact ((dropped i).trans (moved _)).trans (enqueue _ p)
  · exact refl s

theorem answeredBay (b : Fin 6) (t : Status) (rs : List Request) : KeepsStore s ((s.bayStatus b t).serve rs) :=
  (bayStatus s b t).trans (serve _ rs)

theorem takeRequest (b : Fin 6) (sh : BayShadow) (rs : List Request) : KeepsStore s (s.takeRequest b sh rs) :=
  Frame.ite s (answeredBay s b _ rs) <| Frame.ite s (answeredBay s b _ rs) <|
    Frame.ite s (((bayStatus s b _).trans (bayChange _ b _ _ rs)).trans (enqueue _ _)) (answeredBay s b _ rs)

theorem takeDone (b : Fin 6) (sh : BayShadow) (rs : List Request) : KeepsStore s (s.takeDone b sh rs) :=
  Frame.ite s ((setBay s b _).trans (bayChange _ b _ _ rs)) (answeredBay s b _ rs)

theorem takeBayTrigger (b : Fin 6) (isDone : Bool) (sh : BayShadow) (rs : List Request) :
    KeepsStore s (s.takeBayTrigger b isDone sh rs) := Frame.ite s (takeDone s b sh rs) (takeRequest s b sh rs)

theorem takeHeld (b : Fin 6) : KeepsStore s (s.takeHeld b) := by
  unfold State.takeHeld
  dsimp only
  split
  · exact refl s
  · exact Frame.ite s (refl s) ((setBay s b _).trans ((takeBayTrigger _ b _ _ _).trans (answer _ _ _)))

/-! ## Effects of writes -/

theorem takeCommand (v : Word) : KeepsStore s (s.takeCommand v) := by
  unfold State.takeCommand
  split
  · exact of_store rfl
  · exact Frame.ite s (takeNext s) (refl s)
  · exact resumeCommand s undisturbed
  · exact formatCommand s undisturbed
  · exact refl s

/-- ENGINE_FORMAT and ENGINE_RESUME are the effects that write the store besides the written word (R22, R58). -/
theorem blockEffect (w : SpecialWord) (v : Word) : KeepsStore s (s.blockEffect w v) := by
  cases w with
  | command => exact takeCommand s v
  | clockControl => exact of_apart s (State.clockControlWrite_apart v)
  | tail => exact of_apart s (State.setTail_apart v)
  | config c => exact of_apart s (State.setCopy_apart c v)
  | commit n => exact of_apart s (State.takeCommit_apart n)
  | sample n => exact of_apart s (State.takeSample_apart n _)
  | raw r => exact of_apart s (State.takeRaw_apart r v)
  | trigger slot => exact of_apart s (State.takeTrigger_apart slot v)
  | _ => exact of_store rfl

theorem restartBay (b : Fin 6) : KeepsStore s (s.restartBay b) :=
  Frame.ite s ((bayTransition s b _).trans (raise _ _)) (refl s)

theorem quayRestart (rs : List Request) : KeepsStore s (s.quayRestart rs) := by
  have stations : KeepsStore s s.restartScales.restartReaders := of_store rfl
  have bays (u : State) : KeepsStore u (u.restartBays rs) :=
    ((((((restartBay u 0).trans (restartBay _ 1)).trans (restartBay _ 2)).trans (restartBay _ 3)).trans
      (restartBay _ 4)).trans (restartBay _ 5)).trans (serve _ _)
  have cleared (u : State) : KeepsStore u { u with notices := { u.notices with quayFlags := 0 } } := of_store rfl
  exact (stations.trans (bays _)).trans (cleared _)

theorem deliverBay (p : PortId) (b : Fin 6) (isDone : Bool) (v : Word) (rs : List Request) :
    KeepsStore s (s.deliverBay p b isDone v rs) :=
  Frame.ite s ((setBay s b _).trans (setPath _ p _)) (takeBayTrigger s b isDone _ rs)

theorem effect (p : PortId) (w : SpecialWord) (v : Word) (rs : List Request) :
    KeepsStore s (s.effect p w v rs) := by
  cases w with
  | quayRestart => exact quayRestart s rs
  | request b => exact deliverBay s p b false v rs
  | done b => exact deliverBay s p b true v rs
  | _ => exact (blockEffect s _ v).trans (serve _ rs)

/-! ## Reads -/

theorem storedRead (p : PortId) (book : Fin 7) (a : Access) : KeepsStore s (s.storedRead p book a) :=
  Frame.ite s
    ((granted s _).trans (Frame.ite _ ((dropSnapshot _ p).trans (faultAccess _ p a _))
      ((setPath _ p _).trans (answer _ p _))))
    ((granted s _).trans (Frame.ite _ (faultAccess _ p a _) (answer _ p _)))

theorem guardedRead (p : PortId) (book : Fin 7) (a : Access) : KeepsStore s (s.guardedRead p book a) :=
  Frame.ite s (setWait s p _) (storedRead s p book a)

theorem readSpecial (p : PortId) (book : Fin 7) (a : Access) : KeepsStore s (s.readSpecial p book a) := by
  unfold State.readSpecial
  split
  · exact (setPath s p _).trans (answer _ p _)
  · exact (setPath s p _).trans (answer _ p _)
  · split
    · exact answer s p _
    · split
      · exact (dropSnapshot s p).trans (guardedRead _ p book a)
      · split
        · exact answer s p _
        · exact guardedRead s p book a

theorem resumeRead (p : PortId) : KeepsStore s (s.resumeRead p) := by
  unfold State.resumeRead
  split
  · split
    · exact Frame.ite s (refl s) ((setWait s p _).trans (storedRead _ p _ _))
    · exact refl s
  · exact refl s

/-! ## Accesses -/

theorem writeSpecial (p : PortId) (book : Fin 7) (a : Access) (v : Word) :
    KeepsStore s (s.writeSpecial p book a v) := by
  have taken (rs : List Request) :
      KeepsStore s ((s.dropSnapshot p).effect p (specialWordAt book a.offset) v rs) :=
    (dropSnapshot s p).trans (effect _ p _ v rs)
  exact Frame.ite s (taken _) ((taken _).trans (answer _ p _))

theorem checkSpecial (p : PortId) (book : Fin 7) (a : Access) : KeepsStore s (s.checkSpecial p book a) := by
  unfold State.checkSpecial
  split
  · exact faultAccess s p a _
  · split
    · exact readSpecial s p book a
    · exact writeSpecial s p book a _

/-- A plain book's write is the one splice that need not be whole words (R58). -/
theorem writePlain (p : PortId) (base : Nat) (a : Access) (v : Word) : KeepsStore s (s.writePlain p base a v) := by
  have spliced (u : State) : KeepsStore u
      { u with store := u.store.putBytes (base + a.offset) (writeBytes a.size v) } := of_putBytes rfl
  exact ((dropSnapshot s p).trans (spliced _)).trans ((granted _ _).trans (answer _ p _))

theorem checkPlain (p : PortId) (d : Descriptor) (a : Access) : KeepsStore s (s.checkPlain p d a) := by
  unfold State.checkPlain
  split
  · exact faultAccess s p a _
  · split
    · exact (granted s _).trans (Frame.ite _ (faultAccess _ p a _) (answer _ p _))
    · exact writePlain s p _ a _

theorem cache (c : Cache) : KeepsStore s { s with cache := c } := of_store rfl

theorem plainAccess (p : PortId) (book : BitVec 6) (a : Access) : KeepsStore s (s.plainAccess p book a) := by
  unfold State.plainAccess
  split
  · exact checkPlain s p _ a
  · exact setWait s p _
  · exact (cache s _).trans (setWait _ p _)

theorem checkAccess (p : PortId) (a : Access) : KeepsStore s (s.checkAccess p a) := by
  unfold State.checkAccess
  dsimp only
  split
  · exact (setWait s p _).trans (checkSpecial _ p _ a)
  · exact (setWait s p _).trans (plainAccess _ p _ a)

theorem arrive (p : PortId) (a : Access) : KeepsStore s (s.arrive p a) := by
  unfold State.arrive
  split
  · split
    · exact refl s
    · exact setWait s p _
    · exact faultAccess s p a _
    · exact checkAccess s p a
  · exact refl s

theorem tailsBetween (tails : List (RunPoint × PortId × Word)) : (Machine.tailsBetween tails).Within KeepsStore := by
  intro point u
  have tail (v : State) (t : RunPoint × PortId × Word) : KeepsStore v (v.arriveTail t.2) := arrive v _ _
  exact foldl u tail _

theorem settleFetch (book : BitVec 6) (d : Option Descriptor) (p : PortId) :
    KeepsStore s (s.settleFetch book d p) := by
  unfold State.settleFetch
  split
  · split
    · split
      · exact (setWait s p _).trans (checkPlain _ p _ _)
      · exact faultAccess s p _ _
    · exact refl s
  · exact refl s

theorem endFetch (book : BitVec 6) : KeepsStore s (s.endFetch book) := by
  have settled (d : Option Descriptor) (u : State) : KeepsStore u (u.bothPorts fun t p => t.settleFetch book d p) :=
    bothPorts u fun t p => settleFetch t book d p
  unfold State.endFetch
  split
  · refine (granted s (.inner .cache)).trans ?_
    exact Frame.ite _ ((cache _ _).trans (settled _ _))
      (Frame.ite _ (cache _ _) ((cache _ _).trans (settled _ _)))
  · exact refl s

/-! ## Ticks -/

theorem clock (c : HallClock) : KeepsStore s { s with clock := c } := of_store rfl

theorem raiseIf (c : Bool) (n : Notice) : KeepsStore s (s.raiseIf c n) := of_store (s.raiseIf_store c n)

theorem tickBay (b : Fin 6) : KeepsStore s (s.tickBay b) :=
  Frame.ite s (Frame.ite s ((bayChange s b _ _).trans (raise _ _)) (bayChange s b _ _)) (refl s)

theorem matchEntry (k : Fin 4) : KeepsStore s (s.matchEntry k) := by
  have action (u : State) : KeepsStore u (u.scheduleAction k) := by
    unfold State.scheduleAction
    split
    · exact Frame.ite u (clock u _) (refl u)
    all_goals exact of_store rfl
  exact trans (Frame.ite s ((clock s _).trans (action _)) (refl s)) (clock _ _)

theorem tick : KeepsStore s s.tick := by
  have bays (u : State) : KeepsStore u u.tickBays :=
    (((((tickBay u 0).trans (tickBay _ 1)).trans (tickBay _ 2)).trans (tickBay _ 3)).trans (tickBay _ 4)).trans
      (tickBay _ 5)
  have entries (u : State) : KeepsStore u u.matchSchedule :=
    (((matchEntry u 0).trans (matchEntry _ 1)).trans (matchEntry _ 2)).trans (matchEntry _ 3)
  have running (u : State) : KeepsStore u (if u.part = .running then u.tickBays.matchSchedule else u) :=
    Frame.ite u ((bays u).trans (entries _)) (refl u)
  exact Frame.ite s (((clock s _).trans (raiseIf _ _ _)).trans (running _)) (refl s)

theorem writeBackStep (b : Fin 6) : KeepsStore s (s.writeBackStep b) := Frame.ite s (writeBack s b) (refl s)

/-! ## Start-up and power -/

theorem checkWaiting (p : PortId) : KeepsStore s (s.checkWaiting p) := by
  have waited (u : State) (a : Access) (v : Word) : KeepsStore u (u.checkWaitedRequest p a v) := by
    unfold State.checkWaitedRequest
    split
    · exact faultAccess u p _ _
    · exact writeSpecial u p 5 _ _
  unfold State.checkWaiting
  split
  · split
    · exact (setWait s p _).trans (waited _ _ _)
    · exact checkAccess s p _
  · exact refl s

theorem faultWaiting (p : PortId) : KeepsStore s (s.faultWaiting p) := by
  unfold State.faultWaiting
  split
  · exact faultAccess s p _ _
  · exact refl s

theorem startWithin {between : Between} (hb : between.Within KeepsStore) :
    KeepsStore s (s.startWithin between) := by
  unfold State.startWithin
  split
  · have lost : KeepsStore s { s with part := .noProfile, profile := none } := of_store rfl
    exact lost.trans (bothPorts _ faultWaiting)
  · next p _ =>
    have held : KeepsStore s (s.holdProfile p) := of_store rfl
    have running (u : State) : KeepsStore u u.setRunning := of_store rfl
    have rerun (u : State) : KeepsStore u (u.rerun between) :=
      ((running u).trans (raiseIf _ _ _)).trans (rerunClose _ hb)
    rw [State.startWith_eq, State.enterRunning_eq]
    exact ((held.trans (startSteps _)).trans (rerun _)).trans (bothPorts _ checkWaiting)

theorem startUp : KeepsStore s s.startUp := startWithin s undisturbed

/-- The store outlives a reset (R48). -/
theorem dropVolatile (part : PartState) : KeepsStore s (s.dropVolatile part) := of_store rfl

theorem powerOn : KeepsStore s s.powerOn := by
  have checked (u : State) : KeepsStore u u.backupCheck := Frame.ite u (of_store rfl) (refl u)
  exact Frame.ite s ((dropVolatile s _).trans (checked _)) (refl s)

theorem powerUp : KeepsStore s s.powerUp := Frame.ite s ((powerOn s).trans (startUp _)) (refl s)

/-! ## Tail writes within a run -/

theorem commandWithin (p : PortId) {command : State → State} (hc : ∀ u, KeepsStore u (command u)) :
    KeepsStore s (s.commandWithin p command) :=
  Frame.ite s (((dropSnapshot s p).trans (answer _ p _)).trans (hc _)) (refl s)

theorem runWithin (work : RunWork) {between : Between} (hb : between.Within KeepsStore) :
    KeepsStore s (s.runWithin work between) := by
  unfold State.runWithin
  split
  · exact postingWithin s hb
  · exact commandWithin s _ fun u => formatCommand u hb
  · exact commandWithin s _ fun u => resumeCommand u hb
  · split
    · exact journalRelease s hb
    · exact refl s
  · exact Frame.ite s ((powerOn s).trans (startWithin _ hb)) (refl s)

theorem writeTail (p : PortId) (event : TailEvent) : KeepsStore s (s.writeTail p event) := by
  unfold State.writeTail
  split
  · exact arrive s _ _
  · exact runWithin s _ (tailsBetween _)

/-! ## Reset, and the end of main power -/

theorem runWork : KeepsStore s s.runWork := by
  have dropped : KeepsStore s s.dropAccesses := of_store rfl
  unfold State.runWork
  split
  · exact dropped.trans (startUp _)
  · split
    · exact refl s
    · exact applyTaken s _
    · exact refl s
    · exact releaseWork s undisturbed
  · exact refl s

theorem runCut (work : CutWork) : KeepsStore s (s.runCut work) := by
  cases work with
  | inHand => exact runWork s
  | powerUp => exact powerUp s
  | write p addr v => exact arrive s p _
  | tailWithin p v run => exact writeTail s p ⟨v, some run⟩
  | tick => exact tick s
  | heldTrigger b => exact takeHeld s b
  | writeBack b => exact writeBackStep s b

/-- The cut work runs with a fuse, and its store is left without one (R48). -/
theorem afterCut (cut : Cut) : KeepsStore s (s.afterCut cut) where
  wf h := (runCut { s with store := { s.store with fuse := some cut.writes } } cut.work).wf h
  fuse _ := rfl

theorem resetLine (event : ResetEvent) : KeepsStore s (s.resetLine event) := by
  have ended (u : State) : KeepsStore u (u.startIf event.ends) := Frame.ite u (startUp u) (refl u)
  exact Frame.ite s (((afterCut s _).trans (dropVolatile _ _)).trans (ended _)) (refl s)

theorem powerOff (cut : Cut) : KeepsStore s (s.powerOff cut) :=
  Frame.ite s ((afterCut s cut).trans (dropVolatile _ _)) (refl s)

/-! ## Steps -/

/-- Every command keeps the store. -/
theorem exec_keeps {s t : State} (i : Instr) (e : exec i s = .next t) : KeepsStore s t := by
  cases i
  case powerUp => cases e; exact powerUp s
  case reset event => cases e; exact resetLine s event
  case mainPowerOff cut => cases e; exact powerOff s cut
  case secondTick => cases e; exact tick s
  case stallTimeout b => cases e; exact Frame.ite s (tick s) (refl s)
  case crystalStop count => cases e; exact Frame.ite s ((clock s _).trans (raiseIf _ _ _)) (refl s)
  case crystalRunsAgain => cases e; exact Frame.ite s (clock s _) (refl s)
  case backupSupplyLost => cases e; exact Frame.ite s (clock s _) (refl s)
  case descriptorFetchDone book => cases e; exact endFetch s book
  case guardedReadResume p => cases e; exact resumeRead s p
  case tailWrite p event => cases e; exact writeTail s p event
  case journalWaitRelease => cases e; exact journalRelease s undisturbed
  case bayHeldTrigger b => cases e; exact takeHeld s b
  case bayRecordWriteBack b => cases e; exact writeBackStep s b
  case internalAdmission => cases e; exact admitInternal s
  case format => cases e; exact formatRow s
  case unknownKind => cases e; exact unknownRow s
  case openAccount | setCredit | freeze | thaw | closeAccount | transfer | land | sell | withdraw | lend |
      returnCrate | registerCrate | retireCrate | writeOff | iceHold | iceSettle | bayRelease | dayClose =>
    cases e; exact applyRow s _ _
  all_goals cases e; exact arrive s _ _

end KeepsStore

/-- Settles O1: the step looks at the queue alone to choose the command. -/
theorem stepTakesFrontCommand : Obligations.StepTakesFrontCommand := by
  unfold Obligations.StepTakesFrontCommand
  intro c cs s
  rfl

/-- Settles O3: every command keeps the store, and so does the start-up of a STARTING part. -/
theorem stepKeepsStoreCanonical : Obligations.StepKeepsStoreCanonical := by
  unfold Obligations.StepKeepsStoreCanonical
  rintro s t ⟨canonical, uncut⟩ e
  have keeps : KeepsStore s t := by
    unfold step at e
    split at e
    · unfold idleStep at e
      split at e
      · cases e; exact .startUp s
      · cases e; exact .refl s
    · next c cs _ =>
      have rest : KeepsStore s { s with pending := cs } := .of_store rfl
      exact rest.trans (KeepsStore.exec_keeps c e)
  exact ⟨keeps.wf canonical, keeps.fuse uncut⟩

end Sys2Proof.Machine
end
